-- ==== Sys2Proof/Word.lean ====
section
/-! DEFINITION. The plainest words of the Ibrel 340 model: bytes, host-memory addresses, the three colour
channels, and a value per channel. -/

namespace Sys2Proof

/-- One byte of host memory. -/
abbrev Byte := BitVec 8

/-- A host-memory address: 64 bits (00_scope.md, Host memory; R172). -/
abbrev Addr := BitVec 64

/-- The three channels, always taken in the order R, G, B (00_scope.md, Pixel values). -/
inductive Channel where
  | red
  | green
  | blue
deriving DecidableEq, Repr

/-- A value held once per channel. -/
structure Tri (α : Type) where
  r : α
  g : α
  b : α
deriving DecidableEq, Repr

/-- The value of one channel. -/
def Tri.get {α : Type} (t : Tri α) : Channel → α
  | .red => t.r
  | .green => t.g
  | .blue => t.b

/-- The same three values with one channel's value replaced. -/
def Tri.put {α : Type} (t : Tri α) (c : Channel) (v : α) : Tri α :=
  match c with
  | .red => { t with r := v }
  | .green => { t with g := v }
  | .blue => { t with b := v }

/-- One value on all three channels. -/
def Tri.all {α : Type} (v : α) : Tri α := { r := v, g := v, b := v }

end Sys2Proof
end

