-- ==== Sys2Proof/Syntax.lean ====
section
/-! DEFINITION. The commands and events of the Ibrel 340: one constructor per row of spec/opcode_table.json, with the
operands that reach the controller from outside with it. Meanings stand in Machine/. -/

namespace Sys2Proof

/-- How the last part of a host-memory read came back: every part good, with the bytes read in address order, or some
part answered with an error (R50, R51, R66). -/
inductive Answer where
  | good (data : List Byte)
  | error
deriving DecidableEq, Repr

/-- How a read that has one end row for both cases ends: its last part arrived, or its read limit ran out first
(R133, R145, R148). -/
inductive ReadEnd where
  | complete (a : Answer)
  | expired
deriving DecidableEq, Repr

/-- The three sensor inputs whose qualified level can fall (R78, R119). -/
inductive SensorInput where
  | startOfScan
  | index
  | perforation
deriving DecidableEq, Repr

/-- A command written to the register window, or an event that the recorder, the timing clock or host memory brings
about. Each is taken whole. `id` is the identity that every host-memory read carries (R66, R133, 03 section 3.3). -/
inductive Instr where
  -- commands of the CONTROL register (R158)
  | start
  | pause
  | resume
  | stop
  | abort
  | spinDown
  | reset
  | unknownCommand (code : BitVec 8)
  -- the other register writes (R158, R171, R179)
  | runaddrWrite (high : Bool) (value : BitVec 32)
  | attentionWrite (value : BitVec 32)
  | registerWrite (offset : Nat) (bytes : Nat) (value : BitVec 32)
  | powerOn
  -- the scan (05)
  | sosEvent
  | indexEvent
  | watchdogExpiry
  | pixelWindowOpen
  | pixelWindowEnd
  | monitorWindowOpen
  | monitorWindowEnd
  | conversionCompletion (reading : BitVec 10)
  -- the three lock waits
  | frameLockWaitExpiry
  | primingLockWaitExpiry
  | settleLockTimeoutExpiry
  -- host-memory reads
  | lineReadPart (id : Nat) (error : Bool)
  | lineReadComplete (id : Nat) (answer : Answer)
  | lineReadTimerExpiry (id : Nat)
  | loadReadComplete (id : Nat) (answer : Answer)
  | loadReadExpiry (id : Nat)
  | runBlockReadEnd (id : Nat) (result : ReadEnd)
  | headerReadEnd (id : Nat) (result : ReadEnd)
  | cardReadEnd (id : Nat) (result : ReadEnd)
  | pollTimerExpiry
  -- the film (07)
  | stepIssue
  | settlingPeriodEnd
  | dwellEnd
  | perfEdge
  | driverFault
  -- the finer clocks
  | rasterPositionInterval
  | motorReferenceToggle
  | stepPulseEnd
  | qualifiedLevelFall (input : SensorInput)
  | faultLevelClear
deriving DecidableEq, Repr

end Sys2Proof
end

