-- ==== Sys2Proof/Decode.lean ====
section
/-! DEFINITION. From words to commands: the opcode table's words (its rows give no bits), and a host write to the
register window (R158, R177, R179). -/

namespace Sys2Proof

/-- The command that a table word spells. No row of the opcode table gives bits, so no word spells one. -/
def decodeTableWord (_nbits _w : Nat) : Option Instr := none

/-- The command of a code written to CONTROL (R158, R177). -/
def decodeCommand (code : BitVec 8) : Instr :=
  match code.toNat with
  | 1 => .start
  | 2 => .pause
  | 3 => .resume
  | 4 => .stop
  | 5 => .abort
  | 6 => .spinDown
  | 7 => .reset
  | _ => .unknownCommand code

/-- The command that a write of a number of bytes at an offset of the register window is (R158, R178, R179): a write
narrower than 32 bits, and one to IDENT, STATE or an offset that holds no register, is the ignored REGISTER_WRITE. So are
a 32-bit write at an offset that is no multiple of 4 and a write wider than 32 bits, of which the spec says nothing
(DESIGN CHOICE, log entry 32). -/
def decodeWrite (offset bytes : Nat) (value : BitVec 32) : Instr :=
  if bytes = 4 then
    match offset with
    | 0x04 => .runaddrWrite false value
    | 0x08 => .runaddrWrite true value
    | 0x0C => decodeCommand (value.extractLsb' 0 8)
    | 0x14 => .attentionWrite value
    | _ => .registerWrite offset bytes value
  else .registerWrite offset bytes value

end Sys2Proof
end

