-- ==== Sys2Proof/Config.lean ====
section
/-! DEFINITION. What the part fixes (capacities and time units), and the free values: what the spec says has no meaning
is an opaque constant here, so that no proof can see a value of it. -/

namespace Sys2Proof.Config

/-- Line slots of the ring (R44). -/
def ringSlots : Nat := 8
/-- Most image line reads outstanding (R49). -/
def lineReadLimit : Nat := 2
/-- Most load reads outstanding, and the bytes of one (R66). -/
def loadReadLimit : Nat := 4
def loadReadBytes : Nat := 512
/-- The interval counter's reload, 2^20 - 1 (R80). -/
def intervalReload : Nat := 1048575
/-- Raster positions of a line (00_scope.md, Film raster). -/
def rasterPositions : Nat := 4096
/-- Ticks from the ADC's sample to the completion (R102). -/
def conversionTicks : Nat := 200
/-- Least offset of a pixel window after its SOS (R92). -/
def leastWindowOffset : Nat := 16
/-- Consecutive samples that qualify a level: scan sensors (R78), and perforation and fault inputs (R119, R124). -/
def scanSamples : Nat := 4
def filmSamples : Nat := 12
/-- Ticks between two samples of the 1 MHz inputs (R119). -/
def filmSampleTicks : Nat := 100
/-- A tick is 10 ns (00_scope.md, Time): ticks of 10 µs, of 1 ms and of 100 ms. -/
def ticksPer10us : Nat := 1000
def ticksPerMs : Nat := 100000
def ticksPer100ms : Nat := 10000000
/-- The run block read's own limit, in units of 10 µs (R145). -/
def runBlockReadLimit : Nat := 255
/-- The direction line of the film drive, which the transport drives forward throughout (07, Film Transport). -/
def directionForward : Bool := true
/-- Dark readings in a row that make a LASER_DARK event (R105). -/
def darkReadings : Nat := 3

/-- FREE VALUE: the word of a curve copy that is INVALID, whose "contents have no meaning and are not read as a table"
(R62, R64). Arguments: stock slot, channel number, code value. -/
opaque invalidCurve : Nat → Channel → Nat → Int
/-- FREE VALUE: the trim of a curve copy that is INVALID (R62, R64). -/
opaque invalidTrim : Nat → Channel → Int
/-- FREE VALUE: the entry of a drive copy that is INVALID, for an image position (R62, R64). -/
opaque invalidDrive : Channel → Nat → BitVec 12
/-- FREE VALUE: pixel word i of a slot that is FREE, "not defined and not read" (R44). -/
opaque freeSlotWord : Nat → BitVec 32
/-- FREE VALUE: word k of a copy past the end of its image, which does not exist. Every reader of a VALID copy stays
within its image (R62, R63), so nothing rests on it. -/
opaque absentWord : Nat → BitVec 16

end Sys2Proof.Config
end

