-- ==== Sys2Proof/Machine/State.lean ====
section
/-! DEFINITION. Everything the spec gives the controller as state, block by block, and its values after power-on.
Timers are `Option Nat`: `none` is stopped, `some n` is running with n ticks remaining. -/

namespace Sys2Proof.Machine

/-! ## Stops -/

/-- The faults of a step. There is NONE: the spec gives every command and event an effect in every state (a command
that a state does not accept is refused by the CONTROL register's own rule R158, which is a next state), so no
constructor is needed and no step of this model ends in a fault. -/
inductive Fault where
deriving DecidableEq, Repr

/-- The refusals of a step. -/
inductive Refusal where
  /-- Raised by `exec` for a row that has no meaning yet. No arm of this model raises it. Safe: the machine stops. -/
  | notModelled (mnemonic : String)
deriving DecidableEq, Repr

/-! ## Named values (R177 gives their codes) -/

/-- Run states (R157). -/
inductive RunState where
  | idle | priming | running | waiting | held | halted | ending
deriving DecidableEq, Repr

/-- Halt causes, with NONE (R164, R177). -/
inductive HaltCause where
  | none | lockTimeout | polygonLost | laserDark | settleFail | powerLimit | retakesExhausted | cardRefused
  | tableLoad | cardRead | deckRead | deckSequence | filmOut | transport | registration
deriving DecidableEq, Repr

/-- Where RESUME takes a halted run (R157, R164). -/
inductive ResumePoint where
  | priming (stage : Nat)
  | running
  | waiting
deriving DecidableEq, Repr

/-- Outcome of the most recent command write (R157, R158). -/
inductive CommandOutcome where
  | none | accepted | refused
deriving DecidableEq, Repr

/-- Start fault codes, in the order of R159. -/
inductive StartFault where
  | none | unreadable | version | runRange | deckRange | spoilRange | rasterRange | polygonRange | lineRange | ringRange
  | powerRange | motionRange | edgeRange | filmRange | timingRange | policyRange | fit | edge | counter | transport
deriving DecidableEq, Repr

/-- The seven attention causes, in the order of their bit numbers (R171, R179). -/
inductive Cause where
  | deckReturned | spoil | hold | halt | powerLimit | filmLow | runEnd
deriving DecidableEq, Repr

/-- The two decks (R147). -/
inductive Deck where
  | a | b
deriving DecidableEq, Repr

/-- The seven table targets (R62). -/
inductive Target where
  | curve0 | curve1 | curve2 | curve3 | drive | shade | facet
deriving DecidableEq, Repr

/-! ## The run block (R146, R174) -/

/-- Fields of the polygon group. -/
structure PolygonFields where
  facets : Nat            -- F
  goodRevs : Nat          -- K
  period : Nat            -- T
  tolerance : Nat         -- TOL
  window : Nat            -- WIN
  watchdog : Nat          -- WD
  refdiv : Nat            -- REFDIV
deriving DecidableEq, Repr

/-- Fields of the line group; `divisor` is the field as read, where 0 stands for 64 (R31). -/
structure LineFields where
  divisor : Nat
  base : Nat              -- BASE
  mgap : Nat              -- MGAP
  mlen : Nat              -- MLEN
deriving DecidableEq, Repr

/-- Fields of the power group, with halt-on-limit. -/
structure PowerFields where
  lref : Tri Nat          -- LREF
  tgt : Tri Nat           -- TGT
  db : Nat                -- DB
  step : Nat              -- STEP
  sstep : Nat             -- SSTEP
  lim : Nat               -- LIM
  n : Nat                 -- N
  amax : Nat              -- AMAX
  need : Nat              -- NEED
  haltOnLimit : Nat
deriving DecidableEq, Repr

/-- Fields of the transport, edge and film groups. -/
structure FilmFields where
  ms : Nat                -- Ms
  mp : Nat                -- Mp
  stepPeriod : Nat
  dwell : Nat
  perfs : Nat             -- P
  edgeEnable : Nat
  eb : Nat                -- EB
  eo : Nat                -- EO
  startCounter : Nat
  frames : Nat
  lowThreshold : Nat
deriving DecidableEq, Repr

/-- The run block copy: the fields of the host-written area as read at START (R145). The run fields that R77, R99 and
R113 give the Scan Timing Unit, the Regulator and the transport, and HIGH, LOW and the read limit of the fetch engine
(R47, R49), are taken from this copy in the very step that replaces it, are kept by everything that keeps it, and are
0 after power-on as it is: they are stored once, here. -/
structure RunBlock where
  version : Nat
  runNumber : Nat
  firstSerial : Nat
  spoilCapacity : Nat
  deckA : Addr
  deckB : Addr
  spoilList : Addr
  height : Nat            -- H
  polygon : PolygonFields
  line : LineFields
  high : Nat              -- HIGH
  low : Nat               -- LOW
  power : PowerFields
  film : FilmFields
  readLimit : Nat
  pollInterval : Nat
  lockTimeout : Nat
deriving DecidableEq, Repr

/-! ## Register window and Run Controller -/

/-- The register window's own state (R171, R178, R179). `irq` is the interrupt line. -/
structure RegWindow where
  runaddrLo : BitVec 32
  runaddrHi : BitVec 32
  causes : BitVec 7
  enables : BitVec 7
  irq : Bool
deriving DecidableEq, Repr

/-- The Run Controller's state (R157). -/
structure RunCtl where
  state : RunState
  stage : Nat
  haltCause : HaltCause
  resume : ResumePoint
  stopPending : Bool
  abortRecord : Bool
  pausePending : Bool
  powerLimitPending : Bool
  lockWait : Option Nat
  lastOutcome : CommandOutcome
  startFault : StartFault
deriving DecidableEq, Repr

/-! ## Deck Reader and the host bus -/

/-- A read in flight: its identity and its timer. -/
structure PendingRead where
  id : Nat
  timer : Nat
deriving DecidableEq, Repr

/-- The run block read in flight (R145), with the priming stage that stood before the START that asked for it, which
a start fault leaves standing (R159). -/
structure RunBlockRead where
  id : Nat
  timer : Nat
  stageBefore : Nat
deriving DecidableEq, Repr

/-- State of the seek (R144). -/
inductive Seek where
  | idle | reading | pollWait
deriving DecidableEq, Repr

/-- The Deck Reader's state (R144). `serial` is the serial of the deck taken, as read at its take. -/
structure DeckReader where
  taken : Option Deck
  next : Deck
  expectedSerial : Nat
  serial : Nat
  cardCount : Nat
  finishedCount : Nat
  seek : Seek
  headerRead : Option PendingRead
  pollTimer : Option Nat
  snapshotEnabled : Bool
  generation : Nat
  runBlockRead : Option RunBlockRead
deriving DecidableEq, Repr

/-- One operation that the controller issues to host memory as bus master: a read request with its identity, or a
posted write (00_scope.md, Shared memory; R144). -/
inductive BusOp where
  | read (id : Nat) (addr : Addr) (bytes : Nat)
  | write (addr : Addr) (data : List Byte)
deriving DecidableEq, Repr

/-! ## Card Sequencer -/

/-- The fields of a FRAME card's body (R131, R175). -/
structure FrameCard where
  stock : Nat
  retakes : Nat
  holdAfter : Bool
  noEdge : Bool
  tag : Nat
  image : Addr
  stride : Nat
  width : Nat
  height : Nat
  x0 : Nat
  y0 : Nat
deriving DecidableEq, Repr

/-- A card body as read (R131). Fields hold the values read; a target is the code read. -/
inductive CardBody where
  | frame (c : FrameCard)
  | leader (count : Nat) (noEdge : Bool)
  | table (target : Nat) (source : Addr) (sum : Nat)
  | dump (target : Nat) (dest : Addr)
  | calibrate
  | hold
  | endCard
  | unknown (kind : Nat)
deriving DecidableEq, Repr

/-- Reasons of a refusal, with none (R141). -/
inductive Reason where
  | none | badKind | fieldRange | noTable | notSettled
deriving DecidableEq, Repr

/-- State of a card record (R132). -/
inductive RecState where
  | empty | reading | present
deriving DecidableEq, Repr

/-- Outcome of a card's read and validation (R132, R133, R134); `pending` while READING. -/
inductive CardOutcome where
  | pending
  | good (body : CardBody)
  | invalid (reason : Reason) (field : Nat) (body : CardBody)
  | readFailed
deriving DecidableEq, Repr

/-- A card record (R132). `entered`: the card has become current (R135 step 4) and the next index has passed it.
`acted`: its outcome has been acted on (R136); false again while the card is read anew (R137). -/
structure CardRecord where
  state : RecState
  serial : Nat
  index : Nat
  read : Option PendingRead
  outcome : CardOutcome
  finished : Bool
  entered : Bool
  acted : Bool
deriving DecidableEq, Repr

/-- The Card Sequencer's state (R132). -/
structure Sequencer where
  nextIndex : Nat
  current : CardRecord
  lookahead : CardRecord
deriving DecidableEq, Repr

/-! ## Frame Exposure -/

/-- Attempt states but NONE, which is an empty context (R3). -/
inductive AttemptState where
  | preparing | exposing | closing
deriving DecidableEq, Repr

/-- Close kind of a frame cycle (R1). -/
inductive CloseKind where
  | good | spoiled
deriving DecidableEq, Repr

/-- Causes that spoil an attempt, with NONE (R17, R18). -/
inductive SpoilCause where
  | none | underrun | lineError | lineTimeout | polygonLost | laserDark | abort
deriving DecidableEq, Repr

/-- The halt to be taken when the present cycle or card is done (R1). -/
inductive HaltAfter where
  | none | polygonLost | laserDark
deriving DecidableEq, Repr

/-- The lock wait of a PREPARING wait (R1, R7). -/
inductive LockWait where
  | stopped
  | running (ticks : Nat)
  | expired
deriving DecidableEq, Repr

/-- Clamp counts of one channel. -/
structure Clamp where
  low : Nat
  high : Nat
deriving DecidableEq, Repr

/-- The frame-attempt context (R1). `spoilLine` is the raster line kept for the spoil entry (R19). -/
structure FrameCtx where
  serial : Nat
  index : Nat
  card : FrameCard
  attempt : Nat
  state : AttemptState
  closeKind : CloseKind
  r : Nat
  position : Option Nat
  attemptsExposed : Nat
  firstFilm : Option Nat
  goodFilm : Option Nat
  lastSpoil : SpoilCause
  spoilLine : Nat
  retakePending : Bool
  haltAfter : HaltAfter
  clamps : Tri Clamp
  minOccupancy : Nat
  powerLimited : Bool
  lockWait : LockWait
deriving DecidableEq, Repr

/-- Frame Exposure's state (R1, R2): the context, empty when the attempt state is NONE, and the spoil-list counters. -/
structure FrameExposure where
  ctx : Option FrameCtx
  entriesWritten : Nat
  entriesDropped : Nat
deriving DecidableEq, Repr

/-! ## Line ring and fetch engine -/

/-- Names one attempt of one card (R54). -/
structure AttemptId where
  tag : Nat
  serial : Nat
  index : Nat
  attempt : Nat
deriving DecidableEq, Repr

/-- States of a slot in the list; a FREE slot is not in the list (R44). -/
inductive SlotState where
  | filling | ready | inUse
deriving DecidableEq, Repr

/-- How a slot's read ended (R44). -/
inductive SlotTag where
  | none | error | timeout
deriving DecidableEq, Repr

/-- A slot of the ring's list (R44). `readId` is the identity of the read that reserved it and names the slot;
`data` holds its pixel words once READY. -/
structure Slot where
  readId : Nat
  state : SlotState
  owner : AttemptId
  line : Nat
  tag : SlotTag
  words : Nat
  data : List (BitVec 32)
deriving DecidableEq, Repr

/-- An entry of the outstanding-read list (R49); not `linked` is voided. -/
structure LineRead where
  id : Nat
  linked : Bool
  parts : Nat
  errorSeen : Bool
  timer : Nat
deriving DecidableEq, Repr

/-- State of the fetch cursor (R54). -/
inductive CursorState where
  | parked | active | spent
deriving DecidableEq, Repr

/-- The fetch cursor (R54); `owner`, `image`, `stride`, `width` and `height` are its target. -/
structure Cursor where
  state : CursorState
  owner : AttemptId
  image : Addr
  stride : Nat
  width : Nat
  height : Nat
  next : Nat
  crossedFrom : Option AttemptId
deriving DecidableEq, Repr

/-- The Line Ring and the Line Fetch Engine: slots oldest first, fetch switch, outstanding reads oldest first, cursor
(R44, R47, R49, R54). -/
structure LineRing where
  slots : List Slot
  switchOn : Bool
  reads : List LineRead
  cursor : Cursor
deriving DecidableEq, Repr

/-! ## Exposure Datapath -/

/-- Modes of the Datapath (R29). -/
inductive DpMode where
  | idle | image | blank | dark | monitor
deriving DecidableEq, Repr

/-- Frame Exposure's decision for the next pixel window (R29); an image line names its slot. -/
inductive LineSource where
  | image (slot : Nat)
  | blank
deriving DecidableEq, Repr

/-- The Datapath's state (R29), the monitor request it holds (R42), the raster position the window will begin next with
the time to it (R31), and the three modulator inputs (R41). -/
structure Datapath where
  mode : DpMode
  pending : Option LineSource
  lineSlot : Option Nat
  curveSlot : Nat
  x0 : Nat
  w : Nat
  latched : Tri Int
  clamps : Tri Clamp
  monitorChannel : Option Channel
  monitorDrive : BitVec 12
  monitorRequest : Option Channel
  nextPosition : Nat
  positionTimer : Option Nat
  drive : Tri (BitVec 12)
deriving DecidableEq, Repr

/-! ## Table Store -/

/-- An active copy (R62): `valid`, and the words of the image. -/
structure ActiveCopy where
  valid : Bool
  words : List (BitVec 16)
deriving DecidableEq, Repr

/-- States of a staged copy (R62). -/
inductive StagedState where
  | invalid | loading | valid
deriving DecidableEq, Repr

/-- A staged copy (R62). -/
structure StagedCopy where
  state : StagedState
  words : List (BitVec 16)
deriving DecidableEq, Repr

/-- A value held once per target. -/
structure PerTarget (α : Type) where
  curve0 : α
  curve1 : α
  curve2 : α
  curve3 : α
  drive : α
  shade : α
  facet : α
deriving DecidableEq, Repr

/-- The value of one target. -/
def PerTarget.get {α : Type} (p : PerTarget α) : Target → α
  | .curve0 => p.curve0
  | .curve1 => p.curve1
  | .curve2 => p.curve2
  | .curve3 => p.curve3
  | .drive => p.drive
  | .shade => p.shade
  | .facet => p.facet

/-- The same values with one target's value replaced. -/
def PerTarget.put {α : Type} (p : PerTarget α) (t : Target) (v : α) : PerTarget α :=
  match t with
  | .curve0 => { p with curve0 := v }
  | .curve1 => { p with curve1 := v }
  | .curve2 => { p with curve2 := v }
  | .curve3 => { p with curve3 := v }
  | .drive => { p with drive := v }
  | .shade => { p with shade := v }
  | .facet => { p with facet := v }

/-- One value for all seven targets. -/
def PerTarget.all {α : Type} (v : α) : PerTarget α :=
  { curve0 := v, curve1 := v, curve2 := v, curve3 := v, drive := v, shade := v, facet := v }

/-- The load in progress (R65). -/
structure Load where
  target : Target
  serial : Nat
  index : Nat
  source : Addr
  expected : Nat
  issued : Nat
  ended : Nat
  failed : Bool
deriving DecidableEq, Repr

/-- A load read outstanding (R66). `live` is false once its load was abandoned (R71); `number` is its place in the
image, counted in reads of 512 bytes. -/
structure LoadRead where
  id : Nat
  live : Bool
  number : Nat
  bytes : Nat
  timer : Nat
deriving DecidableEq, Repr

/-- The dump in progress: its target, its destination, and how many image writes were issued (R74, R75). -/
structure Dump where
  target : Target
  dest : Addr
  issued : Nat
deriving DecidableEq, Repr

/-- The Table Store's state (R62, R65, R66, R75). -/
structure TableStore where
  active : PerTarget ActiveCopy
  staged : PerTarget StagedCopy
  load : Option Load
  reads : List LoadRead
  dump : Option Dump
deriving DecidableEq, Repr

/-! ## Scan Timing Unit -/

/-- The lock state (R88). -/
inductive LockState where
  | stopped | spinning | locking | locked
deriving DecidableEq, Repr

/-- Where the present line stands in its windows (R77). -/
inductive WindowStage where
  | none | pixelWait | pixel | monitorWait | monitor
deriving DecidableEq, Repr

/-- A started revolution record (R87). -/
structure Revolution where
  sum : Nat
  intervals : Nat
  bad : Bool
deriving DecidableEq, Repr

/-- The Scan Timing Unit's state (R77, R78, R97). `refHigh` and `refTimer` are the motor reference output and the rest
of its level; `windowTimer` is the time to the present line's next window event; `sosRun` and `indexRun` count the
consecutive samples that differ from the qualified level. -/
structure ScanTiming where
  running : Bool
  refHigh : Bool
  refTimer : Option Nat
  lock : LockState
  facet : Nat
  indexPending : Bool
  interval : Nat
  intervalValid : Bool
  watchdog : Option Nat
  averages : List Nat
  rev : Option Revolution
  goodCount : Nat
  window : WindowStage
  mark : Bool
  windowTimer : Option Nat
  sosLevel : Bool
  indexLevel : Bool
  sosRun : Nat
  indexRun : Nat
deriving DecidableEq, Repr

/-! ## Power Regulator and laser gate -/

/-- Regulator states (R100). -/
inductive RegulatorState where
  | unsettled | settling | settled
deriving DecidableEq, Repr

/-- What a monitor sample is for (R99). -/
inductive Purpose where
  | regulate | settle
deriving DecidableEq, Repr

/-- A sample: channel, purpose, valid mark (R99, R101). -/
structure Sample where
  channel : Channel
  purpose : Purpose
  valid : Bool
deriving DecidableEq, Repr

/-- The sample that the ADC is converting (R102): `reading` is what it sampled, `timer` the ticks to its completion. -/
structure Conversion where
  sample : Sample
  reading : BitVec 10
  timer : Nat
deriving DecidableEq, Repr

/-- The settle record (R99). -/
structure SettleRecord where
  channel : Channel
  attempts : Nat
  inBand : Nat
  waiting : Bool
  used : Tri Nat
deriving DecidableEq, Repr

/-- The Power Regulator's state and the laser gate (R98, R99). -/
structure Power where
  state : RegulatorState
  pwr : Tri Int
  limited : Tri Bool
  dark : Tri Nat
  darkHaltPending : Bool
  cadence : Nat
  nextChannel : Channel
  settle : SettleRecord
  settleTimeout : Option Nat
  marked : Option Sample
  conversion : Option Conversion
  gateOpen : Bool
deriving DecidableEq, Repr

/-! ## Film Transport and Edge Marker -/

/-- Transport states (R114). -/
inductive TransportState where
  | still | scanning | catchup | pulling | dwell | faulted
deriving DecidableEq, Repr

/-- Kind of a cycle (R113). -/
inductive CycleKind where
  | good | spoiled | leader
deriving DecidableEq, Repr

/-- The cycle record (R113). `forFrame` is owner FRAME; otherwise the owner is LEADER. -/
structure Cycle where
  forFrame : Bool
  kind : CycleKind
  position : Nat
  edgeOn : Bool
deriving DecidableEq, Repr

/-- The LEADER card current (R113, R125). -/
structure LeaderCard where
  count : Nat
  noEdge : Bool
  completed : Nat
deriving DecidableEq, Repr

/-- The transport's state (R113), with the step generator's timers and the step line (R115), the settling period and
the dwell timer (R118), and the sample clock and runs of the 1 MHz inputs (R119, R124). -/
structure Film where
  state : TransportState
  cycle : Option Cycle
  leader : Option LeaderCard
  scanRequested : Nat
  scanIssued : Nat
  pullIssued : Nat
  owed : Nat
  stepTimer : Option Nat
  stepHigh : Bool
  pulseTimer : Option Nat
  settlingTimer : Option Nat
  dwellTimer : Option Nat
  perfCount : Nat
  perfLevel : Bool
  faultLevel : Bool
  sampleClock : Nat
  perfRun : Nat
  faultRun : Nat
  counter : Nat
  magazine : Nat
  good : Nat
  spoiled : Nat
  leaders : Nat
  edgeCode : BitVec 44
  led : Bool
deriving DecidableEq, Repr

/-! ## Inputs from the recorder -/

/-- The raw input pins: the two scan sensors, the perforation sensor, the drive's fault line, and the code that the ADC
would read from the monitor photodiode now. The world outside drives them; no command changes them. -/
structure Pins where
  sos : Bool
  index : Bool
  perf : Bool
  fault : Bool
  photodiode : BitVec 10
deriving DecidableEq, Repr

/-! ## The whole machine -/

/-- The controller. `pending` is the queue of commands and events waiting, first in first out; `bus` every operation
issued to host memory, oldest first; `nextId` the identity the next host-memory read will carry. -/
structure State where
  pending : List Instr
  regs : RegWindow
  run : RunCtl
  rb : RunBlock
  deck : DeckReader
  seq : Sequencer
  frame : FrameExposure
  ring : LineRing
  dp : Datapath
  tables : TableStore
  scan : ScanTiming
  power : Power
  film : Film
  pins : Pins
  bus : List BusOp
  nextId : Nat
deriving DecidableEq, Repr

/-! ### One update per field -/

def State.setPending (s : State) (v : List Instr) : State := { s with pending := v }
def State.setRegs (s : State) (v : RegWindow) : State := { s with regs := v }
def State.setRun (s : State) (v : RunCtl) : State := { s with run := v }
def State.setRb (s : State) (v : RunBlock) : State := { s with rb := v }
def State.setDeck (s : State) (v : DeckReader) : State := { s with deck := v }
def State.setSeq (s : State) (v : Sequencer) : State := { s with seq := v }
def State.setFrame (s : State) (v : FrameExposure) : State := { s with frame := v }
def State.setRing (s : State) (v : LineRing) : State := { s with ring := v }
def State.setDp (s : State) (v : Datapath) : State := { s with dp := v }
def State.setTables (s : State) (v : TableStore) : State := { s with tables := v }
def State.setScan (s : State) (v : ScanTiming) : State := { s with scan := v }
def State.setPower (s : State) (v : Power) : State := { s with power := v }
def State.setFilm (s : State) (v : Film) : State := { s with film := v }
def State.setPins (s : State) (v : Pins) : State := { s with pins := v }
def State.setBus (s : State) (v : List BusOp) : State := { s with bus := v }
def State.setNextId (s : State) (v : Nat) : State := { s with nextId := v }

/-! ### Power-on values, block by block -/

/-- Register window at power-on (R170, R178). -/
def RegWindow.reset : RegWindow := { runaddrLo := 0, runaddrHi := 0, causes := 0, enables := 0, irq := false }

/-- Run Controller at power-on (R157). -/
def RunCtl.reset : RunCtl :=
  { state := .idle, stage := 1, haltCause := .none, resume := .running, stopPending := false, abortRecord := false,
    pausePending := false, powerLimitPending := false, lockWait := none, lastOutcome := .none, startFault := .none }

/-- The run block copy at power-on: 0 (R144). -/
def RunBlock.reset : RunBlock :=
  { version := 0, runNumber := 0, firstSerial := 0, spoilCapacity := 0, deckA := 0, deckB := 0, spoilList := 0,
    height := 0,
    polygon := { facets := 0, goodRevs := 0, period := 0, tolerance := 0, window := 0, watchdog := 0, refdiv := 0 },
    line := { divisor := 0, base := 0, mgap := 0, mlen := 0 },
    high := 0, low := 0,
    power := { lref := .all 0, tgt := .all 0, db := 0, step := 0, sstep := 0, lim := 0, n := 0, amax := 0, need := 0,
               haltOnLimit := 0 },
    film := { ms := 0, mp := 0, stepPeriod := 0, dwell := 0, perfs := 0, edgeEnable := 0, eb := 0, eo := 0,
              startCounter := 0, frames := 0, lowThreshold := 0 },
    readLimit := 0, pollInterval := 0, lockTimeout := 0 }

/-- Deck Reader at power-on (R144). -/
def DeckReader.reset : DeckReader :=
  { taken := none, next := .a, expectedSerial := 0, serial := 0, cardCount := 0, finishedCount := 0, seek := .idle,
    headerRead := none, pollTimer := none, snapshotEnabled := false, generation := 0, runBlockRead := none }

/-- An EMPTY card record (R132). -/
def CardRecord.emptied : CardRecord :=
  { state := .empty, serial := 0, index := 0, read := none, outcome := .pending, finished := false, entered := false,
    acted := false }

/-- Card Sequencer at power-on (R132). -/
def Sequencer.reset : Sequencer := { nextIndex := 0, current := .emptied, lookahead := .emptied }

/-- Frame Exposure at power-on (R2). -/
def FrameExposure.reset : FrameExposure := { ctx := none, entriesWritten := 0, entriesDropped := 0 }

/-- A PARKED cursor with no target and crossed from none (R54). R54 gives a PARKED cursor no next line and no target: they
are 0 (DESIGN CHOICE, log entry 16). -/
def Cursor.reset : Cursor :=
  { state := .parked, owner := { tag := 0, serial := 0, index := 0, attempt := 0 }, image := 0, stride := 0, width := 0,
    height := 0, next := 0, crossedFrom := none }

/-- Line Ring at power-on (R44, R47, R60). -/
def LineRing.reset : LineRing := { slots := [], switchOn := true, reads := [], cursor := .reset }

/-- Datapath at power-on and after a soft reset (R29). R29 does not list the monitor request of R42, nor the next position
and its timer, which are the model's own: none, 0 and stopped (DESIGN CHOICE, log entry 16). -/
def Datapath.reset : Datapath :=
  { mode := .idle, pending := none, lineSlot := none, curveSlot := 0, x0 := 0, w := 0, latched := .all 0,
    clamps := .all { low := 0, high := 0 }, monitorChannel := none, monitorDrive := 0, monitorRequest := none,
    nextPosition := 0, positionTimer := none, drive := .all 0 }

/-- Table Store at power-on: every copy INVALID (R76). -/
def TableStore.reset : TableStore :=
  { active := .all { valid := false, words := [] }, staged := .all { state := .invalid, words := [] }, load := none,
    reads := [], dump := none }

/-- Scan Timing Unit at power-on and after a soft reset (R77, R78, R97). -/
def ScanTiming.reset : ScanTiming :=
  { running := false, refHigh := false, refTimer := none, lock := .stopped, facet := 0, indexPending := false,
    interval := Config.intervalReload, intervalValid := false, watchdog := none, averages := List.replicate 16 0,
    rev := none, goodCount := 0, window := .none, mark := false, windowTimer := none, sosLevel := false,
    indexLevel := false, sosRun := 0, indexRun := 0 }

/-- The settle record at power-on, soft reset and START (R99). -/
def SettleRecord.reset : SettleRecord :=
  { channel := .red, attempts := 0, inBand := 0, waiting := false, used := .all 0 }

/-- Power Regulator at power-on, after a soft reset and at START, with the gate CLOSED (R98, R99). -/
def Power.reset : Power :=
  { state := .unsettled, pwr := .all 0, limited := .all false, dark := .all 0, darkHaltPending := false, cadence := 0,
    nextChannel := .red, settle := .reset, settleTimeout := none, marked := none, conversion := none,
    gateOpen := false }

/-- Film Transport at power-on (R113, R115). -/
def Film.reset : Film :=
  { state := .still, cycle := none, leader := none, scanRequested := 0, scanIssued := 0, pullIssued := 0, owed := 0,
    stepTimer := none, stepHigh := false, pulseTimer := none, settlingTimer := none, dwellTimer := none, perfCount := 0,
    perfLevel := false, faultLevel := false, sampleClock := 0, perfRun := 0, faultRun := 0, counter := 0, magazine := 0,
    good := 0, spoiled := 0, leaders := 0, edgeCode := 0, led := false }

/-- The input pins at power-on: DESIGN CHOICE, log entry 3 (the spec gives the world's inputs no value). -/
def Pins.reset : Pins := { sos := false, index := false, perf := false, fault := false, photodiode := 0 }

/-- The machine right after power-on (R170 and each block's own rule), with an empty queue. -/
def State.reset : State :=
  { pending := [], regs := .reset, run := .reset, rb := .reset, deck := .reset, seq := .reset, frame := .reset,
    ring := .reset, dp := .reset, tables := .reset, scan := .reset, power := .reset, film := .reset, pins := .reset,
    bus := [], nextId := 0 }

end Sys2Proof.Machine
end

