-- ==== Sys2Proof/Machine/Operands.lean ====
section
/-! DEFINITION. Byte order, two's complement, and how the structures that the host writes are read: the run block, a
deck header, a card body, pixel words and table words (R28, R63, R172 to R175). -/

namespace Sys2Proof.Machine

/-! ## Byte order (R172) -/

/-- The unsigned integer of bytes in little-endian order. -/
def leNat : List Byte → Nat
  | [] => 0
  | b :: rest => b.toNat + 256 * leNat rest

/-- The `w` bytes of a number in little-endian order, modulo 2^(8w). -/
def toLE : Nat → Nat → List Byte
  | 0, _ => []
  | w + 1, n => BitVec.ofNat 8 n :: toLE w (n / 256)

/-- A signed number in `w` bytes of two's complement. -/
def toLESigned (w : Nat) (v : Int) : List Byte := toLE w (v % (256 ^ w : Nat)).toNat

/-- The field of `w` bytes at an offset of a structure. -/
def fieldAt (bs : List Byte) (off w : Nat) : Nat := leNat ((bs.drop off).take w)

/-- The 64-bit address at an offset of a structure. -/
def addrAt (bs : List Byte) (off : Nat) : Addr := BitVec.ofNat 64 (fieldAt bs off 8)

/-- Bit `k` of a number. -/
def bitAt (n k : Nat) : Bool := n.testBit k

/-- An address plus a byte offset, in 64 bits (00_scope.md; log entry 5). -/
def addrPlus (a : Addr) (n : Nat) : Addr := a + BitVec.ofNat 64 n

/-- An address is a multiple of n (R134, R159). -/
def aligned (a : Addr) (n : Nat) : Bool := a.toNat % n == 0

/-- 16-bit words in the little-endian order of host memory (R63). -/
def words16 : List Byte → List (BitVec 16)
  | b0 :: b1 :: rest => BitVec.ofNat 16 (b0.toNat + 256 * b1.toNat) :: words16 rest
  | _ => []

/-- 32-bit pixel words in the little-endian order of host memory (R28). -/
def words32 : List Byte → List (BitVec 32)
  | b0 :: b1 :: b2 :: b3 :: rest => BitVec.ofNat 32 (leNat [b0, b1, b2, b3]) :: words32 rest
  | _ => []

/-- The bytes of 16-bit words (R63, R74). -/
def bytes16 (ws : List (BitVec 16)) : List Byte := ws.flatMap fun w => toLE 2 w.toNat

/-- The code value of a channel in a pixel word (R28). -/
def codeValue (w : BitVec 32) : Channel → Nat
  | .red => (w.toNat >>> 20) % 1024
  | .green => (w.toNat >>> 10) % 1024
  | .blue => w.toNat % 1024

/-- A read's answer held against the bytes asked for. A completion of another length is malformed, which is an error
completion (R51; log entry 6). -/
def answerOf (a : Answer) (bytes : Nat) : Option (List Byte) :=
  match a with
  | .good data => if data.length = bytes then some data else none
  | .error => none

/-- The data of a read that ended, or none for a read failure (R133, R145, R148). -/
def endData (e : ReadEnd) (bytes : Nat) : Option (List Byte) :=
  match e with
  | .complete a => answerOf a bytes
  | .expired => none

/-! ## The run block (R174) -/

/-- Three 2-byte fields in the order R, G, B. -/
def triAt (bs : List Byte) (off : Nat) : Tri Nat :=
  { r := fieldAt bs off 2, g := fieldAt bs (off + 2) 2, b := fieldAt bs (off + 4) 2 }

/-- The fields of the host area, bytes 0x00 to 0xFF (R174). -/
def parseRunBlock (bs : List Byte) : RunBlock :=
  { version := fieldAt bs 0x00 2
    runNumber := fieldAt bs 0x02 2
    firstSerial := fieldAt bs 0x04 2
    spoilCapacity := fieldAt bs 0x06 2
    deckA := addrAt bs 0x08
    deckB := addrAt bs 0x10
    spoilList := addrAt bs 0x18
    height := fieldAt bs 0x20 2
    polygon :=
      { facets := fieldAt bs 0x22 1
        goodRevs := fieldAt bs 0x23 1
        period := fieldAt bs 0x24 4
        tolerance := fieldAt bs 0x28 4
        window := fieldAt bs 0x2C 4
        watchdog := fieldAt bs 0x30 4
        refdiv := fieldAt bs 0x34 2 }
    line :=
      { divisor := fieldAt bs 0x36 1
        base := fieldAt bs 0x38 2
        mgap := fieldAt bs 0x3A 2
        mlen := fieldAt bs 0x3C 2 }
    high := fieldAt bs 0x3E 1
    low := fieldAt bs 0x3F 1
    power :=
      { lref := triAt bs 0x40
        tgt := triAt bs 0x46
        db := fieldAt bs 0x4C 1
        step := fieldAt bs 0x4D 1
        sstep := fieldAt bs 0x4E 1
        lim := fieldAt bs 0x4F 1
        n := fieldAt bs 0x50 1
        amax := fieldAt bs 0x51 1
        need := fieldAt bs 0x52 1
        haltOnLimit := fieldAt bs 0x53 1 }
    film :=
      { ms := fieldAt bs 0x54 2
        mp := fieldAt bs 0x56 2
        stepPeriod := fieldAt bs 0x58 2
        dwell := fieldAt bs 0x5A 1
        perfs := fieldAt bs 0x5B 1
        edgeEnable := fieldAt bs 0x5C 1
        eb := fieldAt bs 0x5D 1
        eo := fieldAt bs 0x5E 2
        startCounter := fieldAt bs 0x60 4
        frames := fieldAt bs 0x64 4
        lowThreshold := fieldAt bs 0x68 4 }
    readLimit := fieldAt bs 0x6C 1
    pollInterval := fieldAt bs 0x6D 1
    lockTimeout := fieldAt bs 0x6E 1 }

/-- The pixel divisor in force: the field value 0 stands for 64 (R31). -/
def RunBlock.divisorTicks (rb : RunBlock) : Nat := if rb.line.divisor = 0 then 64 else rb.line.divisor

/-- The read limit in ticks (R49, 00_scope.md Time). -/
def RunBlock.readTicks (rb : RunBlock) : Nat := rb.readLimit * Config.ticksPer10us

/-- The lock timeout in ticks. -/
def RunBlock.lockTicks (rb : RunBlock) : Nat := rb.lockTimeout * Config.ticksPer100ms

/-- The poll interval in ticks. -/
def RunBlock.pollTicks (rb : RunBlock) : Nat := rb.pollInterval * Config.ticksPerMs

/-! ## START's checks (R95, R129, R130, R159) -/

/-- lo ≤ n ≤ hi. -/
def inRange (n lo hi : Nat) : Bool := lo ≤ n && n ≤ hi

/-- The fit condition (R95): the line's latest end against the shortest facet interval. -/
def RunBlock.fits (rb : RunBlock) : Bool :=
  rb.line.base + 1023 + Config.rasterPositions * rb.divisorTicks + rb.line.mgap + rb.line.mlen + rb.polygon.window
    ≤ rb.polygon.period / rb.polygon.facets

/-- Checks 2 to 18 of R159, in its order; check 1 is the read itself and check 19 the fault level. -/
def RunBlock.checks (rb : RunBlock) : List (StartFault × Bool) :=
  [ (.version, rb.version == 1),
    (.runRange, inRange rb.runNumber 0 4095),
    (.deckRange, aligned rb.deckA 64 && aligned rb.deckB 64 && rb.deckA != rb.deckB && inRange rb.firstSerial 0 65535),
    (.spoilRange, aligned rb.spoilList 32 && inRange rb.spoilCapacity 0 65535),
    (.rasterRange, inRange rb.height 16 4096),
    (.polygonRange,
      inRange rb.polygon.facets 4 16 && inRange rb.polygon.period 1 16777215 &&
      inRange rb.polygon.tolerance 0 16777215 && inRange rb.polygon.window 0 1048575 &&
      inRange rb.polygon.goodRevs 1 255 && inRange rb.polygon.watchdog 16 1048575 &&
      inRange rb.polygon.refdiv 1 65535),
    (.lineRange,
      inRange rb.line.divisor 0 63 && inRange rb.line.base 0 65535 && inRange rb.line.mgap 0 4095 &&
      inRange rb.line.mlen 16 1023),
    (.ringRange, inRange rb.high 2 8 && decide (rb.low < rb.high)),
    (.powerRange,
      inRange rb.power.lref.r 0 4095 && inRange rb.power.lref.g 0 4095 && inRange rb.power.lref.b 0 4095 &&
      inRange rb.power.tgt.r 1 1022 && inRange rb.power.tgt.g 1 1022 && inRange rb.power.tgt.b 1 1022 &&
      inRange rb.power.db 0 63 && inRange rb.power.step 1 15 && inRange rb.power.sstep 1 63 &&
      inRange rb.power.lim 1 255 && inRange rb.power.n 1 64 && inRange rb.power.amax 1 255 &&
      inRange rb.power.need 1 15),
    (.motionRange,
      inRange rb.film.ms 1 65535 && inRange rb.film.mp 1 65535 && inRange rb.film.stepPeriod 100 65535 &&
      inRange rb.film.dwell 0 255 &&
      (rb.film.perfs == 2 || rb.film.perfs == 3 || rb.film.perfs == 4 || rb.film.perfs == 8)),
    (.edgeRange, inRange rb.film.edgeEnable 0 1 && inRange rb.film.eb 1 255 && inRange rb.film.eo 0 65535),
    (.filmRange,
      inRange rb.film.startCounter 0 16777215 && inRange rb.film.frames 0 16777215 &&
      inRange rb.film.lowThreshold 0 16777215),
    (.timingRange, inRange rb.readLimit 1 255 && inRange rb.pollInterval 1 255 && inRange rb.lockTimeout 1 255),
    (.policyRange, inRange rb.power.haltOnLimit 0 1),
    (.fit, rb.fits),
    (.edge, decide (44 * rb.film.eb + rb.film.eo ≤ rb.film.mp)),
    (.counter, decide (rb.film.startCounter + rb.film.frames ≤ 16777215)) ]

/-- The first check of a list that fails, NONE when all pass (R159). -/
def firstFailing : List (StartFault × Bool) → StartFault
  | [] => .none
  | (f, ok) :: rest => if ok then firstFailing rest else f

/-- The start fault of a run block that was read whole, with the transport's qualified fault level (R159). -/
def startFaultOf (rb : RunBlock) (faultLevel : Bool) : StartFault :=
  firstFailing (rb.checks ++ [(.transport, !faultLevel)])

/-! ## Deck headers and card bodies (R175) -/

/-- The fields of a deck header that the controller reads (R147, R175). -/
structure DeckHeader where
  state : Nat
  serial : Nat
  count : Nat
deriving DecidableEq, Repr

/-- A deck header from its 64 bytes. -/
def parseHeader (bs : List Byte) : DeckHeader :=
  { state := fieldAt bs 0x00 4, serial := fieldAt bs 0x04 2, count := fieldAt bs 0x06 1 }

/-- The code of the header state LOADED (R147). -/
def headerLoaded : Nat := 1
def headerInUse : Nat := 2
def headerReturned : Nat := 3

/-- A target by its code (R177). -/
def targetOf : Nat → Option Target
  | 0 => some .curve0
  | 1 => some .curve1
  | 2 => some .curve2
  | 3 => some .curve3
  | 4 => some .drive
  | 5 => some .shade
  | 6 => some .facet
  | _ => none

/-- The curve target of a stock slot (R62). -/
def curveTarget (slot : Nat) : Target :=
  match slot with
  | 0 => .curve0
  | 1 => .curve1
  | 2 => .curve2
  | _ => .curve3

/-- A card body from its 80 bytes (R175, R177). -/
def parseBody (bs : List Byte) : CardBody :=
  let flags := fieldAt bs 0x03 1
  match fieldAt bs 0x00 1 with
  | 1 => .frame
      { stock := fieldAt bs 0x01 1, retakes := fieldAt bs 0x02 1, holdAfter := bitAt flags 0, noEdge := bitAt flags 1,
        tag := fieldAt bs 0x04 4, image := addrAt bs 0x08, stride := fieldAt bs 0x10 4, width := fieldAt bs 0x14 2,
        height := fieldAt bs 0x16 2, x0 := fieldAt bs 0x18 2, y0 := fieldAt bs 0x1A 2 }
  | 2 => .leader (fieldAt bs 0x04 2) (bitAt flags 1)
  | 3 => .table (fieldAt bs 0x01 1) (addrAt bs 0x08) (fieldAt bs 0x04 4)
  | 4 => .dump (fieldAt bs 0x01 1) (addrAt bs 0x08)
  | 5 => .calibrate
  | 6 => .hold
  | 7 => .endCard
  | k => .unknown k

/-- The checks of a body by field number, in the order of R134. `h` is the run's raster height. -/
def bodyChecks (h : Nat) : CardBody → List (Nat × Bool)
  | .frame c =>
    [ (1, decide (c.stock ≤ 3)),
      (2, decide (c.retakes ≤ 3)),
      (3, aligned c.image 64),
      (4, inRange c.width 16 4096 && c.width % 16 == 0),
      (5, c.stride % 64 == 0 && decide (4 * c.width ≤ c.stride)),
      (6, inRange c.height 1 h),
      (7, decide (c.x0 + c.width ≤ 4096)),
      (8, decide (c.y0 + c.height ≤ h)) ]
  | .leader count _ => [(1, inRange count 1 4096)]
  | .table t src _ => [(1, (targetOf t).isSome), (2, aligned src 64)]
  | .dump t dst => [(1, (targetOf t).isSome), (2, aligned dst 64)]
  | .calibrate => []
  | .hold => []
  | .endCard => []
  | .unknown _ => []

/-- The number of the first field that fails, if any (R134). -/
def firstBadField : List (Nat × Bool) → Option Nat
  | [] => none
  | (n, ok) :: rest => if ok then firstBadField rest else some n

/-- Validation of a delivered body (R134). -/
def validateBody (h : Nat) (b : CardBody) : CardOutcome :=
  match b with
  | .unknown _ => .invalid .badKind 0 b
  | _ =>
    match firstBadField (bodyChecks h b) with
    | none => .good b
    | some n => .invalid .fieldRange n b

/-- The outcome of a card read that ended (R133). -/
def cardOutcomeOf (h : Nat) (e : ReadEnd) : CardOutcome :=
  match endData e 80 with
  | none => .readFailed
  | some bs => validateBody h (parseBody bs)

/-- The body a record knows, if its read delivered one. -/
def CardOutcome.body : CardOutcome → Option CardBody
  | .good b => some b
  | .invalid _ _ b => some b
  | .pending => none
  | .readFailed => none

end Sys2Proof.Machine
end

