-- ==== Sys2Proof/Machine/Flags.lean ====
section
/-! DEFINITION. Codes of the named values (R177), the attention causes and the interrupt line (R171), and what the
register window reads (R178, R179). -/

namespace Sys2Proof.Machine

/-! ## Codes (R177) -/

def RunState.code : RunState → Nat
  | .idle => 0 | .priming => 1 | .running => 2 | .waiting => 3 | .held => 4 | .halted => 5 | .ending => 6

def HaltCause.code : HaltCause → Nat
  | .none => 0 | .lockTimeout => 1 | .polygonLost => 2 | .laserDark => 3 | .settleFail => 4 | .powerLimit => 5
  | .retakesExhausted => 6 | .cardRefused => 7 | .tableLoad => 8 | .cardRead => 9 | .deckRead => 10
  | .deckSequence => 11 | .filmOut => 12 | .transport => 13 | .registration => 14

def CommandOutcome.code : CommandOutcome → Nat
  | .none => 0 | .accepted => 1 | .refused => 2

/-- A start fault's code is the order number of the failing check in R159. -/
def StartFault.code : StartFault → Nat
  | .none => 0 | .unreadable => 1 | .version => 2 | .runRange => 3 | .deckRange => 4 | .spoilRange => 5
  | .rasterRange => 6 | .polygonRange => 7 | .lineRange => 8 | .ringRange => 9 | .powerRange => 10 | .motionRange => 11
  | .edgeRange => 12 | .filmRange => 13 | .timingRange => 14 | .policyRange => 15 | .fit => 16 | .edge => 17
  | .counter => 18 | .transport => 19

def LockState.code : LockState → Nat
  | .stopped => 0 | .spinning => 1 | .locking => 2 | .locked => 3

def RegulatorState.code : RegulatorState → Nat
  | .unsettled => 0 | .settling => 1 | .settled => 2

def TransportState.code : TransportState → Nat
  | .still => 0 | .scanning => 1 | .catchup => 2 | .pulling => 3 | .dwell => 4 | .faulted => 5

/-- Attempt state NONE is an empty context (R3). -/
def attemptCode : Option FrameCtx → Nat
  | none => 0
  | some c =>
    match c.state with
    | .preparing => 1
    | .exposing => 2
    | .closing => 3

def SpoilCause.code : SpoilCause → Nat
  | .none => 0 | .underrun => 1 | .lineError => 2 | .lineTimeout => 3 | .polygonLost => 4 | .laserDark => 5
  | .abort => 6

def Reason.code : Reason → Nat
  | .none => 0 | .badKind => 1 | .fieldRange => 2 | .noTable => 3 | .notSettled => 4

/-- Kind code of an edge code (R127). -/
def CycleKind.code : CycleKind → Nat
  | .good => 0 | .spoiled => 1 | .leader => 2

/-- Causes that may be resumed (R164). -/
def HaltCause.resumable : HaltCause → Bool
  | .none => false
  | .filmOut => false
  | .transport => false
  | .registration => false
  | .lockTimeout => true
  | .polygonLost => true
  | .laserDark => true
  | .settleFail => true
  | .powerLimit => true
  | .retakesExhausted => true
  | .cardRefused => true
  | .tableLoad => true
  | .cardRead => true
  | .deckRead => true
  | .deckSequence => true

/-! ## Attention (R171) -/

/-- The bit of a cause (R179). -/
def Cause.bit : Cause → BitVec 7
  | .deckReturned => 1
  | .spoil => 2
  | .hold => 4
  | .halt => 8
  | .powerLimit => 16
  | .filmLow => 32
  | .runEnd => 64

/-- The interrupt line's law: at least one cause both set and enabled (R171). -/
def irqOf (causes enables : BitVec 7) : Bool := causes &&& enables != 0

/-- The line brought to its law. -/
def RegWindow.withIrq (g : RegWindow) : RegWindow := { g with irq := irqOf g.causes g.enables }

/-- A cause is set. -/
def RegWindow.isSet (g : RegWindow) (c : Cause) : Bool := g.causes &&& c.bit != 0

/-- Raises a cause and brings the line to its law (R171). -/
def State.raise (s : State) (c : Cause) : State :=
  s.setRegs ({ s.regs with causes := s.regs.causes ||| c.bit }).withIrq

/-! ## Register reads (R178, R179) -/

/-- IDENT: part code 340, revision 1, vendor 0x5A. -/
def identWord : BitVec 32 := 0x5A010154

/-- The STATE register's layout. -/
def stateWord (s : State) : BitVec 32 :=
  BitVec.ofNat 10 s.film.counter ++ (0 : BitVec 1) ++ BitVec.ofNat 5 s.run.startFault.code ++
    BitVec.ofNat 2 s.run.lastOutcome.code ++ BitVec.ofNat 3 s.film.state.code ++ BitVec.ofNat 2 s.power.state.code ++
    BitVec.ofNat 2 s.scan.lock.code ++ BitVec.ofNat 4 s.run.haltCause.code ++ BitVec.ofNat 3 s.run.state.code

/-- The ATTENTION register's layout: enables in bits 22 to 16, causes in bits 6 to 0. -/
def attentionWord (s : State) : BitVec 32 :=
  (0 : BitVec 9) ++ s.regs.enables ++ (0 : BitVec 9) ++ s.regs.causes

/-- A 32-bit read of the register window; it changes no state. CONTROL reads as 0, as do the empty offsets. -/
def readRegister (s : State) (offset : Nat) : BitVec 32 :=
  match offset with
  | 0x00 => identWord
  | 0x04 => s.regs.runaddrLo
  | 0x08 => s.regs.runaddrHi
  | 0x10 => stateWord s
  | 0x14 => attentionWord s
  | _ => 0

/-- A read of any width: the addressed bytes of the register that holds them, where the byte at the lowest offset is bits
7..0 (DESIGN CHOICE, log entry 35). Of a read that runs past its first
register, as a 32-bit read at an offset that is no multiple of 4 and a read wider than 32 bits do, the bytes of that
register alone come (DESIGN CHOICE, log entry 32). -/
def readWindow (s : State) (offset bytes : Nat) : List Byte :=
  ((toLE 4 (readRegister s (offset / 4 * 4)).toNat).drop (offset % 4)).take bytes

/-- The run block's address: RUNADDR with its low six bits taken as 0 (R145). -/
def runBlockAddr (s : State) : Addr := (s.regs.runaddrHi ++ s.regs.runaddrLo) &&& ~~~(63 : Addr)

end Sys2Proof.Machine
end

