-- ==== Sys2Proof/Machine/Formats.lean ====
section
/-! DEFINITION. The bytes that the controller writes into host memory: result areas, spoil entries, the snapshot
(R17, R141, R155, R156, R173 to R176). Reserved bytes are 0 (R173). -/

namespace Sys2Proof.Machine

/-- Zero bytes. -/
def zeros (n : Nat) : List Byte := List.replicate n 0

/-- One byte of a number, modulo 256. -/
def byteOf (n : Nat) : Byte := BitVec.ofNat 8 n

/-- A flag as 0 or 1. -/
def flagNat (b : Bool) : Nat := if b then 1 else 0

/-! ## Card results (R141, R175) -/

/-- Outcomes of a card (R141, R177). -/
inductive ResultOutcome where
  | exposed | retaken | failed | refused | skipped | done | staged | loadFailed | dumped | nothingToDump | settled
  | settleFailed
deriving DecidableEq, Repr

def ResultOutcome.code : ResultOutcome → Nat
  | .exposed => 1 | .retaken => 2 | .failed => 3 | .refused => 4 | .skipped => 5 | .done => 6 | .staged => 7
  | .loadFailed => 8 | .dumped => 9 | .nothingToDump => 10 | .settled => 11 | .settleFailed => 12

/-- Details of a table load (R67, R177). -/
inductive Detail where
  | none | readError | sum | range | order
deriving DecidableEq, Repr

def Detail.code : Detail → Nat
  | .none => 0 | .readError => 1 | .sum => 2 | .range => 3 | .order => 4

/-- The fields of a result that belong to the card's kind (R17, R70, R74, R112, R126). -/
inductive KindFields where
  | none
  | frame (lastSpoil : SpoilCause) (attempts : Nat) (powerLimited : Bool) (minOccupancy : Nat)
      (firstFilm goodFilm : Option Nat) (clamps : Tri Clamp)
  | leader (completed : Nat)
  | table (detail : Detail) (sum : Nat) (position : Option Nat)
  | dump (sum words : Nat)
  | calibrate (pwr : Tri Int) (used : Tri Nat)
deriving DecidableEq, Repr

/-- A card's result but its finish film counter, which is taken when it is written (R141). -/
structure CardResult where
  outcome : ResultOutcome
  reason : Reason
  field : Nat
  kind : KindFields
deriving DecidableEq, Repr

/-- A 32-bit field that holds all bits set when absent (R17, R70). -/
def optional32 (v : Option Nat) : List Byte :=
  match v with
  | some n => toLE 4 n
  | none => List.replicate 4 0xFF

def clampBytes (c : Clamp) : List Byte := toLE 4 c.low ++ toLE 4 c.high

/-- The 40 kind bytes of a result area (R175). -/
def KindFields.bytes : KindFields → List Byte
  | .none => zeros 40
  | .frame spoil attempts limited occ first good clamps =>
    [byteOf spoil.code, byteOf attempts, byteOf (flagNat limited), byteOf occ] ++ optional32 first ++
      optional32 good ++ clampBytes clamps.r ++ clampBytes clamps.g ++ clampBytes clamps.b ++ zeros 4
  | .leader n => toLE 2 n ++ zeros 38
  | .table detail sum pos => [byteOf detail.code, 0, 0, 0] ++ toLE 4 sum ++ optional32 pos ++ zeros 28
  | .dump sum words => zeros 4 ++ toLE 4 sum ++ toLE 4 words ++ zeros 28
  | .calibrate pwr used =>
    toLESigned 2 pwr.r ++ toLESigned 2 pwr.g ++ toLESigned 2 pwr.b ++
      [byteOf used.r, byteOf used.g, byteOf used.b] ++ zeros 31

/-- The 48 bytes of a result area (R175). -/
def CardResult.bytes (r : CardResult) (filmCounter : Nat) : List Byte :=
  [byteOf r.outcome.code, byteOf r.reason.code, byteOf r.field, 0] ++ toLE 4 filmCounter ++ r.kind.bytes

/-- The kind fields of a card that was never worked (R138, R141): those its owner gives for an unworked card, and none
for a card of unknown kind. -/
def unworked : CardBody → KindFields
  | .frame _ => .frame .none 0 false 8 none none (.all { low := 0, high := 0 })
  | .leader _ _ => .leader 0
  | .table _ _ _ => .table .none 0 none
  | .dump _ _ => .dump 0 0
  | .calibrate => .none
  | .hold => .none
  | .endCard => .none
  | .unknown _ => .none

/-- The frame result's fields, taken from the context (R17); the good film counter goes with EXPOSED and RETAKEN. -/
def frameFields (c : FrameCtx) (o : ResultOutcome) : KindFields :=
  let good :=
    match o with
    | .exposed => c.goodFilm
    | .retaken => c.goodFilm
    | _ => none
  .frame c.lastSpoil c.attemptsExposed c.powerLimited c.minOccupancy c.firstFilm good c.clamps

/-! ## Spoil entry (R23, R176) -/

/-- The 32 bytes of the spoil entry of a context's spoiled attempt. The attempt spoiled is the last one exposed (R20). -/
def spoilEntryBytes (c : FrameCtx) (runNumber : Nat) : List Byte :=
  optional32 c.position ++ [byteOf c.lastSpoil.code, byteOf c.attemptsExposed] ++ toLE 2 c.spoilLine ++
    toLE 4 c.card.tag ++ toLE 2 c.serial ++ toLE 2 c.index ++ toLE 2 runNumber ++ zeros 14

/-! ## Snapshot (R156, R174) -/

/-- A 16-bit field of the current record, all bits set when it is EMPTY. -/
def recordField (r : CardRecord) (v : Nat) : List Byte :=
  match r.state with
  | .empty => [0xFF, 0xFF]
  | .reading => toLE 2 v
  | .present => toLE 2 v

/-- The limited flags' byte: bit 0 R, bit 1 G, bit 2 B. -/
def limitedByte (t : Tri Bool) : Byte := byteOf (flagNat t.r + 2 * flagNat t.g + 4 * flagNat t.b)

/-- The 248 bytes of the snapshot body, 0x104 to 0x1FB, as the state stands. -/
def snapshotBody (s : State) : List Byte :=
  [byteOf s.run.state.code, byteOf s.run.haltCause.code, byteOf (attemptCode s.frame.ctx), byteOf s.scan.lock.code,
   byteOf s.power.state.code, limitedByte s.power.limited, byteOf s.ring.slots.length, 0] ++
  recordField s.seq.current s.seq.current.serial ++ recordField s.seq.current s.seq.current.index ++
  toLE 4 s.film.counter ++ toLE 4 s.film.magazine ++ toLE 4 s.film.good ++ toLE 4 s.film.spoiled ++
  toLE 4 s.film.leaders ++ toLE 4 s.frame.entriesWritten ++ toLE 4 s.frame.entriesDropped ++
  toLESigned 2 s.power.pwr.r ++ toLESigned 2 s.power.pwr.g ++ toLESigned 2 s.power.pwr.b ++ zeros 2 ++
  s.scan.averages.flatMap (toLE 4) ++ zeros 136

end Sys2Proof.Machine
end

