-- ==== Sys2Proof/Machine/Ops.lean ====
section
/-! DEFINITION. The operations that every block shares: the host bus, the snapshot, the laser gate, changes of run state,
halts, card results and the deck seek (R98, R144, R148, R152 to R156, R162, R164). -/

namespace Sys2Proof.Machine

/-! ## Host bus -/

/-- Issues a posted write (R144). -/
def State.busWrite (s : State) (addr : Addr) (data : List Byte) : State := s.setBus (s.bus ++ [.write addr data])

/-- Issues a read request under the next identity. -/
def State.busRead (s : State) (addr : Addr) (bytes : Nat) : State :=
  (s.setBus (s.bus ++ [.read s.nextId addr bytes])).setNextId (s.nextId + 1)

/-! ## Snapshot (R155, R156) -/

/-- A refresh: the generation rises, then head, body and tail are written. Made while the snapshot is enabled. -/
def State.refresh (s : State) : State :=
  if s.deck.snapshotEnabled then
    let g := (s.deck.generation + 1) % 4294967296
    (((s.setDeck { s.deck with generation := g }).busWrite (addrPlus (runBlockAddr s) 0x100) (toLE 4 g)).busWrite
      (addrPlus (runBlockAddr s) 0x104) (snapshotBody s)).busWrite (addrPlus (runBlockAddr s) 0x1FC) (toLE 4 g)
  else s

/-! ## Laser gate (R98) -/

/-- The run states in which the gate may be OPEN. -/
def RunState.gateSet : RunState → Bool
  | .priming => true
  | .running => true
  | .waiting => true
  | .held => true
  | .idle => false
  | .halted => false
  | .ending => false

/-- The gate's law: LOCKED, and a run state of the set. -/
def gateLaw (lock : LockState) (run : RunState) : Bool := lock == .locked && run.gateSet

/-- A sample with its valid mark cleared. -/
def Sample.voided (m : Sample) : Sample := { m with valid := false }

/-- The gate brought to its law. When it closes between a monitor window's opening and the ADC's sample, the marked
sample is voided (R102). -/
def State.updateGate (s : State) : State :=
  let g := gateLaw s.scan.lock s.run.state
  if s.power.gateOpen && !g && s.scan.window == .monitor then
    s.setPower { s.power with gateOpen := g, marked := s.power.marked.map Sample.voided }
  else s.setPower { s.power with gateOpen := g }

/-! ## Run state (R157, R162, R164) -/

/-- The run state changes, and the gate follows it. -/
def State.enterRunState (s : State) (r : RunState) : State := (s.setRun { s.run with state := r }).updateGate

/-- A change of run state with the refresh that belongs to it (R156). -/
def State.changeRunState (s : State) (r : RunState) : State := (s.enterRunState r).refresh

/-- The seek is stopped: poll timer stopped, a header read in flight disowned (R150). -/
def DeckReader.stopSeek (d : DeckReader) : DeckReader :=
  { d with seek := .idle, headerRead := none, pollTimer := none }

/-- HELD or HALTED entered from WAITING stops the seek (R150). -/
def State.stopSeekOfWaiting (s : State) : State :=
  match s.run.state with
  | .waiting => s.setDeck s.deck.stopSeek
  | _ => s

/-- The resume point that a halt records (R164 step 2). -/
def resumePointOf (s : State) : ResumePoint :=
  match s.run.state with
  | .priming => .priming s.run.stage
  | .waiting => .waiting
  | _ =>
    match s.deck.taken with
    | none => .waiting
    | some _ => .running

/-- A halt is taken in these run states (R164). -/
def RunState.takesHalt : RunState → Bool
  | .priming => true
  | .running => true
  | .waiting => true
  | .held => true
  | .idle => false
  | .halted => false
  | .ending => false

/-- The Run Controller's record of a halt that is taken (R164 steps 1 to 3). -/
def haltRecord (s : State) (c : HaltCause) : RunCtl :=
  { s.run with haltCause := c, resume := resumePointOf s, pausePending := false, lockWait := none }

/-- Dark halt pending becomes no (R106). -/
def Power.clearDarkHalt (p : Power) : Power := { p with darkHaltPending := false }

/-- The Regulator at a halt of the run: dark halt pending becomes no, and at a LASER_DARK halt the dark counts of all
three channels restart from 0 (R106). -/
def Power.halted (p : Power) (c : HaltCause) : Power :=
  match c with
  | .laserDark => { p with darkHaltPending := false, dark := .all 0 }
  | _ => p.clearDarkHalt

/-- A halt reported to the Run Controller (R164). While HALTED a TRANSPORT halt replaces the cause and any other
changes nothing; in ENDING and IDLE none is taken. Every halt taken reaches the Regulator (R106). -/
def State.halt (s : State) (c : HaltCause) : State :=
  if s.run.state.takesHalt then
    ((((s.stopSeekOfWaiting.setRun (haltRecord s c)).setPower (s.power.halted c)).enterRunState .halted).raise
      .halt).refresh
  else
    match s.run.state, c with
    | .halted, .transport =>
      (((s.setRun { s.run with haltCause := .transport }).setPower s.power.clearDarkHalt).raise .halt).refresh
    | _, _ => s

/-- HELD is entered, which meets every pause pending (R162); `mark` raises HOLD (R16, R139). -/
def State.enterHeld (s : State) (mark : Bool) : State :=
  let t := ((s.stopSeekOfWaiting.setRun { s.run with pausePending := false }).enterRunState .held)
  (if mark then t.raise .hold else t).refresh

/-- The outcome of a command write (R158). -/
def State.answer (s : State) (o : CommandOutcome) : State := s.setRun { s.run with lastOutcome := o }

/-! ## Decks and results (R147, R148, R152, R153) -/

/-- The address of a deck. -/
def deckAddr (s : State) : Deck → Addr
  | .a => s.rb.deckA
  | .b => s.rb.deckB

/-- The byte offset of a card's slot in its deck (R147). -/
def slotOffset (index : Nat) : Nat := 0x40 + 0x80 * index

/-- Writes a card's result area and then the header's finished count (R152). With no deck taken, or for a card that has
a result, nothing is written. -/
def State.writeResult (s : State) (index : Nat) (r : CardResult) : State :=
  match s.deck.taken with
  | none => s
  | some d =>
    if index < s.deck.finishedCount then s
    else
      let n := s.deck.finishedCount + 1
      let t := s.busWrite (addrPlus (deckAddr s d) (slotOffset index + 0x50)) (r.bytes s.film.counter)
      (t.setDeck { s.deck with finishedCount := n }).busWrite (addrPlus (deckAddr s d) 0x08) [byteOf n]

/-- The current card's result is handed on: written, and the record marked finished (R132, R152). -/
def State.handResult (s : State) (r : CardResult) : State :=
  let t := s.writeResult s.seq.current.index r
  t.setSeq { t.seq with current := { t.seq.current with finished := true } }

/-- A seek: the header of the next deck is read (R148). -/
def State.seekDeck (s : State) : State :=
  let t := s.busRead (deckAddr s s.deck.next) 64
  t.setDeck
    { s.deck with
      seek := .reading, headerRead := some { id := s.nextId, timer := s.rb.readTicks }, pollTimer := none }

/-- RETURNED is written into the deck taken, it is no longer taken, and DECK_RETURNED is raised (R153 steps 1 to 3). -/
def State.returnDeck (s : State) : State :=
  match s.deck.taken with
  | none => s
  | some d =>
    (((s.busWrite (deckAddr s d) (toLE 4 headerReturned)).setDeck { s.deck with taken := none })).raise .deckReturned

/-! ## What the current card is (R162) -/

/-- A card is current: it has become current, and neither a first read nor a re-read is in flight. -/
def cardCurrent (s : State) : Bool :=
  match s.seq.current.state with
  | .present => s.seq.current.entered && !s.seq.current.finished
  | .reading => false
  | .empty => false

/-- The body of the current card, when one is current and was dispatched. -/
def currentBody (s : State) : Option CardBody :=
  if cardCurrent s then
    match s.seq.current.outcome with
    | .good b => some b
    | _ => none
  else none

end Sys2Proof.Machine
end

