-- ==== Sys2Proof/Machine/Ring.lean ====
section
/-! DEFINITION. The Line Ring and the Line Fetch Engine (R44 to R61). -/

namespace Sys2Proof.Machine

/-! ## Occupancy and the fetch switch -/

/-- Occupancy: slots that are not FREE (R44). -/
def LineRing.occupancy (g : LineRing) : Nat := g.slots.length

/-- The fetch switch examined against the occupancy (R47). -/
def LineRing.applySwitch (g : LineRing) (high low : Nat) : LineRing :=
  if high ≤ g.occupancy then { g with switchOn := false }
  else if g.occupancy ≤ low then { g with switchOn := true }
  else g

/-! ## The cursor (R54 to R56) -/

/-- The attempt that the context holds now. -/
def FrameCtx.attemptId (c : FrameCtx) : AttemptId :=
  { tag := c.card.tag, serial := c.serial, index := c.index, attempt := c.attempt }

/-- An attempt belongs to the card in the context. -/
def ofCard (a : AttemptId) (c : FrameCtx) : Bool := a.tag == c.card.tag && a.serial == c.serial && a.index == c.index

/-- A cursor pointed at line 0 of an attempt of a card (R55, R56, R58). -/
def Cursor.pointed (owner : AttemptId) (c : FrameCard) (crossed : Option AttemptId) : Cursor :=
  { state := .active, owner := owner, image := c.image, stride := c.stride, width := c.width, height := c.height,
    next := 0, crossedFrom := crossed }

/-- Parking sets crossed from to none (R54). -/
def Cursor.park (c : Cursor) : Cursor := { c with state := .parked, crossedFrom := none }

/-- The cursor stands within an attempt (R54). -/
def Cursor.within (c : Cursor) (a : AttemptId) : Bool :=
  match c.state with
  | .parked => false
  | .active => c.owner == a || c.crossedFrom == some a
  | .spent => c.owner == a || c.crossedFrom == some a

/-- The FRAME card that the lookahead record holds validated, if any (R56). -/
def lookaheadFrame (s : State) : Option FrameCard :=
  match s.seq.lookahead.state, s.seq.lookahead.outcome with
  | .present, .good (.frame c) => some c
  | _, _ => none

/-- The cursor after a crossing, when it may cross (R56). -/
def crossedCursor (s : State) : Option Cursor :=
  match s.frame.ctx, lookaheadFrame s with
  | some ctx, some card =>
    if s.ring.cursor.state == .spent && ofCard s.ring.cursor.owner ctx then
      some (Cursor.pointed
        { tag := card.tag, serial := s.seq.lookahead.serial, index := s.seq.lookahead.index, attempt := 1 } card
        (some s.ring.cursor.owner))
    else none
  | _, _ => none

/-- A SPENT cursor tries to cross (R56). -/
def State.tryCross (s : State) : State :=
  match crossedCursor s with
  | some c => s.setRing { s.ring with cursor := c }
  | none => s

/-! ## Issuing reads (R48) -/

/-- The four conditions of R48. -/
def fetchReady (s : State) : Bool :=
  s.ring.switchOn && decide (s.ring.reads.length < Config.lineReadLimit) && decide (s.ring.occupancy < s.rb.high) &&
    s.ring.cursor.state == .active

/-- The slot that the next read reserves (R48 step 1). -/
def newSlot (s : State) : Slot :=
  { readId := s.nextId, state := .filling, owner := s.ring.cursor.owner, line := s.ring.cursor.next, tag := .none,
    words := s.ring.cursor.width, data := [] }

/-- The cursor past the line just asked for (R48 step 4, R56). -/
def Cursor.advanced (c : Cursor) : Cursor :=
  if c.next + 1 < c.height then { c with next := c.next + 1 } else { c with next := c.next + 1, state := .spent }

/-- The address of the cursor's next line (R48 step 3). -/
def Cursor.lineAddr (c : Cursor) : Addr := addrPlus c.image (c.next * c.stride)

/-- The ring after one read is issued (R47, R48 steps 1, 2 and 4). -/
def issuedRing (s : State) : LineRing :=
  LineRing.applySwitch
    { s.ring with
      slots := s.ring.slots ++ [newSlot s]
      reads := s.ring.reads ++
        [{ id := s.nextId, linked := true, parts := 0, errorSeen := false, timer := s.rb.readTicks }]
      cursor := s.ring.cursor.advanced } s.rb.high s.rb.low

/-- One read is issued when the conditions hold; a cursor that became SPENT tries to cross. -/
def State.fetchOne (s : State) : State :=
  if fetchReady s then
    ((s.busRead s.ring.cursor.lineAddr (s.ring.cursor.width * 4)).setRing (issuedRing s)).tryCross
  else s

/-- R48 re-examined: reads are issued one after another until a condition fails. At most two reads are ever
outstanding, so the third examination always fails. -/
def State.fetch (s : State) : State := s.fetchOne.fetchOne

/-! ## Flush (R58) -/

/-- Every linked read becomes voided; its timer runs on. -/
def LineRead.voided (e : LineRead) : LineRead := { e with linked := false }

/-- The emptied ring: slots FREE, reads voided, switch ON, cursor as named. -/
def LineRing.flushed (g : LineRing) (c : Cursor) : LineRing :=
  { slots := [], switchOn := true, reads := g.reads.map LineRead.voided, cursor := c }

/-- A flush with the cursor parked. -/
def State.flushParked (s : State) : State := (s.setRing (s.ring.flushed s.ring.cursor.park)).fetch

/-- A flush with the cursor set to line 0 of the context's pending attempt. -/
def State.flushToAttempt (s : State) (c : FrameCtx) : State :=
  (s.setRing (s.ring.flushed (.pointed c.attemptId c.card none))).fetch

/-- The cursor is parked without a flush (R21). -/
def State.parkCursor (s : State) : State := s.setRing { s.ring with cursor := s.ring.cursor.park }

/-- The cursor pointed at the context's attempt, unless it stands within it (R6, R55). -/
def State.pointCursor (s : State) (c : FrameCtx) : State :=
  if s.ring.cursor.within c.attemptId then s
  else
    let t := if s.ring.slots.isEmpty then s else s.flushParked
    (t.setRing { t.ring with cursor := .pointed c.attemptId c.card none }).fetch

/-- The cursor parked at a FRAME card's finish when its target is an attempt of that card (R56). -/
def State.parkAtFinish (s : State) (c : FrameCtx) : State :=
  if ofCard s.ring.cursor.owner c then s.parkCursor else s

/-! ## Slots -/

/-- The head slot taken for a line (R46): it becomes IN_USE. -/
def takeHead : List Slot → List Slot
  | [] => []
  | h :: rest => { h with state := .inUse } :: rest

/-- A slot is returned at its pixel window's end (R46): it leaves the list, then R47 and R48 are applied. -/
def State.returnSlot (s : State) (id : Nat) : State :=
  (s.setRing (LineRing.applySwitch { s.ring with slots := s.ring.slots.filter fun x => x.readId != id } s.rb.high
    s.rb.low)).fetch

/-- The ring is primed for an attempt (R57). -/
def primed (s : State) (c : FrameCtx) : Bool :=
  let n := min s.rb.high c.card.height
  decide (n ≤ s.ring.slots.length) &&
    (s.ring.slots.take n).all fun x => x.state == .ready && x.owner == c.attemptId

/-! ## The end of a line read (R50 to R53) -/

/-- A slot whose read ended: READY, with the tag, and its words or 0s (R45). -/
def Slot.ended (x : Slot) (tag : SlotTag) (data : List (BitVec 32)) : Slot :=
  { x with state := .ready, tag := tag, data := data }

/-- The slot that a read fills, replaced in the list. -/
def fillSlot (id : Nat) (f : Slot → Slot) (l : List Slot) : List Slot :=
  l.map fun x => if x.readId = id then f x else x

/-- What a completed read leaves in its slot (R50, R51). A completion of the wrong length is an error (log entry 6). -/
def completedSlot (errorSeen : Bool) (a : Answer) (x : Slot) : Slot :=
  match errorSeen, answerOf a (x.words * 4) with
  | false, some data => x.ended .none (words32 data)
  | _, _ => x.ended .error (List.replicate x.words 0)

/-- What an expired read leaves in its slot (R52). -/
def expiredSlot (errorSeen : Bool) (x : Slot) : Slot :=
  x.ended (if errorSeen then .error else .timeout) (List.replicate x.words 0)

/-- The outstanding entry of an identity (R49). -/
def LineRing.entry (g : LineRing) (id : Nat) : Option LineRead := g.reads.find? fun e => e.id == id

/-- A read ends: its entry leaves the list, a linked slot takes its data, and R48 is re-examined. -/
def State.endLineRead (s : State) (e : LineRead) (f : Slot → Slot) : State :=
  (s.setRing
    { s.ring with
      reads := s.ring.reads.filter fun x => x.id != e.id
      slots := if e.linked then fillSlot e.id f s.ring.slots else s.ring.slots }).fetch

/-- A part is recorded against its read (R49, R51). -/
def LineRead.withPart (e : LineRead) (error : Bool) : LineRead :=
  { e with parts := e.parts + 1, errorSeen := e.errorSeen || error }

end Sys2Proof.Machine
end

