-- ==== Sys2Proof/Machine/Datapath.lean ====
section
/-! DEFINITION. The Exposure Datapath: windows, the pixel computation, the modulator inputs, and the monitor drive
(R28 to R43, R64). -/

namespace Sys2Proof.Machine

/-! ## Readers of the active copies (R63, R64) -/

/-- Word `k` of a copy. -/
def ActiveCopy.word (c : ActiveCopy) (k : Nat) : BitVec 16 := c.words.getD k (Config.absentWord k)

/-- The place of a channel's run of `n` words in an image that holds R, G, B in order (R63). -/
def channelBase (n : Nat) : Channel → Nat
  | .red => 0
  | .green => n
  | .blue => 2 * n

/-- The curve stage E = CURVE[slot][ch][c] (R32). -/
def curveValue (t : TableStore) (slot : Nat) (ch : Channel) (c : Nat) : Int :=
  let copy := t.active.get (curveTarget slot)
  if copy.valid then ((copy.word (channelBase 1024 ch + c)).toNat : Int) else Config.invalidCurve slot ch c

/-- The trim stage Tr = TRIM[slot][ch] (R33). -/
def trimValue (t : TableStore) (slot : Nat) (ch : Channel) : Int :=
  let copy := t.active.get (curveTarget slot)
  if copy.valid then (copy.word (3072 + channelBase 1 ch)).toInt else Config.invalidTrim slot ch

/-- A knot SHADE[ch][k]; an INVALID copy's knots read as 0 (R64). -/
def knot (t : TableStore) (ch : Channel) (k : Nat) : Int :=
  if t.active.shade.valid then (t.active.shade.word (channelBase 33 ch + k)).toInt else 0

/-- The shading stage at raster position x (R34): the division by 128 rounds toward minus infinity. -/
def shading (t : TableStore) (ch : Channel) (x : Nat) : Int :=
  let z := x / 128
  let f : Int := ((x - 128 * z : Nat) : Int)
  let d := knot t ch (z + 1) - knot t ch z
  knot t ch z + d * f / 128

/-- The drive stage DRIVE[ch][L] for an image position (R37). -/
def driveEntry (t : TableStore) (ch : Channel) (l : Nat) : BitVec 12 :=
  if t.active.drive.valid then BitVec.ofNat 12 (t.active.drive.word (channelBase 4096 ch + l)).toNat
  else Config.invalidDrive ch l

/-- The drive entry for a monitor window; 0 while the active DRIVE copy is INVALID (R42, R64). -/
def monitorEntry (t : TableStore) (ch : Channel) (l : Nat) : BitVec 12 :=
  if t.active.drive.valid then driveEntry t ch l else 0

/-- A facet's trim; an INVALID copy's trims read as 0 (R64, R92). -/
def facetTrim (t : TableStore) (f : Nat) : Int :=
  if t.active.facet.valid then (t.active.facet.word f).toInt else 0

/-! ## The pixel computation (R34 to R37) -/

/-- A log exposure limited to 0..4095 (R36, R42). -/
def limitLog (l : Int) : Nat := if l < 0 then 0 else if 4095 < l then 4095 else l.toNat

/-- The sum of the four terms, before its limit (R36). -/
def logSum (t : TableStore) (slot : Nat) (ch : Channel) (c x : Nat) (offset : Int) : Int :=
  curveValue t slot ch c + trimValue t slot ch + shading t ch x + offset

/-- The clamp counters after one sum: low below 0, high above 4095 (R36). -/
def Clamp.counted (k : Clamp) (l : Int) : Clamp :=
  if l < 0 then { k with low := k.low + 1 } else if 4095 < l then { k with high := k.high + 1 } else k

/-- Position x lies inside the image span (R31). -/
def Datapath.inSpan (d : Datapath) (x : Nat) : Bool := d.x0 ≤ x && decide (x < d.x0 + d.w)

/-- The slot that the window is driven from. -/
def drivenSlot (s : State) : Option Slot :=
  match s.dp.lineSlot with
  | none => none
  | some id => s.ring.slots.find? fun x => x.readId == id

/-- Pixel word i of the slot driven; a FREE slot's words are not defined (R44). -/
def pixelWord (s : State) (i : Nat) : BitVec 32 :=
  match drivenSlot s with
  | some x => x.data.getD i (Config.freeSlotWord i)
  | none => Config.freeSlotWord i

/-- The sum of one channel at the position that begins now. -/
def positionSum (s : State) (ch : Channel) : Int :=
  logSum s.tables s.dp.curveSlot ch (codeValue (pixelWord s (s.dp.nextPosition - s.dp.x0)) ch) s.dp.nextPosition
    (s.dp.latched.get ch)

/-- The drive code of one channel at the position that begins now. -/
def positionDrive (s : State) (ch : Channel) : BitVec 12 := driveEntry s.tables ch (limitLog (positionSum s ch))

/-- What driving the position that begins now does to the inputs and the line clamp counters (R31, R36, R40, R41). -/
def drivePosition (s : State) : Datapath :=
  if s.dp.mode == .image && s.dp.inSpan s.dp.nextPosition then
    { s.dp with
      drive := { r := positionDrive s .red, g := positionDrive s .green, b := positionDrive s .blue }
      clamps :=
        { r := s.dp.clamps.r.counted (positionSum s .red)
          g := s.dp.clamps.g.counted (positionSum s .green)
          b := s.dp.clamps.b.counted (positionSum s .blue) } }
  else { s.dp with drive := .all 0 }

/-! ## Opening, ending and cutting windows -/

def noClamps : Tri Clamp := .all { low := 0, high := 0 }

/-- The card that is EXPOSING, if one is. -/
def exposingCard (ctx : Option FrameCtx) : Option FrameCard :=
  match ctx with
  | none => none
  | some c =>
    match c.state with
    | .exposing => some c.card
    | .preparing => none
    | .closing => none

/-- The Datapath at a pixel window's opening (R30, R31). With no FRAME card EXPOSING the window is DARK. -/
def Datapath.openPixel (d : Datapath) (pwr : Tri Int) (ctx : Option FrameCtx) : Datapath :=
  let o : Datapath :=
    { d with latched := pwr, clamps := noClamps, pending := none, lineSlot := none, nextPosition := 0,
             positionTimer := some 0, drive := .all 0 }
  match d.pending, exposingCard ctx with
  | some (.image slot), some k =>
    { o with mode := .image, lineSlot := some slot, curveSlot := k.stock, x0 := k.x0, w := k.width }
  | some .blank, some _ => { o with mode := .blank }
  | _, _ => { o with mode := .dark }

/-- The Datapath at a pixel window's end (R38). -/
def Datapath.endPixel (d : Datapath) : Datapath :=
  { d with mode := .idle, lineSlot := none, positionTimer := none, drive := .all 0 }

/-- The monitor drive of a channel from the values in force (R42). -/
def monitorDriveOf (s : State) (ch : Channel) : BitVec 12 :=
  monitorEntry s.tables ch (limitLog ((s.rb.power.lref.get ch : Int) + s.power.pwr.get ch))

/-- The Datapath at a monitor window's opening (R42). -/
def openMonitor (s : State) : Datapath :=
  match s.dp.monitorRequest with
  | some ch =>
    { s.dp with mode := .monitor, monitorChannel := some ch, monitorRequest := none, monitorDrive := monitorDriveOf s ch,
                drive := (Tri.all 0).put ch (monitorDriveOf s ch) }
  | none => { s.dp with mode := .monitor, monitorChannel := none, drive := .all 0 }

/-- The Datapath at a monitor window's end, cut or not (R43). -/
def Datapath.endMonitor (d : Datapath) : Datapath := { d with mode := .idle, monitorChannel := none, drive := .all 0 }

/-- A pixel window is open and driven for an attempt's line. -/
def DpMode.line : DpMode → Bool
  | .image => true
  | .blank => true
  | .idle => false
  | .dark => false
  | .monitor => false

/-- A zero order (R39). -/
def Datapath.zeroOrder (d : Datapath) : Datapath :=
  if d.mode.line then { d with pending := none, mode := .dark, lineSlot := none, clamps := noClamps, drive := .all 0 }
  else { d with pending := none }

/-- A zero order given to the Datapath. -/
def State.zeroOrder (s : State) : State := s.setDp s.dp.zeroOrder

/-- The Datapath at a cut of the line's open window, by the stage the line stands in (R39, R43). The monitor request
and a pending line that no window has taken belonged to the cut line, and go with it (log entry 11). -/
def Datapath.cut (d : Datapath) (w : WindowStage) : Datapath :=
  match w with
  | .pixel => { d with mode := .idle, lineSlot := none, positionTimer := none, clamps := noClamps, drive := .all 0,
                       monitorRequest := none }
  | .monitor => { d.endMonitor with monitorRequest := none }
  | .pixelWait => { d with monitorRequest := none, pending := none }
  | .monitorWait => { d with monitorRequest := none }
  | .none => d

end Sys2Proof.Machine
end

