-- ==== Sys2Proof/Machine/Regulator.lean ====
section
/-! DEFINITION. The Power Regulator: marking lines, the regulation update, the settle and its waits (R99 to R111). -/

namespace Sys2Proof.Machine

/-! ## Settles (R107, R110, R111) -/

/-- The channel after another in the rotation R, G, B (R101). -/
def channelAfter : Channel → Channel
  | .red => .green
  | .green => .blue
  | .blue => .red

/-- A settle begins to wait, with a new lock timeout (R110). -/
def Power.beginWait (p : Power) (ticks : Nat) : Power :=
  { p with settle := { p.settle with waiting := true }, settleTimeout := some ticks }

/-- A settle's wait ends (R110). -/
def Power.endWait (p : Power) : Power :=
  { p with settle := { p.settle with waiting := false }, settleTimeout := none }

/-- A settle begins from channel R, waiting when the lock state is not LOCKED (R107). -/
def State.beginSettle (s : State) : State :=
  let p : Power := { s.power with state := .settling, settle := .reset, limited := .all false, settleTimeout := none }
  s.setPower (if s.scan.lock == .locked then p else p.beginWait s.rb.lockTicks)

/-- A settle in progress is ended without SETTLED (R109, R111). -/
def Power.endSettle (p : Power) : Power :=
  match p.state with
  | .settling => { p.endWait with state := .unsettled }
  | .unsettled => p
  | .settled => p

def State.endSettle (s : State) : State := s.setPower s.power.endSettle

/-- The settle's wait at a RESUME: it ends when the lock is LOCKED, and starts afresh otherwise (R110, R165). -/
def State.resumeSettleWait (s : State) : State :=
  s.setPower (if s.scan.lock == .locked then s.power.endWait else s.power.beginWait s.rb.lockTicks)

/-- LOCKED was left: a settle waits (R110). -/
def State.settleLockLost (s : State) : State :=
  match s.power.state with
  | .settling => s.setPower (s.power.beginWait s.rb.lockTicks)
  | .unsettled => s
  | .settled => s

/-- LOCKED was entered: a waiting settle goes on (R110). -/
def State.settleLockGained (s : State) : State :=
  if s.power.settle.waiting then s.setPower s.power.endWait else s

/-! ## A DRIVE swap (R73, R99, R102) -/

/-- A new DRIVE copy came into force: PWR 0, flags clear, UNSETTLED, and samples in flight voided. -/
def Power.driveSwapped (p : Power) : Power :=
  { p with
    state := .unsettled, pwr := .all 0, limited := .all false, marked := p.marked.map Sample.voided,
    conversion := p.conversion.map fun c => { c with sample := c.sample.voided } }

/-! ## The line event (R101) -/

/-- Run states in which regulation marks lines and uses readings (R101, R102). -/
def RunState.regulates : RunState → Bool
  | .running => true
  | .waiting => true
  | .held => true
  | .idle => false
  | .priming => false
  | .halted => false
  | .ending => false

/-- A line is marked for a channel: the marked sample is set, and the Datapath gets the monitor request (R42, R101). -/
def State.markLine (s : State) (ch : Channel) (p : Purpose) : State :=
  (s.setPower { s.power with marked := some { channel := ch, purpose := p, valid := true } }).setDp
    { s.dp with monitorRequest := some ch }

/-- The cadence of regulation: the line is marked when the count reaches N (R101). -/
def State.regulateLine (s : State) : State × Bool :=
  if s.rb.power.n ≤ s.power.cadence + 1 then
    let t := s.markLine s.power.nextChannel .regulate
    (t.setPower { t.power with cadence := 0, nextChannel := channelAfter s.power.nextChannel }, true)
  else (s.setPower { s.power with cadence := s.power.cadence + 1 }, false)

/-- The Regulator takes a line event and answers with the mark (R101). -/
def State.regulatorLine (s : State) : State × Bool :=
  if s.power.gateOpen then
    match s.power.state with
    | .settling =>
      if s.power.settle.waiting then (s, false) else (s.markLine s.power.settle.channel .settle, true)
    | .settled => if s.run.state.regulates then s.regulateLine else (s, false)
    | .unsettled => (s, false)
  else (s, false)

/-- The marked sample is dropped, as when its window is cut (R102). -/
def State.dropMarked (s : State) : State := s.setPower { s.power with marked := none }

/-! ## Regulation (R103 to R105) -/

/-- A value limited to -lim..lim (R103). -/
def limitPwr (lim : Nat) (v : Int) : Int := if v < -(lim : Int) then -(lim : Int) else if (lim : Int) < v then lim else v

/-- The stepped value of a regulation update, before the limit (R103). -/
def steppedPwr (p : PowerFields) (ch : Channel) (m : Nat) (v : Int) : Int :=
  if (m : Int) < (p.tgt.get ch : Int) - p.db then v + p.step
  else if (p.tgt.get ch : Int) + p.db < m then v - p.step
  else v

/-- The limited flag after an update (R104). -/
def limitedAfter (lim : Nat) (stepped : Int) (flag : Bool) : Bool :=
  if limitPwr lim stepped != stepped then true
  else if (limitPwr lim stepped).natAbs < lim then false
  else flag

/-- A regulation update of a channel, with its dark count 0 and its limited flag (R103, R104). -/
def Power.regulated (p : Power) (f : PowerFields) (ch : Channel) (m : Nat) : Power :=
  let v := steppedPwr f ch m (p.pwr.get ch)
  { p with
    dark := p.dark.put ch 0, pwr := p.pwr.put ch (limitPwr f.lim v),
    limited := p.limited.put ch (limitedAfter f.lim v (p.limited.get ch)) }

/-- The limited flag rises at an update (R104). -/
def limitRises (p : Power) (f : PowerFields) (ch : Channel) (m : Nat) : Bool :=
  let v := steppedPwr f ch m (p.pwr.get ch)
  limitPwr f.lim v != v && !p.limited.get ch

/-- An EXPOSING attempt's card is marked power limited (R13). -/
def FrameCtx.markLimited (c : FrameCtx) : FrameCtx :=
  match c.state with
  | .exposing => { c with powerLimited := true }
  | .preparing => c
  | .closing => c

/-- What a rise of a limited flag does beyond the flag (R104). -/
def State.limitRise (s : State) : State :=
  let t := (s.setFrame { s.frame with ctx := s.frame.ctx.map FrameCtx.markLimited }).raise .powerLimit
  if s.rb.power.haltOnLimit = 1 then t.setRun { t.run with powerLimitPending := true } else t

/-- The regulation update with its rise, if it rises (R103, R104). -/
def State.regulate (s : State) (ch : Channel) (m : Nat) : State :=
  let t := s.setPower (s.power.regulated s.rb.power ch m)
  if limitRises s.power s.rb.power ch m then t.limitRise else t

/-- A dark reading counted; true when it makes a LASER_DARK event, which sets the count to 0 (R105). -/
def Power.countDark (p : Power) (ch : Channel) : Power × Bool :=
  if Config.darkReadings ≤ p.dark.get ch + 1 then ({ p with dark := p.dark.put ch 0 }, true)
  else ({ p with dark := p.dark.put ch (p.dark.get ch + 1) }, false)

/-! ## The settle step (R108) -/

/-- A reading is in band (R108 step 2). A dark reading, 0, is out of band for every target, as the step's last sentence
says, also where the formula before it would take it in, with a target of at most DB (DEDUCED, log entry 33). -/
def inBand (f : PowerFields) (ch : Channel) (m : Nat) : Bool :=
  m != 0 && decide (((m : Int) - f.tgt.get ch).natAbs ≤ f.db)

/-- PWR after a settle reading (R108 step 2). -/
def settlePwr (f : PowerFields) (ch : Channel) (m : Nat) (v : Int) : Int :=
  if inBand f ch m then v
  else if (m : Int) < f.tgt.get ch then limitPwr f.lim (v + f.sstep)
  else limitPwr f.lim (v - f.sstep)

/-- Steps 1 and 2 of R108: the reading counted, and PWR stepped toward the target. -/
def Power.settleCounted (p : Power) (f : PowerFields) (m : Nat) : Power :=
  let ch := p.settle.channel
  { p with
    pwr := p.pwr.put ch (settlePwr f ch m (p.pwr.get ch)),
    settle :=
      { p.settle with
        attempts := p.settle.attempts + 1, inBand := if inBand f ch m then p.settle.inBand + 1 else 0 } }

/-- How a settle reading leaves the settle (R108 steps 3 and 4). -/
inductive SettleVerdict where
  | goesOn | settled | failed
deriving DecidableEq, Repr

/-- Step 3 for a channel that settled: the next channel, or SETTLED after blue. -/
def Power.channelSettled (p : Power) : Power × SettleVerdict :=
  let rec' : SettleRecord := { p.settle with used := p.settle.used.put p.settle.channel p.settle.attempts }
  match p.settle.channel with
  | .blue =>
    ({ p with state := .settled, cadence := 0, nextChannel := .red, settleTimeout := none,
              settle := { rec' with waiting := false } }, .settled)
  | .red => ({ p with settle := { rec' with channel := .green, attempts := 0, inBand := 0 } }, .goesOn)
  | .green => ({ p with settle := { rec' with channel := .blue, attempts := 0, inBand := 0 } }, .goesOn)

/-- The settle step (R108, R109). -/
def Power.settleStep (p : Power) (f : PowerFields) (m : Nat) : Power × SettleVerdict :=
  let q := p.settleCounted f m
  if f.need ≤ q.settle.inBand then q.channelSettled
  else if f.amax ≤ q.settle.attempts then (q.endSettle, .failed)
  else (q, .goesOn)

end Sys2Proof.Machine
end

