-- ==== Sys2Proof/Machine/Tables.lean ====
section
/-! DEFINITION. The Table Store: images, load reads, the checks, the swap and the dump image (R62 to R76). -/

namespace Sys2Proof.Machine

/-! ## Images (R63) -/

/-- Words of a target's image (R63). -/
def imageWords : Target → Nat
  | .curve0 => 3076
  | .curve1 => 3076
  | .curve2 => 3076
  | .curve3 => 3076
  | .drive => 12288
  | .shade => 100
  | .facet => 16

/-- Bytes of a target's image. -/
def imageBytes (t : Target) : Nat := 2 * imageWords t

/-- Words of an image before its pad word, if it has one: those that the checks take (R63, R67, R68). -/
def checkedWords : Target → Nat
  | .curve0 => 3075
  | .curve1 => 3075
  | .curve2 => 3075
  | .curve3 => 3075
  | .drive => 12288
  | .shade => 99
  | .facet => 16

/-- Load reads of an image (R66). -/
def imageReads (t : Target) : Nat := (imageBytes t + (Config.loadReadBytes - 1)) / Config.loadReadBytes

/-- Bytes of load read number k: 512, the last carrying what remains (R66). -/
def readBytesOf (t : Target) (k : Nat) : Nat := min Config.loadReadBytes (imageBytes t - Config.loadReadBytes * k)

/-! ## The checks (R67 to R69) -/

/-- The image sum, modulo 2^32, without the pad words (R67). -/
def imageSum (t : Target) (ws : List (BitVec 16)) : Nat :=
  ((ws.take (checkedWords t)).foldl (fun acc w => acc + w.toNat) 0) % 4294967296

/-- Word k of an image is in its field's range (R68). -/
def wordInRange (t : Target) (k : Nat) (w : BitVec 16) : Bool :=
  match t with
  | .drive => decide (w.toNat ≤ 4095)
  | .shade => decide (-256 ≤ w.toInt) && decide (w.toInt ≤ 255)
  | .facet => decide (-1024 ≤ w.toInt) && decide (w.toInt ≤ 1023)
  | _ =>
    if k < 3072 then decide (w.toNat ≤ 4095) else decide (-1024 ≤ w.toInt) && decide (w.toInt ≤ 1023)

/-- Words of one ordered channel of an image; 0 for an image that is not order-checked (R69). -/
def channelWords : Target → Nat
  | .drive => 4096
  | .shade => 0
  | .facet => 0
  | _ => 1024

/-- The first position, from k on, of a word out of range (R68). -/
def firstOutOfRange (t : Target) : Nat → List (BitVec 16) → Option Nat
  | _, [] => none
  | k, w :: rest => if wordInRange t k w then firstOutOfRange t (k + 1) rest else some k

/-- The first position, from k on, at which a channel of `n` words decreases; `prev` is word k - 1 (R69). -/
def firstDecrease (n : Nat) : Nat → BitVec 16 → List (BitVec 16) → Option Nat
  | _, _, [] => none
  | k, prev, w :: rest =>
    if k % n != 0 && decide (w.toNat < prev.toNat) then some k else firstDecrease n (k + 1) w rest

/-- The position at which the order check fails, if it does (R69). -/
def orderFailure (t : Target) (ws : List (BitVec 16)) : Option Nat :=
  let n := channelWords t
  match ws.take (3 * n) with
  | [] => none
  | w :: rest => firstDecrease n 1 w rest

/-- The checks in their order: the detail reported, with the word position of RANGE and ORDER (R67). -/
def tableChecks (t : Target) (ws : List (BitVec 16)) (expected : Nat) (failed : Bool) : Detail × Option Nat :=
  if failed then (.readError, none)
  else if imageSum t ws != expected then (.sum, none)
  else
    match firstOutOfRange t 0 (ws.take (checkedWords t)) with
    | some k => (.range, some k)
    | none =>
      match orderFailure t ws with
      | some k => (.order, some k)
      | none => (.none, none)

/-! ## The swap (R72, R73) -/

/-- One target's active copy after a swap. -/
def swappedActive (a : ActiveCopy) (g : StagedCopy) : ActiveCopy :=
  match g.state with
  | .valid => { valid := true, words := g.words }
  | .invalid => a
  | .loading => a

/-- One target's staged copy after a swap. -/
def swappedStaged (g : StagedCopy) : StagedCopy :=
  match g.state with
  | .valid => { state := .invalid, words := [] }
  | .invalid => g
  | .loading => g

/-- All seven targets after a swap (R72). -/
def TableStore.swapped (t : TableStore) : TableStore :=
  { t with
    active :=
      { curve0 := swappedActive t.active.curve0 t.staged.curve0
        curve1 := swappedActive t.active.curve1 t.staged.curve1
        curve2 := swappedActive t.active.curve2 t.staged.curve2
        curve3 := swappedActive t.active.curve3 t.staged.curve3
        drive := swappedActive t.active.drive t.staged.drive
        shade := swappedActive t.active.shade t.staged.shade
        facet := swappedActive t.active.facet t.staged.facet }
    staged :=
      { curve0 := swappedStaged t.staged.curve0
        curve1 := swappedStaged t.staged.curve1
        curve2 := swappedStaged t.staged.curve2
        curve3 := swappedStaged t.staged.curve3
        drive := swappedStaged t.staged.drive
        shade := swappedStaged t.staged.shade
        facet := swappedStaged t.staged.facet } }

/-- The swap, taken whole; a new DRIVE copy acts on the Regulator (R72, R73). -/
def State.swapTables (s : State) : State :=
  let t := s.setTables s.tables.swapped
  if s.tables.staged.drive.state == .valid then t.setPower s.power.driveSwapped else t

/-! ## Loads (R65, R66, R70, R71) -/

/-- A load may issue its next read (R66). -/
def loadReady (t : TableStore) (l : Load) : Bool :=
  !l.failed && decide (l.issued < imageReads l.target) && decide (t.reads.length < Config.loadReadLimit)

/-- The load's next read is issued, when it may be. -/
def State.loadOne (s : State) : State :=
  match s.tables.load with
  | none => s
  | some l =>
    if loadReady s.tables l then
      let n := readBytesOf l.target l.issued
      let t := s.busRead (addrPlus l.source (Config.loadReadBytes * l.issued)) n
      t.setTables
        { s.tables with
          load := some { l with issued := l.issued + 1 }
          reads := s.tables.reads ++
            [{ id := s.nextId, live := true, number := l.issued, bytes := n, timer := s.rb.readTicks }] }
    else s

/-- Load reads are issued up to the limit of 4. -/
def State.loadMore (s : State) : State := s.loadOne.loadOne.loadOne.loadOne

/-- A load is opened for a TABLE card (R65). The words that the LOADING copy holds before its reads fill them are 0:
DESIGN CHOICE, log entry 30. -/
def State.openLoad (s : State) (t : Target) (source : Addr) (sum : Nat) : State :=
  (s.setTables
    { s.tables with
      staged := s.tables.staged.put t { state := .loading, words := List.replicate (imageWords t) 0 }
      load := some { target := t, serial := s.seq.current.serial, index := s.seq.current.index, source := source,
                     expected := sum, issued := 0, ended := 0, failed := false } }).loadMore

/-- A load in progress is abandoned: its staged copy becomes INVALID, and its reads belong to no load (R71). -/
def TableStore.abandon (t : TableStore) : TableStore :=
  match t.load with
  | none => t
  | some l =>
    { t with
      load := none
      staged := t.staged.put l.target { state := .invalid, words := [] }
      reads := t.reads.map fun e => { e with live := false } }

/-- A load or a dump in progress is abandoned; image writes not yet issued are not issued (R71, R75). -/
def State.abandonLoad (s : State) : State := s.setTables { s.tables.abandon with dump := none }

/-- Words written over an image from word position `at_` on (R66). -/
def writeWords (ws : List (BitVec 16)) (at_ : Nat) (new : List (BitVec 16)) : List (BitVec 16) :=
  ws.take at_ ++ new ++ ws.drop (at_ + new.length)

/-- The outstanding load read of an identity. -/
def TableStore.entry (t : TableStore) (id : Nat) : Option LoadRead := t.reads.find? fun e => e.id == id

/-- The Table Store after a load read of the present load ended, its entry taken from the list: the words of a good read
enter the staged copy while failed is no, and a read failure sets failed (R66). -/
def TableStore.readEnded (t : TableStore) (e : LoadRead) (l : Load) (data : Option (List Byte)) : TableStore :=
  match data, l.failed with
  | some bs, false =>
    { t with
      load := some { l with ended := l.ended + 1 }
      staged := t.staged.put l.target
        { (t.staged.get l.target) with
          words := writeWords (t.staged.get l.target).words (Config.loadReadBytes / 2 * e.number) (words16 bs) } }
  | some _, true => { t with load := some { l with ended := l.ended + 1 } }
  | none, _ => { t with load := some { l with ended := l.ended + 1, failed := true } }

/-- The load's reads are over (R66). -/
def Load.over (l : Load) : Bool := l.ended == l.issued && (l.failed || l.issued == imageReads l.target)

/-- The checks of the load that is over (R67). -/
def loadChecks (t : TableStore) (l : Load) : Detail × Option Nat :=
  tableChecks l.target (t.staged.get l.target).words l.expected l.failed

/-- The TABLE result of a load that ended (R70). -/
def loadResult (t : TableStore) (l : Load) : CardResult :=
  let c := loadChecks t l
  { outcome := if c.1 == .none then .staged else .loadFailed
    reason := .none
    field := 0
    kind := .table c.1 (if c.1 == .readError then 0 else imageSum l.target (t.staged.get l.target).words) c.2 }

/-- The Table Store after the load's end: the staged copy VALID or INVALID, the record cleared (R70). -/
def TableStore.loadEnded (t : TableStore) (l : Load) : TableStore :=
  { t with
    load := none
    staged := t.staged.put l.target
      (if (loadChecks t l).1 == .none then { state := .valid, words := (t.staged.get l.target).words }
       else { state := .invalid, words := [] }) }

/-! ## Dump (R74) -/

/-- The image that a dump writes: the active words, pad words as 0. -/
def dumpWords (t : Target) (c : ActiveCopy) : List (BitVec 16) :=
  c.words.take (checkedWords t) ++ List.replicate (imageWords t - checkedWords t) 0

/-- Bytes of write number k of a dump: 512, the last carrying what remains (R74). -/
def dumpBytes (t : Target) (c : ActiveCopy) (k : Nat) : List Byte :=
  ((bytes16 (dumpWords t c)).drop (Config.loadReadBytes * k)).take Config.loadReadBytes

/-- A dump of a VALID copy begins, with no write issued yet. -/
def State.openDump (s : State) (t : Target) (dest : Addr) : State :=
  s.setTables { s.tables with dump := some { target := t, dest := dest, issued := 0 } }

/-- The next image write of a dump is issued, in order of address (R74). -/
def State.dumpWrite (s : State) (d : Dump) : State :=
  (s.busWrite (addrPlus d.dest (Config.loadReadBytes * d.issued))
    (dumpBytes d.target (s.tables.active.get d.target) d.issued)).setTables
    { s.tables with dump := some { d with issued := d.issued + 1 } }

/-- The DUMP result (R74). -/
def dumpResult (s : State) (t : Target) : CardResult :=
  let c := s.tables.active.get t
  if c.valid then
    { outcome := .dumped, reason := .none, field := 0, kind := .dump (imageSum t (dumpWords t c)) (imageWords t) }
  else { outcome := .nothingToDump, reason := .none, field := 0, kind := .dump 0 0 }

end Sys2Proof.Machine
end

