-- ==== Sys2Proof/Machine/Transport.lean ====
section
/-! DEFINITION. The Film Transport and Edge Marker: the step generator, frame and leader cycles, the edge code and its
LED (R113 to R128). -/

namespace Sys2Proof.Machine

/-! ## The step generator (R115) -/

/-- Steps added to the owed count. The generator's wait starts afresh only when no step was owed (log entry 15). -/
def Film.addSteps (f : Film) (n period : Nat) : Film :=
  { f with
    owed := f.owed + n
    stepTimer := if n = 0 then f.stepTimer else if f.owed = 0 then some period else f.stepTimer }

/-- The generator stops at once: the pulse in progress ends and the owed count is 0. The settling period and the dwell
timer of the cycle stop with it, and the LED goes dark (R113, R115, R124, R128). -/
def Film.stopGenerator (f : Film) : Film :=
  { f with owed := 0, stepTimer := none, stepHigh := false, pulseTimer := none, settlingTimer := none, dwellTimer := none,
           led := false }

/-- The transport is moving (R114). -/
def TransportState.moving : TransportState → Bool
  | .scanning => true
  | .catchup => true
  | .pulling => true
  | .dwell => true
  | .still => false
  | .faulted => false

/-! ## The edge code (R127, R128) -/

/-- The parity bit that makes the ones of the low `w` bits of n, with itself, even in number. -/
def evenParity : Nat → Nat → Bool
  | 0, _ => false
  | w + 1, n => xor (n.testBit w) (evenParity w n)

/-- The 44 bits, bit 0 shifted out first (R127). -/
def edgeCodeOf (position run kind : Nat) : BitVec 44 :=
  let tail : Nat := run % 4096 + 4096 * (kind % 4)
  BitVec.ofBool (evenParity 14 tail) ++ BitVec.ofBool (evenParity 24 position) ++ BitVec.ofNat 14 tail ++
    BitVec.ofNat 24 position ++ (5 : BitVec 4)

/-- The LED's law (R128): lit while a bit that is 1 is presented, in PULLING, with edge on. -/
def ledLaw (f : Film) (eo eb : Nat) : Bool :=
  match f.state, f.cycle with
  | .pulling, some c =>
    c.edgeOn && decide (eo ≤ f.pullIssued) && decide (f.pullIssued < eo + 44 * eb) &&
      f.edgeCode.getLsbD ((f.pullIssued - eo) / eb)
  | _, _ => false

/-- The LED brought to its law. -/
def Film.showLed (f : Film) (rb : RunBlock) : Film := { f with led := ledLaw f rb.film.eo rb.film.eb }

/-- The edge code assembled from the cycle record and the run number (R118, R127). -/
def Film.assemble (f : Film) (rb : RunBlock) : BitVec 44 :=
  match f.cycle with
  | some c => edgeCodeOf c.position rb.runNumber c.kind.code
  | none => f.edgeCode

/-- Entry to PULLING (R118). The first pull-down step comes one period after the later of the previous step and this entry,
as R115 says, also at a finish that finds every scan step issued, where R118 counts from the last scan step (DESIGN
CHOICE, log entry 15). -/
def Film.enterPulling (f : Film) (rb : RunBlock) : Film :=
  ((({ f with state := .pulling, edgeCode := f.assemble rb } : Film).addSteps rb.film.mp rb.film.stepPeriod)).showLed rb

/-! ## A frame cycle (R116, R117) -/

/-- The begin-scan request (R116): taken in STILL. -/
def Film.beginScan (f : Film) (rb : RunBlock) (noEdge : Bool) : Film :=
  match f.state with
  | .still =>
    { f with
      cycle := some { forFrame := true, kind := .good, position := f.counter, edgeOn := rb.film.edgeEnable == 1 && !noEdge }
      scanRequested := 0, scanIssued := 0, pullIssued := 0, owed := 0, stepTimer := none, perfCount := 0
      state := .scanning }
  | _ => f

/-- The scan steps of raster line r (R116). -/
def stepsOf (rb : RunBlock) (r : Nat) : Nat := (r + 1) * rb.film.ms / rb.height - r * rb.film.ms / rb.height

/-- The line-steps request (R116): taken in SCANNING. -/
def Film.lineSteps (f : Film) (rb : RunBlock) (r : Nat) : Film :=
  match f.state with
  | .scanning =>
    { (f.addSteps (stepsOf rb r) rb.film.stepPeriod) with scanRequested := f.scanRequested + stepsOf rb r }
  | _ => f

/-- The kind of a frame cycle by its close kind. -/
def CloseKind.cycle : CloseKind → CycleKind
  | .good => .good
  | .spoiled => .spoiled

/-- The finish request (R117): taken in SCANNING. -/
def Film.finish (f : Film) (rb : RunBlock) (k : CloseKind) : Film :=
  match f.state with
  | .scanning =>
    let g : Film :=
      { (f.addSteps (rb.film.ms - f.scanRequested) rb.film.stepPeriod) with
        cycle := f.cycle.map fun c => { c with kind := k.cycle }
        scanRequested := rb.film.ms
        state := .catchup }
    if rb.film.ms ≤ f.scanIssued then g.enterPulling rb else g
  | _ => f

/-! ## Steps and the settling period (R115, R118) -/

/-- One step leaves the generator: the step line HIGH, the owed count down, the next wait started. -/
def Film.issueStep (f : Film) (period : Nat) : Film :=
  { f with
    owed := f.owed - 1, stepHigh := true, pulseTimer := some (period / 2),
    stepTimer := if f.owed ≤ 1 then none else some period }

/-- A scan step of a cycle: the last of CATCHUP enters PULLING (R117). -/
def Film.scanStep (f : Film) (rb : RunBlock) : Film :=
  let g : Film := { (f.issueStep rb.film.stepPeriod) with scanIssued := f.scanIssued + 1 }
  if g.state == .catchup && decide (rb.film.ms ≤ g.scanIssued) then g.enterPulling rb else g

/-- A pull-down step: the last starts the settling period (R118). -/
def Film.pullStep (f : Film) (rb : RunBlock) : Film :=
  let g : Film := { (f.issueStep rb.film.stepPeriod) with pullIssued := f.pullIssued + 1 }
  (if rb.film.mp ≤ g.pullIssued then { g with settlingTimer := some rb.film.stepPeriod } else g).showLed rb

/-! ## Leader cycles (R123, R125) -/

/-- A leader cycle may begin, but for the magazine (R125). -/
def leaderReady (s : State) (l : LeaderCard) : Bool :=
  s.film.state == .still && decide (l.completed < l.count) && s.run.state == .running && !s.run.stopPending &&
    !s.power.darkHaltPending

/-- The transport at the beginning of a leader cycle (R125). -/
def Film.beginLeader (f : Film) (rb : RunBlock) (noEdge : Bool) : Film :=
  Film.addSteps
    { f with
      cycle := some { forFrame := false, kind := .leader, position := f.counter, edgeOn := rb.film.edgeEnable == 1 && !noEdge }
      scanRequested := rb.film.ms, scanIssued := 0, pullIssued := 0, perfCount := 0, state := .catchup }
    rb.film.ms rb.film.stepPeriod

/-- The LEADER card's conditions are examined, and a cycle begins or the run halts with FILM_OUT (R123, R125). -/
def State.leaderCycle (s : State) : State :=
  match s.film.leader with
  | none => s
  | some l =>
    if leaderReady s l then
      if s.film.magazine = 0 then s.halt .filmOut else s.setFilm (s.film.beginLeader s.rb l.noEdge)
    else s

/-! ## The dwell end's counts (R120) -/

/-- The position counted by its kind (R120 step 3). -/
def Film.countKind (f : Film) (k : CycleKind) : Film :=
  match k with
  | .good => { f with good := f.good + 1 }
  | .spoiled => { f with spoiled := f.spoiled + 1 }
  | .leader => { f with leaders := f.leaders + 1 }

/-- Steps 1 to 3 of R120 on the transport. -/
def Film.countPosition (f : Film) : Film :=
  let g : Film := { f with counter := f.counter + 1, magazine := f.magazine - 1, dwellTimer := none }
  match f.cycle with
  | some c => g.countKind c.kind
  | none => g

/-- The perforation check (R120 step 4). -/
def perfPasses (s : State) : Bool := s.film.perfCount == s.rb.film.perfs

/-- The transport after the perforation check (R120 step 5). -/
def Film.checked (f : Film) (passed : Bool) : Film :=
  if passed then { f with state := .still, cycle := none } else { f with state := .faulted }

end Sys2Proof.Machine
end

