-- ==== Sys2Proof/Machine/Frame.lean ====
section
/-! DEFINITION. Frame Exposure: the attempt from PREPARING to its close, spoils and refusals (R1 to R27). -/

namespace Sys2Proof.Machine

/-- The context replaced. -/
def State.setCtx (s : State) (c : FrameCtx) : State := s.setFrame { s.frame with ctx := some c }

/-- The context emptied to NONE (R2). -/
def State.emptyCtx (s : State) : State := s.setFrame { s.frame with ctx := none }

/-! ## Loading and preparing (R1, R4 to R8) -/

/-- The context as a FRAME card loads it (R1). R1 names no value for the close kind and the raster line kept for the
spoil entry: GOOD and 0 are DESIGN CHOICE, log entry 29. -/
def FrameCtx.loaded (serial index : Nat) (c : FrameCard) : FrameCtx :=
  { serial := serial, index := index, card := c, attempt := 1, state := .preparing, closeKind := .good, r := 0,
    position := none, attemptsExposed := 0, firstFilm := none, goodFilm := none, lastSpoil := .none, spoilLine := 0,
    retakePending := false, haltAfter := .none, clamps := noClamps, minOccupancy := 8, powerLimited := false,
    lockWait := .stopped }

/-- Why an attempt cannot be exposed, NONE when it can (R5). -/
def refusalReason (s : State) (c : FrameCtx) : Reason :=
  if !(s.tables.active.get (curveTarget c.card.stock)).valid || !s.tables.active.drive.valid then .noTable
  else if s.power.state != .settled then .notSettled
  else .none

/-- A FRAME card refused at PREPARING (R5, R39, R138): zero order, flush, result, empty context, halt. -/
def State.refuseFrame (s : State) (c : FrameCtx) (why : Reason) : State :=
  let t := s.zeroOrder.flushParked
  ((t.handResult { outcome := .refused, reason := why, field := 0, kind := frameFields c .refused }).emptyCtx.refresh).halt
    .cardRefused

/-- The context at an entry to PREPARING (R4, R22). -/
def FrameCtx.toPreparing (c : FrameCtx) : FrameCtx := { c with state := .preparing, retakePending := false, lockWait := .stopped }

/-- R6 and R7: the cursor is pointed, and the lock wait starts. -/
def State.beginFrameWait (s : State) (c : FrameCtx) : State :=
  (s.pointCursor c).setCtx { c with lockWait := .running s.rb.lockTicks }

/-- Entry to PREPARING for the context's attempt (R4 to R7). -/
def State.enterPreparing (s : State) (c0 : FrameCtx) : State :=
  let c := c0.toPreparing
  let s0 := s.setCtx c
  if s.film.magazine = 0 then s0.halt .filmOut
  else
    let t := s0.swapTables
    match refusalReason t c with
    | .none => t.beginFrameWait c
    | why => t.refuseFrame c why

/-! ## Spoils (R18 to R21) -/

/-- The retake decision (R20). -/
def retakeAllowed (c : FrameCtx) (stopPending : Bool) (cause : SpoilCause) : Bool :=
  decide (c.attemptsExposed < 1 + c.card.retakes) && !stopPending && cause != .abort

/-- Halt after cycle as a spoil sets it (R19 step 5). -/
def haltAfterSpoil (c : FrameCtx) (cause : SpoilCause) : HaltAfter :=
  match cause with
  | .polygonLost => .polygonLost
  | .laserDark => .laserDark
  | _ => c.haltAfter

/-- The context after a spoil at a raster line (R19 steps 2, 3, 5 and 6, R20). -/
def FrameCtx.spoiled (c : FrameCtx) (cause : SpoilCause) (line : Nat) (stopPending : Bool) : FrameCtx :=
  let again := retakeAllowed c stopPending cause
  { c with
    state := .closing, closeKind := .spoiled, lastSpoil := cause, spoilLine := line, retakePending := again,
    attempt := if again then c.attemptsExposed + 1 else c.attempt, haltAfter := haltAfterSpoil c cause }

/-- The raster line kept for a spoil: the line of the line event, or the one before (R19 step 2). -/
def spoilLineOf (c : FrameCtx) (cause : SpoilCause) : Nat :=
  match cause with
  | .underrun => c.r
  | .lineError => c.r
  | .lineTimeout => c.r
  | _ => c.r - 1

/-- A spoil of an EXPOSING attempt (R19). -/
def State.spoil (s : State) (c : FrameCtx) (cause : SpoilCause) : State :=
  let d := c.spoiled cause (spoilLineOf c cause) s.run.stopPending
  let t := s.zeroOrder.setCtx d
  let u := if d.retakePending then t.flushToAttempt d else t.flushParked
  u.setFilm (u.film.finish s.rb .spoiled)

/-- A retake given up in CLOSING with kind SPOILED (R21). -/
def State.dropRetake (s : State) (c : FrameCtx) : State := (s.setCtx { c with retakePending := false }).parkCursor

/-- A halt after cycle filled when it is none (R14, R21). -/
def FrameCtx.fillHaltAfter (c : FrameCtx) (h : HaltAfter) : FrameCtx :=
  match c.haltAfter with
  | .none => { c with haltAfter := h }
  | .polygonLost => c
  | .laserDark => c

/-! ## Events that reach the context -/

/-- A loss of LOCKED reaches Frame Exposure (R7, R8, R14, R18, R21). -/
def State.frameLockLost (s : State) : State :=
  match s.frame.ctx with
  | none => s
  | some c =>
    match c.state with
    | .preparing =>
      match c.lockWait with
      | .expired => s.halt .lockTimeout
      | .stopped => s
      | .running _ => s
    | .exposing => s.spoil c .polygonLost
    | .closing => s.setCtx (c.fillHaltAfter .polygonLost)

/-- A LASER_DARK event handed on by the state of the run (R8, R14, R18, R106). -/
def State.laserDark (s : State) : State :=
  match s.frame.ctx with
  | some c =>
    match c.state with
    | .preparing => s.halt .laserDark
    | .exposing => s.spoil c .laserDark
    | .closing => s.setCtx (c.fillHaltAfter .laserDark)
  | none =>
    if s.film.state == .still then s.halt .laserDark else s.setPower { s.power with darkHaltPending := true }

/-- The context at the entry to EXPOSING (R9). -/
def FrameCtx.toExposing (c : FrameCtx) (counter : Nat) (limited : Bool) : FrameCtx :=
  { c with
    state := .exposing, closeKind := .good, r := 0, position := some counter, attemptsExposed := c.attemptsExposed + 1,
    firstFilm := some (c.firstFilm.getD counter), clamps := noClamps, powerLimited := c.powerLimited || limited,
    lockWait := .stopped }

/-- Any channel's limited flag is set. -/
def anyLimited (t : Tri Bool) : Bool := t.r || t.g || t.b

/-- What the head slot says of an image line (R10, R46): the spoil cause, or the slot to take. -/
inductive HeadAnswer where
  | take (slot : Nat)
  | spoil (cause : SpoilCause)
deriving DecidableEq, Repr

/-- The head slot examined at an image line's line event (R10). -/
def headAnswer (slots : List Slot) : HeadAnswer :=
  match slots with
  | [] => .spoil .underrun
  | h :: _ =>
    match h.state, h.tag with
    | .ready, .none => .take h.readId
    | .ready, .error => .spoil .lineError
    | .ready, .timeout => .spoil .lineTimeout
    | .filling, _ => .spoil .underrun
    | .inUse, _ => .spoil .underrun

/-- Raster line r carries an image line (R10). -/
def imageLine (c : FrameCtx) : Bool := c.card.y0 ≤ c.r && decide (c.r < c.card.y0 + c.card.height)

/-- The least occupancy seen, with the present one (R13). -/
def FrameCtx.sawOccupancy (c : FrameCtx) (n : Nat) : FrameCtx := { c with minOccupancy := min c.minOccupancy n }

/-- A raster line is begun: the Datapath's pending line is set, the line's steps asked for, and r raised (R10, R11). -/
def State.beginRasterLine (s : State) (c : FrameCtx) (src : LineSource) : State :=
  ((s.setDp { s.dp with pending := some src }).setFilm (s.film.lineSteps s.rb c.r)).setCtx { c with r := c.r + 1 }

/-- A line event while EXPOSING (R10, R11, R13). -/
def State.exposeLine (s : State) (c0 : FrameCtx) : State :=
  let c := c0.sawOccupancy s.ring.occupancy
  if imageLine c then
    match headAnswer s.ring.slots with
    | .take id => (s.setRing { s.ring with slots := takeHead s.ring.slots }).beginRasterLine c (.image id)
    | .spoil cause => s.spoil c cause
  else s.beginRasterLine c .blank

/-- A line event reaches Frame Exposure (R7, R9 to R11, R14). It is delivered in LOCKED alone. -/
def State.frameLine (s : State) : State :=
  match s.frame.ctx with
  | none => s
  | some c =>
    match c.state with
    | .preparing =>
      if s.run.state == .running && primed s c then
        let d := c.toExposing s.film.counter (anyLimited s.power.limited)
        (s.setFilm (s.film.beginScan s.rb c.card.noEdge)).exposeLine d
      else s
    | .exposing => s.exposeLine c
    | .closing => s

/-! ## The end of a pixel window (R12, R38) -/

/-- Two clamp counts added. -/
def Clamp.plus (a b : Clamp) : Clamp := { low := a.low + b.low, high := a.high + b.high }

/-- The line's clamp counts added to the context's (R12). -/
def FrameCtx.addClamps (c : FrameCtx) (k : Tri Clamp) : FrameCtx :=
  { c with clamps := { r := c.clamps.r.plus k.r, g := c.clamps.g.plus k.g, b := c.clamps.b.plus k.b } }

/-- The end of raster line H - 1 closes the attempt with kind GOOD (R12, R14). -/
def State.closeIfLast (s : State) : State :=
  match s.frame.ctx with
  | none => s
  | some c =>
    match c.state with
    | .exposing =>
      if s.rb.height ≤ c.r then
        (s.setCtx { c with state := .closing, closeKind := .good }).setFilm (s.film.finish s.rb .good)
      else s
    | .preparing => s
    | .closing => s

/-- The end of an IMAGE line: the slot is returned and the clamp counts are added (R12, R38, R46). -/
def State.imageLineEnded (s : State) (slot : Nat) (k : Tri Clamp) : State :=
  let t := s.setFrame { s.frame with ctx := s.frame.ctx.map fun c => c.addClamps k }
  t.returnSlot slot

/-! ## The spoil list (R23) -/

/-- The spoil entry of a spoiled position is written at index entries written, or dropped (R23, R154). -/
def State.recordSpoil (s : State) (c : FrameCtx) : State :=
  if s.frame.entriesWritten < s.rb.spoilCapacity then
    (s.busWrite (addrPlus s.rb.spoilList (32 * s.frame.entriesWritten)) (spoilEntryBytes c s.rb.runNumber)).setFrame
      { s.frame with entriesWritten := s.frame.entriesWritten + 1 }
  else s.setFrame { s.frame with entriesDropped := s.frame.entriesDropped + 1 }

/-! ## A driver fault (R26) -/

/-- A driver fault reaches the context: zero order and a flush with the cursor parked; the attempt state is kept. -/
def State.frameFault (s : State) : State :=
  match s.frame.ctx with
  | none => s
  | some _ => s.zeroOrder.flushParked

end Sys2Proof.Machine
end

