-- ==== Sys2Proof/Machine/Ending.lean ====
section
/-! DEFINITION. ENDING: the run is closed, whole, in the step that enters it (R27, R111, R142, R168). -/

namespace Sys2Proof.Machine

/-- A SKIPPED result with its kind's fields (R141, R142). -/
def skipped (k : KindFields) : CardResult := { outcome := .skipped, reason := .none, field := 0, kind := k }

/-- The body that a record knows, none while it is READING or EMPTY. -/
def CardRecord.body (r : CardRecord) : Option CardBody :=
  match r.state with
  | .present => r.outcome.body
  | .reading => none
  | .empty => none

/-- Kind fields of a card that never became current: those of an unworked card of the kind that its read showed, and 0
for a card whose kind the controller has not read (R138, R141, R173; log entry 18). -/
def neverWorked (s : State) (index : Nat) : KindFields :=
  let known (r : CardRecord) : Option CardBody :=
    if r.index = index && !r.entered then r.body else none
  match known s.seq.current, known s.seq.lookahead with
  | some b, _ => unworked b
  | none, some b => unworked b
  | none, none => .none

/-- The FRAME result made at ENDING (R27). -/
def frameEndResult (c : FrameCtx) : CardResult :=
  let o : ResultOutcome := if 0 < c.attemptsExposed then .failed else .skipped
  { outcome := o, reason := .none, field := 0, kind := frameFields c o }

/-- The result that the current card's owner gives at ENDING (R27, R126, R142). A CALIBRATE card whose SETTLE_FAIL halt
was replaced by a TRANSPORT halt is SKIPPED: the cause that stands decides (DESIGN CHOICE, log entry 31). -/
def currentEndResult (s : State) : CardResult :=
  match s.seq.current.body with
  | none => skipped .none
  | some (.frame c) =>
    match s.frame.ctx with
    | some x => frameEndResult x
    | none => skipped (unworked (.frame c))
  | some (.leader n e) =>
    match s.film.leader with
    | some l => skipped (.leader l.completed)
    | none => skipped (unworked (.leader n e))
  | some .calibrate =>
    { outcome := if s.run.haltCause == .settleFail then .settleFailed else .skipped, reason := .none, field := 0,
      kind := .none }
  | some (.table t a x) => skipped (unworked (.table t a x))
  | some (.dump t a) => skipped (unworked (.dump t a))
  | some .hold => skipped .none
  | some .endCard => skipped .none
  | some (.unknown _) => skipped .none

/-- The current card, if it has become current and has no result. -/
def currentUnfinished (s : State) : Bool :=
  match s.seq.current.state with
  | .empty => false
  | .reading => s.seq.current.entered && !s.seq.current.finished
  | .present => s.seq.current.entered && !s.seq.current.finished

/-- The pending line is dropped: no FRAME card is EXPOSING any more (R30). -/
def State.dropPendingLine (s : State) : State := s.setDp { s.dp with pending := none }

/-- A FRAME card still in the context leaves it: a flush with the cursor parked, and NONE (R27). A line that it had
pending goes with it, so that a window opening later finds none (R30). -/
def State.closeCtx (s : State) : State :=
  match s.frame.ctx with
  | none => s
  | some _ => s.dropPendingLine.flushParked.emptyCtx

/-- The current card's result at ENDING, first of the deck's open cards (R142). -/
def State.endCurrent (s : State) : State :=
  if currentUnfinished s then ((s.handResult (currentEndResult s)).closeCtx).refresh else s.closeCtx

/-- SKIPPED for the `n` cards from an index on, each with its refresh (R142, R156). -/
def State.skipCards : Nat → Nat → State → State
  | 0, _, s => s
  | n + 1, i, s => State.skipCards n (i + 1) (s.writeResult i (skipped (neverWorked s i))).refresh

/-- The deck's cards without results receive them (R142, R168 step 2). -/
def State.endResults (s : State) : State :=
  match s.deck.taken with
  | none => s.closeCtx
  | some _ =>
    let t := s.endCurrent
    State.skipCards (t.deck.cardCount - t.seq.nextIndex) t.seq.nextIndex t

/-- Step 5 of R168: everything pending is cleared. The LEADER card leaves the transport with the run. -/
def State.clearPending (s : State) : State :=
  ((s.setRun
      { s.run with stopPending := false, abortRecord := false, pausePending := false, powerLimitPending := false,
                   lockWait := none }).setPower s.power.clearDarkHalt).setFilm { s.film with leader := none }

/-- Both card records become EMPTY (R132). -/
def State.emptyRecords (s : State) : State :=
  s.setSeq { s.seq with current := .emptied, lookahead := .emptied }

/-- The return to IDLE: records EMPTY, RUN_END raised, the final refresh, and the snapshot disabled (R132, R156, R168). -/
def State.toIdle (s : State) : State :=
  let t := (((s.enterRunState .idle).emptyRecords).raise .runEnd).refresh
  t.setDeck { t.deck with snapshotEnabled := false }

/-- Entry to ENDING: run state, gate and refresh; the seek stops (R150, R168). -/
def State.enterEnding (s : State) : State :=
  ((s.setDeck s.deck.stopSeek).setRun { s.run with pausePending := false }).changeRunState .ending

/-- The run is closed (R168). -/
def State.endRun (s : State) : State :=
  (((s.enterEnding.abandonLoad.endSettle.endResults).returnDeck).flushParked.clearPending).toIdle

end Sys2Proof.Machine
end

