-- ==== Sys2Proof/Machine/Cards.lean ====
section
/-! DEFINITION. The Card Sequencer: reading and checking cards, advancing, dispatch, refusals, and how the run goes on from
a card's finish (R16, R70, R74, R112, R125, R131 to R143). -/

namespace Sys2Proof.Machine

/-! ## Reading a card (R133) -/

/-- A record for a card whose read is issued now. -/
def readingRecord (s : State) (index : Nat) : CardRecord :=
  { state := .reading, serial := s.deck.serial, index := index,
    read := some { id := s.nextId, timer := s.rb.readTicks }, outcome := .pending, finished := false, entered := false,
    acted := false }

/-- The address of the deck taken; with none taken no card is read. -/
def takenAddr (s : State) : Addr :=
  match s.deck.taken with
  | some d => deckAddr s d
  | none => 0

/-- The read of a card's 80-byte body is issued (R133). -/
def State.readBody (s : State) (index : Nat) : State := s.busRead (addrPlus (takenAddr s) (slotOffset index)) 80

/-- The current record becomes READING for a card. -/
def State.readCurrent (s : State) (index : Nat) : State :=
  (s.readBody index).setSeq { s.seq with current := readingRecord s index }

/-- The current card is read again: same card, new read, its place in the deck already counted (R137). -/
def State.rereadCurrent (s : State) : State :=
  (s.readBody s.seq.current.index).setSeq
    { s.seq with current := { readingRecord s s.seq.current.index with entered := true } }

/-- The lookahead record becomes READING for the card at the next index, if the deck has one (R135 step 4). -/
def State.readLookahead (s : State) : State :=
  if s.seq.nextIndex < s.deck.cardCount then
    (s.readBody s.seq.nextIndex).setSeq { s.seq with lookahead := readingRecord s s.seq.nextIndex }
  else s

/-! ## Advancing, as far as a record (R135 steps 1 to 3) -/

/-- The deck is done: records EMPTY, the deck returned, the next one sought (R135 step 1, R153). -/
def State.deckDone (s : State) : State := (s.emptyRecords.returnDeck).seekDeck

/-- The current record already stands for the card at the next index, and waits to become current. -/
def currentWaits (s : State) : Bool :=
  s.seq.current.state != .empty && !s.seq.current.entered && s.seq.current.index == s.seq.nextIndex

/-- The lookahead record holds the card at the next index. -/
def lookaheadHolds (s : State) : Bool := s.seq.lookahead.state != .empty && s.seq.lookahead.index == s.seq.nextIndex

/-- Steps 1 to 3 of an advance: the deck's end, the card from the lookahead, or a read now. Only with a deck taken and
in RUNNING; in any other run state the advance is held, and RESUME carries it out. -/
def State.advanceRecord (s : State) : State :=
  match s.run.state, s.deck.taken with
  | .running, some _ =>
    if s.seq.nextIndex = s.deck.cardCount then s.deckDone
    else if currentWaits s then s
    else if lookaheadHolds s then s.setSeq { s.seq with current := s.seq.lookahead, lookahead := .emptied }
    else s.readCurrent s.seq.nextIndex
  | _, _ => s

/-! ## How the run goes on from a card's finish -/

/-- A pending power-limit halt is taken, and cleared (R104). -/
def State.haltPowerLimit (s : State) : State :=
  (s.setRun { s.run with powerLimitPending := false }).halt .powerLimit

/-- What a finish leads to (R70 items 1 to 5, and R125's list, which is the same without item 2). -/
inductive Course where
  | ending
  | tableLoad
  | powerLimit
  | held
  | advance
  | stays
deriving DecidableEq, Repr

/-- The first item that applies at a TABLE, DUMP, CALIBRATE or LEADER finish. While HALTED the items after the first
are not taken, and the advance is held (R71). -/
def finishCourse (s : State) (loadFailed : Bool) : Course :=
  if s.run.stopPending then .ending
  else
    match s.run.state with
    | .running =>
      if loadFailed then .tableLoad
      else if s.run.powerLimitPending then .powerLimit
      else if s.run.pausePending then .held
      else .advance
    | _ => .stays

/-- The course taken; `adv` is the advance. -/
def State.takeCourse (s : State) (c : Course) (adv : State → State) : State :=
  match c with
  | .ending => s.endRun
  | .tableLoad => s.halt .tableLoad
  | .powerLimit => s.haltPowerLimit
  | .held => s.enterHeld false
  | .advance => adv s
  | .stays => s

/-- What a FRAME card's finish leads to (R16). -/
inductive FrameCourse where
  | ending
  | halt (cause : HaltCause)
  | powerLimit
  | held (mark : Bool)
  | advance
deriving DecidableEq, Repr

/-- Spoil causes after which a FAILED card halts the run with RETAKES_EXHAUSTED (R16 item 3). -/
def SpoilCause.exhausts : SpoilCause → Bool
  | .underrun => true
  | .lineError => true
  | .lineTimeout => true
  | .none => false
  | .polygonLost => false
  | .laserDark => false
  | .abort => false

/-- The first item of R16 that applies, from the context as it finished. -/
def frameCourse (s : State) (c : FrameCtx) (failed : Bool) : FrameCourse :=
  if s.run.stopPending || c.lastSpoil == .abort then .ending
  else
    match c.haltAfter with
    | .polygonLost => .halt .polygonLost
    | .laserDark => .halt .laserDark
    | .none =>
      if failed && c.lastSpoil.exhausts then .halt .retakesExhausted
      else if s.run.powerLimitPending then .powerLimit
      else if c.card.holdAfter then .held true
      else if s.run.pausePending then .held false
      else .advance

/-- The course of R16 taken. -/
def State.takeFrameCourse (s : State) (c : FrameCourse) (adv : State → State) : State :=
  match c with
  | .ending => s.endRun
  | .halt cause => s.halt cause
  | .powerLimit => s.haltPowerLimit
  | .held mark => s.enterHeld mark
  | .advance => adv s

/-! ## Dispatch (R136 to R140) -/

/-- A card refused by validation (R136, R138). -/
def State.refuseInvalid (s : State) (why : Reason) (field : Nat) (b : CardBody) : State :=
  ((s.handResult { outcome := .refused, reason := why, field := field, kind := unworked b }).refresh).halt .cardRefused

/-- A FRAME card becomes the context's and is prepared (R1). -/
def State.dispatchFrame (s : State) (c : FrameCard) : State :=
  s.enterPreparing (FrameCtx.loaded s.seq.current.serial s.seq.current.index c)

/-- A LEADER card is taken by the transport (R125). -/
def State.dispatchLeader (s : State) (count : Nat) (noEdge : Bool) : State :=
  (s.setFilm { s.film with leader := some { count := count, noEdge := noEdge, completed := 0 } }).leaderCycle

/-- A TABLE card opens its load (R65). -/
def State.dispatchTable (s : State) (target : Nat) (source : Addr) (sum : Nat) : State :=
  match targetOf target with
  | some t => s.openLoad t source sum
  | none => s

/-- A DUMP card (R74): a dump of a VALID copy begins; with an INVALID copy the card finishes at once, and the course
goes on with steps 1 to 3 of an advance. A card that became current has just had the next card's read issued, so that
step 4 waits for that read; a card read again may find the next one PRESENT, and State.actAnew takes step 4 then. -/
def State.dispatchDump (s : State) (target : Nat) (dest : Addr) : State :=
  match targetOf target with
  | some t =>
    if (s.tables.active.get t).valid then s.openDump t dest
    else
      let v := (s.handResult (dumpResult s t)).refresh
      v.takeCourse (finishCourse v false) State.advanceRecord
  | none => s

/-- A CALIBRATE card: the swap, then the settle, or the refusal NO_TABLE (R112). -/
def State.dispatchCalibrate (s : State) : State :=
  let t := s.swapTables
  if t.tables.active.drive.valid then t.beginSettle
  else ((t.handResult { outcome := .refused, reason := .noTable, field := 0, kind := .none }).refresh).halt .cardRefused

/-- A HOLD card finishes DONE and the run enters HELD (R139). -/
def State.dispatchHold (s : State) : State :=
  ((s.handResult { outcome := .done, reason := .none, field := 0, kind := .none }).refresh).enterHeld true

/-- An END card finishes DONE and the run enters ENDING (R140). -/
def State.dispatchEnd (s : State) : State :=
  ((s.handResult { outcome := .done, reason := .none, field := 0, kind := .none }).refresh).endRun

/-- A GOOD card goes to its owner (R136). -/
def State.dispatchBody (s : State) (b : CardBody) : State :=
  match b with
  | .frame c => s.dispatchFrame c
  | .leader count noEdge => s.dispatchLeader count noEdge
  | .table target source sum => s.dispatchTable target source sum
  | .dump target dest => s.dispatchDump target dest
  | .calibrate => s.dispatchCalibrate
  | .hold => s.dispatchHold
  | .endCard => s.dispatchEnd
  | .unknown _ => s

/-- The outcome of the current card is acted on (R136). -/
def State.actOnCard (s : State) : State :=
  let t := s.setSeq { s.seq with current := { s.seq.current with acted := true } }
  match s.seq.current.outcome with
  | .good b => t.dispatchBody b
  | .invalid why field b => t.refuseInvalid why field b
  | .readFailed => t.halt .cardRead
  | .pending => t

/-- The card becomes current: next index, lookahead read, and its outcome acted on (R135 step 4). -/
def State.becomeCurrent (s : State) : State :=
  ((s.setSeq { s.seq with nextIndex := s.seq.nextIndex + 1, current := { s.seq.current with entered := true } }
    ).readLookahead).actOnCard

/-- The current record is PRESENT and its card has yet to become current. -/
def mayBecomeCurrent (s : State) : Bool :=
  s.run.state == .running && s.seq.current.state == .present && !s.seq.current.entered

/-- Step 4 of an advance, when the record that it left is PRESENT (R135). -/
def State.takeUp (s : State) : State := if mayBecomeCurrent s then s.becomeCurrent else s

/-- An advance (R135). -/
def State.advance (s : State) : State := s.advanceRecord.takeUp

/-- The outcome of the current card's re-read is acted on (R137). A DUMP card that finishes at once leads to the next
card, which becomes current when its read has ended (R74, R135 step 4). -/
def State.actAnew (s : State) : State := s.actOnCard.takeUp

/-! ## Finishes that lead to an advance -/

/-- A FRAME card finishes (R16): result, empty context, cursor, refresh, course. -/
def State.finishFrame (s : State) (c : FrameCtx) (o : ResultOutcome) : State :=
  let t := (((s.handResult { outcome := o, reason := .none, field := 0, kind := frameFields c o }).emptyCtx).parkAtFinish
    c).refresh
  t.takeFrameCourse (frameCourse t c (o == .failed)) State.advance

/-- A LEADER card finishes DONE (R125). -/
def State.finishLeader (s : State) (l : LeaderCard) : State :=
  let t := ((s.handResult { outcome := .done, reason := .none, field := 0, kind := .leader l.completed }).setFilm
    { s.film with leader := none }).refresh
  t.takeCourse (finishCourse t false) State.advance

/-- A load ends, and its TABLE card finishes (R70). -/
def State.finishLoad (s : State) (l : Load) : State :=
  let r := loadResult s.tables l
  let t := ((s.setTables (s.tables.loadEnded l)).handResult r).refresh
  t.takeCourse (finishCourse t (r.outcome == .loadFailed)) State.advance

/-- A dump's last image write was issued, and its DUMP card finishes DUMPED (R74). -/
def State.finishDump (s : State) (d : Dump) : State :=
  let t := ((s.setTables { s.tables with dump := none }).handResult (dumpResult s d.target)).refresh
  t.takeCourse (finishCourse t false) State.advance

/-- A dump in progress goes on by one image write (R74; the pace is log entry 13). -/
def State.dumpOn (s : State) : State :=
  match s.tables.dump with
  | none => s
  | some d => if d.issued + 1 < imageReads d.target then s.dumpWrite d else (s.dumpWrite d).finishDump d

/-- A CALIBRATE card finishes SETTLED (R112). -/
def State.finishCalibrate (s : State) : State :=
  let t := (s.handResult
    { outcome := .settled, reason := .none, field := 0, kind := .calibrate s.power.pwr s.power.settle.used }).refresh
  t.takeCourse (finishCourse t false) State.advance

end Sys2Proof.Machine
end

