-- ==== Sys2Proof/Machine/Priming.lean ====
section
/-! DEFINITION. PRIMING: validation, set-up, and the stages from the lock wait to the take of deck A; and taking a deck
(R96, R130, R145, R148, R149, R159 to R161, R165). -/

namespace Sys2Proof.Machine

/-! ## Stages 5 to 7 (R160, R161) -/

/-- Stage 7: the next deck, which is A, is sought. -/
def State.primingStage7 (s : State) : State := (s.setRun { s.run with stage := 7 }).seekDeck

/-- Stage 6: a settle when the active DRIVE copy is VALID, else the stage ends at once. -/
def State.primingStage6 (s : State) : State :=
  let t := s.setRun { s.run with stage := 6, lockWait := none }
  if s.tables.active.drive.valid then t.beginSettle else t.primingStage7

/-- Stage 5: the lock wait starts. -/
def State.primingStage5 (s : State) : State :=
  s.setRun { s.run with stage := 5, lockWait := some s.rb.lockTicks }

/-- The report of LOCKED entered reaches the Run Controller: it ends stage 5 (R160). -/
def State.primingLocked (s : State) : State :=
  match s.run.state with
  | .priming => if s.run.stage = 5 then s.primingStage6 else s
  | _ => s

/-- A PRIMING stage taken up again at RESUME; a stage whose condition holds ends at once (R165). -/
def State.resumePriming (s : State) (stage : Nat) : State :=
  if stage = 5 then if s.scan.lock == .locked then s.primingStage6 else s.primingStage5
  else if stage = 6 then
    match s.power.state with
    | .settling => s.resumeSettleWait
    | .settled => s.primingStage7
    | .unsettled => s.primingStage6
  else if stage = 7 then s.primingStage7
  else s

/-! ## Stages 2 to 4 (R96, R97, R130, R160) -/

/-- Stage 2: the motor reference starts, or starts again, with a HIGH level of REFDIV ticks (R97). -/
def ScanTiming.startReference (c : ScanTiming) (refdiv : Nat) : ScanTiming :=
  { c with running := true, refHigh := true, refTimer := some refdiv }

/-- The line's windows are gone: stage NONE, no mark, no timer (R81, R94, R96). -/
def ScanTiming.noWindow (c : ScanTiming) : ScanTiming := { c with window := .none, mark := false, windowTimer := none }

/-- The line in progress is cut: an open window ends at once and is reported as cut, one still to open is cancelled, and
a marked sample is dropped (R39, R43, R81, R94, R102). -/
def State.cutLine (s : State) : State :=
  match s.scan.window with
  | .none => s
  | w => (((s.setDp (s.dp.cut w)).setScan s.scan.noWindow)).dropMarked

/-- The lock given up at stage 3 (R96 step 3). SPINNING keeps its facet counter (R96 step 5), also where the new F is at
most that counter, which R84 does not foresee: the next SOS brings it below F (DESIGN CHOICE, log entry 34). -/
def ScanTiming.giveUpLock (c : ScanTiming) : ScanTiming :=
  match c.lock with
  | .locking => { c with lock := .spinning, facet := 0 }
  | .locked => { c with lock := .spinning, facet := 0 }
  | .stopped => c
  | .spinning => c

/-- The Scan Timing Unit's averages and revolution cleared at stage 3 (R86, R96 steps 2 and 4). -/
def ScanTiming.clearedAtStart (c : ScanTiming) : ScanTiming :=
  { c with averages := List.replicate 16 0, rev := none, goodCount := 0, indexPending := false }

/-- Stage 3 in the Scan Timing Unit, with its reports to the gate and the Regulator (R96). -/
def State.primeScan (s : State) : State :=
  let t := s.cutLine
  let u := (t.setScan t.scan.clearedAtStart.giveUpLock).updateGate
  if s.scan.lock == .locked then u.settleLockLost else u

/-- Stage 3 in the transport: STILL, its START values, its counters from the run block (R113, R130). -/
def Film.primed (f : Film) (rb : RunBlock) : Film :=
  { f with
    state := .still, cycle := none, leader := none, scanRequested := 0, scanIssued := 0, pullIssued := 0, owed := 0,
    stepTimer := none, stepHigh := false, pulseTimer := none, settlingTimer := none, dwellTimer := none, perfCount := 0,
    counter := rb.film.startCounter, magazine := rb.film.frames, good := 0, spoiled := 0, leaders := 0, edgeCode := 0,
    led := false }

/-- Stages 3 and 4 in the Regulator: its START values; the gate is the gate's own (R99, R160). -/
def Power.primed (p : Power) : Power := { Power.reset with gateOpen := p.gateOpen }

/-- Stage 3 in the Deck Reader (R144). -/
def DeckReader.primed (d : DeckReader) (rb : RunBlock) : DeckReader :=
  { d with
    taken := none, next := .a, expectedSerial := rb.firstSerial, serial := 0, cardCount := 0, finishedCount := 0,
    seek := .idle, headerRead := none, pollTimer := none }

/-- Stages 2 to 4 (R160): the reference, then every block's START values, then the power offsets. -/
def State.setUp (s : State) : State :=
  let t := s.setScan (s.scan.startReference s.rb.polygon.refdiv)
  let u := (((t.setFrame .reset).flushParked).setSeq .reset).setDeck (t.deck.primed s.rb)
  let v := (u.setFilm (u.film.primed s.rb)).primeScan
  v.setPower v.power.primed

/-! ## The end of the run block read (R145, R159) -/

/-- A start fault: back to IDLE with RUN_END; no block has taken a field, and the stage stands as before (R159). -/
def State.startFails (s : State) (f : StartFault) (stageBefore : Nat) : State :=
  (s.setRun { s.run with startFault := f, stage := stageBefore }).toIdle

/-- Every check passed: the run block copy is replaced, the snapshot enabled and refreshed, and stages 2 to 5 taken. -/
def State.startPasses (s : State) (rb : RunBlock) : State :=
  (((s.setRb rb).setDeck { s.deck with snapshotEnabled := true }).refresh).setUp.primingStage5

/-- The run block read of the present START ended in PRIMING stage 1 (R145, R159). -/
def State.validateStart (s : State) (data : Option (List Byte)) (stageBefore : Nat) : State :=
  match data with
  | none => s.startFails .unreadable stageBefore
  | some bs =>
    match startFaultOf (parseRunBlock bs) s.film.faultLevel with
    | .none => s.startPasses (parseRunBlock bs)
    | f => s.startFails f stageBefore

/-! ## Taking a deck (R148, R149) -/

/-- The other deck. -/
def Deck.other : Deck → Deck
  | .a => .b
  | .b => .a

/-- A deck is taken (R149): finished count 0 and IN_USE written, the records reset, RUNNING, and an advance. -/
def State.takeDeck (s : State) (h : DeckHeader) : State :=
  let a := deckAddr s s.deck.next
  let t := (s.busWrite (addrPlus a 0x08) [0]).busWrite a (toLE 4 headerInUse)
  let u := (t.setDeck
    { s.deck with
      taken := some s.deck.next, next := s.deck.next.other, expectedSerial := (h.serial + 1) % 65536, serial := h.serial,
      cardCount := h.count, finishedCount := 0, seek := .idle, headerRead := none, pollTimer := none }).setSeq .reset
  let v :=
    match s.run.state with
    | .running => u
    | .priming => (u.setRun { u.run with stage := 8 }).changeRunState .running
    | _ => u.changeRunState .running
  v.advance

/-- A deck not loaded: the run enters WAITING or stays in it, and the poll timer runs (R148, R150). -/
def State.waitForDeck (s : State) : State :=
  let t := s.setDeck { s.deck with seek := .pollWait, headerRead := none, pollTimer := some s.rb.pollTicks }
  match s.run.state with
  | .waiting => t
  | _ => t.changeRunState .waiting

/-- A header read that ended with a header or a failure, acted on (R148). -/
def State.actOnHeader (s : State) (data : Option (List Byte)) : State :=
  let t := s.setDeck { s.deck with seek := .idle, headerRead := none }
  match data with
  | none => t.halt .deckRead
  | some bs =>
    let h := parseHeader bs
    if h.state = headerLoaded then
      if h.serial = s.deck.expectedSerial && decide (1 ≤ h.count) then t.takeDeck h else t.halt .deckSequence
    else t.waitForDeck

/-- Run states in which a header read is acted on (R148). -/
def RunState.seeks : RunState → Bool
  | .priming => true
  | .running => true
  | .waiting => true
  | .idle => false
  | .held => false
  | .halted => false
  | .ending => false

end Sys2Proof.Machine
end

