-- ==== Sys2Proof/Machine/Scan.lean ====
section
/-! DEFINITION. The Scan Timing Unit: lock reports, the stages of an SOS event, and the line event (R79 to R94). -/

namespace Sys2Proof.Machine

/-! ## Reports of the lock state (R89) -/

/-- LOCKED was left, for the state given: reported to Frame Exposure, the gate, the Regulator and the Run Controller. -/
def State.loseLock (s : State) (l : LockState) : State :=
  ((s.setScan { s.scan with lock := l }).frameLockLost).updateGate.settleLockLost

/-- LOCKED was entered: reported to the gate, the Regulator and the Run Controller. -/
def State.gainLock (s : State) : State :=
  (((s.setScan { s.scan with lock := .locked }).updateGate).settleLockGained).primingLocked

/-- A loss of lock to LOCKING; only the first cause at an SOS event finds the state LOCKED (R89). -/
def State.failLock (s : State) : State := if s.scan.lock == .locked then s.loseLock .locking else s

/-- The unit's values on becoming STOPPED, but for the report (R81 step 3, R97). -/
def ScanTiming.stopped (c : ScanTiming) : ScanTiming :=
  { c with
    lock := .stopped, facet := 0, indexPending := false, intervalValid := false, rev := none, goodCount := 0,
    watchdog := none }

/-- The unit becomes STOPPED: open windows cut, then the state, then the report if it was LOCKED (R81, R97). -/
def State.stopScan (s : State) : State :=
  let t := s.cutLine
  let u := t.setScan t.scan.stopped
  if s.scan.lock == .locked then (u.frameLockLost).updateGate.settleLockLost else u

/-! ## Stage 1: capture and reload (R80, R81) -/

/-- The interval captured, if one exists. -/
def capturedInterval (c : ScanTiming) : Option Nat :=
  if c.intervalValid then some (Config.intervalReload - c.interval) else none

/-- The interval counter and the watchdog reloaded. -/
def ScanTiming.reloaded (c : ScanTiming) (wd : Nat) : ScanTiming :=
  { c with interval := Config.intervalReload, intervalValid := true, watchdog := some wd }

/-! ## Revolution record (R87) -/

/-- The record marked bad. -/
def ScanTiming.markBad (c : ScanTiming) : ScanTiming :=
  { c with rev := c.rev.map fun v => { v with bad := true } }

/-- A record newly started. -/
def Revolution.fresh : Revolution := { sum := 0, intervals := 0, bad := false }

/-- An interval gathered into the record. -/
def ScanTiming.gather (c : ScanTiming) (i : Nat) : ScanTiming :=
  { c with rev := c.rev.map fun v => { v with sum := v.sum + i, intervals := v.intervals + 1 } }

/-- A revolution is good (R87). -/
def revolutionGood (v : Revolution) (p : PolygonFields) : Bool :=
  !v.bad && v.intervals == p.facets && decide (((v.sum : Int) - p.period).natAbs ≤ p.tolerance)

/-! ## Stage 2: overlap (R94) -/

/-- A line overlap: the line cut, the record bad, and LOCKED lost. -/
def State.overlapStage (s : State) : State :=
  match s.scan.window with
  | .none => s
  | _ =>
    let t := s.cutLine
    (t.setScan t.scan.markBad).failLock

/-! ## Stage 3: facet (R84) -/

/-- The facet counter after the present one (R84). -/
def nextFacet (c : ScanTiming) (f : Nat) : Nat := (c.facet + 1) % f

/-- A slip: an index off the wrap, or a wrap with no index (R84). -/
def isSlip (c : ScanTiming) (f : Nat) : Bool := if c.indexPending then nextFacet c f != 0 else nextFacet c f == 0

/-- The facet counter of an SOS in LOCKING or LOCKED: an index sets it to 0 (R84). -/
def facetAfter (c : ScanTiming) (f : Nat) : Nat := if c.indexPending then 0 else nextFacet c f

/-- What a slip adds: the record bad, LOCKED lost, and in LOCKING the good-revolution count 0 (R84). -/
def State.slip (s : State) : State :=
  if s.scan.lock == .locked then (s.setScan s.scan.markBad).failLock
  else s.setScan { s.scan.markBad with goodCount := 0 }

/-- Stage 3 by the lock state at the start of the event (R84). -/
def State.facetStage (s : State) (start : LockState) : State :=
  match start with
  | .stopped => s.setScan { s.scan with facet := 0, lock := .spinning, indexPending := false }
  | .spinning =>
    if s.scan.indexPending then
      s.setScan { s.scan with facet := 0, lock := .locking, indexPending := false, rev := some .fresh, goodCount := 0 }
    else s.setScan { s.scan with facet := nextFacet s.scan s.rb.polygon.facets }
  | _ =>
    let t := s.setScan { s.scan with facet := facetAfter s.scan s.rb.polygon.facets, indexPending := false }
    if isSlip s.scan s.rb.polygon.facets then t.slip else t

/-! ## Stage 4: average (R85) -/

/-- An average after an interval that is no violation: the difference shifted right by 4, toward minus infinity. -/
def smoothed (a i : Nat) : Nat := ((a : Int) + ((i : Int) - a) / 16).toNat

/-- An interval violates its facet's average (R85). -/
def violates (a i win : Nat) : Bool := a != 0 && decide (win < ((i : Int) - a).natAbs)

/-- The average of a facet. -/
def ScanTiming.average (c : ScanTiming) (d : Nat) : Nat := c.averages.getD d 0

/-- The interval applied to the departing facet's average, and gathered into the record (R85, R87). -/
def State.averageStage (s : State) (d i : Nat) : State :=
  let a := s.scan.average d
  if violates a i s.rb.polygon.window then
    let t := s.setScan (s.scan.markBad.gather i)
    t.failLock
  else
    let v := if a = 0 then i else smoothed a i
    s.setScan (ScanTiming.gather { s.scan with averages := s.scan.averages.set d v } i)

/-! ## Stage 5: revolution (R87) -/

/-- A bad revolution's effect: count 0 and the averages cleared. -/
def ScanTiming.badRevolution (c : ScanTiming) : ScanTiming :=
  { c with goodCount := 0, averages := List.replicate 16 0 }

/-- The check of a started record (R87). -/
def State.checkRevolution (s : State) (v : Revolution) : State :=
  let fresh : ScanTiming := { s.scan with rev := some .fresh }
  if revolutionGood v s.rb.polygon then
    match s.scan.lock with
    | .locking =>
      let t := s.setScan { fresh with goodCount := s.scan.goodCount + 1 }
      if s.scan.goodCount + 1 = s.rb.polygon.goodRevs then t.gainLock else t
    | _ => s.setScan fresh
  else (s.setScan fresh.badRevolution).failLock

/-- Stage 5: a facet-0 SOS checks the record that stands. -/
def State.revolutionStage (s : State) : State :=
  match s.scan.rev with
  | some v => if s.scan.facet = 0 then s.checkRevolution v else s
  | none => s

/-! ## Stage 6: line (R90 to R92) -/

/-- The offset of a pixel window after its SOS, with the facet trim as it stands (R92). -/
def windowOffset (s : State) : Nat :=
  (max (Config.leastWindowOffset : Int) ((s.rb.line.base : Int) + facetTrim s.tables s.scan.facet)).toNat

/-- The line event, and the schedule of its windows. -/
def State.lineStage (s : State) : State :=
  match s.scan.lock with
  | .locked =>
    let t := s.frameLine
    let m := t.regulatorLine
    m.1.setScan { m.1.scan with window := .pixelWait, mark := m.2, windowTimer := some (windowOffset s) }
  | _ => s

/-! ## The SOS event (R82) -/

/-- Stages 4 and 5, for an event that began in LOCKING or LOCKED. Any other event has no interval to apply and no record
that stood before it. -/
def State.judgeStages (s : State) (start : LockState) (d : Nat) (i : Option Nat) : State :=
  match start with
  | .stopped => s
  | .spinning => s
  | _ =>
    match i with
    | some n => (s.averageStage d n).revolutionStage
    | none => s.revolutionStage

/-- The six stages, taken while the reference is RUNNING. -/
def State.sosStages (s : State) : State :=
  let t := (s.setScan (s.scan.reloaded s.rb.polygon.watchdog)).overlapStage
  (((t.facetStage s.scan.lock).judgeStages s.scan.lock s.scan.facet (capturedInterval s.scan))).lineStage

end Sys2Proof.Machine
end

