-- ==== Sys2Proof/Machine/Commands.lean ====
section
/-! DEFINITION. Meanings of the register-window commands and of power-on (R97, R158 to R171, R179). -/

namespace Sys2Proof.Machine

/-- The outcome of a meaning: every command and event is a next state. -/
abbrev Result := Host.Outcome State Fault Refusal

/-! ## START (R159) -/

/-- The Run Controller's START values (R157). -/
def RunCtl.started (r : RunCtl) : RunCtl :=
  { RunCtl.reset with state := r.state, lastOutcome := .accepted }

/-- An accepted START: PRIMING at stage 1, and the run block is read (R145, R159). -/
def State.acceptStart (s : State) : State :=
  let t := (s.setRun s.run.started).changeRunState .priming
  (t.busRead (runBlockAddr t) 256).setDeck
    { t.deck with
      runBlockRead := some
        { id := t.nextId, timer := Config.runBlockReadLimit * Config.ticksPer10us, stageBefore := s.run.stage } }

/-- START (R158, R159). -/
def execStart (s : State) : Result :=
  match s.run.state with
  | .idle => .next s.acceptStart
  | _ => .next (s.answer .refused)

/-! ## PAUSE (R162) -/

/-- An accepted PAUSE. -/
def State.acceptPause (s : State) : State :=
  match s.run.state with
  | .running => if cardCurrent s then s.setRun { s.run with pausePending := true } else s.enterHeld false
  | _ => s.enterHeld false

/-- PAUSE (R158, R162). -/
def execPause (s : State) : Result :=
  match s.run.state with
  | .running => .next (s.answer .accepted).acceptPause
  | .waiting => .next (s.answer .accepted).acceptPause
  | _ => .next (s.answer .refused)

/-! ## RESUME (R163, R164, R165) -/

/-- A FRAME card goes on at RESUME: PREPARING anew, or the pending retake (R8, R22). -/
def State.resumeFrame (s : State) : State :=
  match s.frame.ctx with
  | none => s
  | some c =>
    match c.state with
    | .preparing => s.enterPreparing c
    | .closing => if c.retakePending then s.enterPreparing { c with haltAfter := .none } else s
    | .exposing => s

/-- A CALIBRATE card goes on at RESUME: its settle's wait, or a new settle (R109, R110). -/
def State.resumeCalibrate (s : State) : State :=
  match s.power.state with
  | .settling => s.resumeSettleWait
  | .unsettled => s.beginSettle
  | .settled => s

/-- The current card's owner goes on, after its outcome was acted on (R137, R164). -/
def State.resumeCard (s : State) : State :=
  match s.seq.current.outcome with
  | .readFailed => s.rereadCurrent
  | .good (.frame _) => s.resumeFrame
  | .good (.leader _ _) => s.leaderCycle
  | .good .calibrate => s.resumeCalibrate
  | .good (.table _ _ _) => s
  | .good (.dump _ _) => s
  | .good .hold => s
  | .good .endCard => s
  | .good (.unknown _) => s
  | .invalid _ _ _ => s
  | .pending => s

/-- RUNNING again: the current card goes on, an outcome held is acted on, or the held advance is carried out (R135, R137,
R163, R165). -/
def State.resumeRunning (s : State) : State :=
  if currentUnfinished s then
    if s.seq.current.acted then s.resumeCard
    else
      match s.seq.current.state with
      | .present => s.actAnew
      | _ => s
  else s.advance

/-- The action at a resume point, the run state already changed (R151, R165). -/
def State.resumeAt (s : State) (p : ResumePoint) : State :=
  match p with
  | .priming stage => s.resumePriming stage
  | .waiting => s.seekDeck
  | .running => s.resumeRunning

/-- The run state of a resume point. -/
def ResumePoint.runState : ResumePoint → RunState
  | .priming _ => .priming
  | .waiting => .waiting
  | .running => .running

/-- An accepted RESUME to a resume point. -/
def State.acceptResume (s : State) (p : ResumePoint) : State :=
  ((s.setRun { s.run with haltCause := .none, lastOutcome := .accepted }).changeRunState p.runState).resumeAt p

/-- The resume point of HELD: WAITING when no deck is taken, RUNNING otherwise (R163). -/
def heldResume (s : State) : ResumePoint :=
  match s.deck.taken with
  | none => .waiting
  | some _ => .running

/-- RESUME (R158, R163 to R165). -/
def execResume (s : State) : Result :=
  match s.run.state with
  | .held => .next (s.acceptResume (heldResume s))
  | .halted => if s.run.haltCause.resumable then .next (s.acceptResume s.run.resume) else .next (s.answer .refused)
  | _ => .next (s.answer .refused)

/-! ## STOP (R166) -/

/-- A settle in progress is ended at once, and only then is ENDING entered, so that ENDING's own refresh shows the regulator
UNSETTLED (R111, R156): the CALIBRATE card of a STOP or an ABORT in RUNNING, and an ABORT in PRIMING (R166, R167). From
HALTED the run enters ENDING at once, and step 1 of R168 ends the settle. -/
def State.endSettleAndRun (s : State) : State := s.endSettle.endRun

/-- What a STOP does to a card that is current in RUNNING (R24, R71, R111, R126, R166). -/
def State.stopCard (s : State) : State :=
  match s.seq.current.outcome with
  | .good (.frame _) =>
    match s.frame.ctx with
    | none => s.endRun
    | some c =>
      match c.state, c.closeKind with
      | .preparing, _ => s.endRun
      | .exposing, _ => s
      | .closing, .good => s
      | .closing, .spoiled => s.dropRetake c
  | .good (.leader _ _) => if s.film.state.moving then s else s.endRun
  | .good (.table _ _ _) => s
  | .good (.dump _ _) => s
  | .good .calibrate => s.endSettleAndRun
  | _ => s.endRun

/-- An accepted STOP; one that is pending already changes nothing further in RUNNING (R158, R166). -/
def State.acceptStop (s : State) : State :=
  let t := s.setRun { s.run with stopPending := true }
  match s.run.state with
  | .running =>
    if s.run.stopPending then t
    else if cardCurrent s then t.stopCard
    else t.endRun
  | _ => t.endRun

/-- STOP (R158, R166). -/
def execStop (s : State) : Result :=
  match s.run.state with
  | .running => .next (s.answer .accepted).acceptStop
  | .waiting => .next (s.answer .accepted).acceptStop
  | .held => .next (s.answer .accepted).acceptStop
  | .halted => .next (s.answer .accepted).acceptStop
  | _ => .next (s.answer .refused)

/-! ## ABORT (R167) -/

/-- What an ABORT does to a card that is current in RUNNING (R25, R71, R75, R111, R126, R167). -/
def State.abortCard (s : State) : State :=
  match s.seq.current.outcome with
  | .good (.frame _) =>
    match s.frame.ctx with
    | none => s.endRun
    | some c =>
      match c.state, c.closeKind with
      | .preparing, _ => s.endRun
      | .exposing, _ => s.spoil c .abort
      | .closing, .good => s
      | .closing, .spoiled => s.dropRetake c
  | .good (.leader _ _) => if s.film.state.moving then s else s.endRun
  | .good .calibrate => s.endSettleAndRun
  | _ => s.endRun

/-- An accepted ABORT (R167). -/
def State.acceptAbort (s : State) : State :=
  let t := s.setRun { s.run with stopPending := true, abortRecord := true }
  match s.run.state with
  | .ending => s
  | .priming => t.endSettleAndRun
  | .running => if cardCurrent s then t.abortCard else t.endRun
  | _ => t.endRun

/-- ABORT (R158, R167). -/
def execAbort (s : State) : Result :=
  match s.run.state with
  | .idle => .next (s.answer .refused)
  | _ => .next (s.answer .accepted).acceptAbort

/-! ## SPIN_DOWN (R97) -/

/-- The motor reference stopped, its output LOW (R97). -/
def ScanTiming.stopReference (c : ScanTiming) : ScanTiming :=
  { c with running := false, refHigh := false, refTimer := none }

/-- SPIN_DOWN (R97, R158). A reference already STOPPED is left as it is. -/
def execSpinDown (s : State) : Result :=
  match s.run.state with
  | .idle =>
    let t := s.answer .accepted
    if s.scan.running then .next (t.setScan t.scan.stopReference).stopScan else .next t
  | _ => .next (s.answer .refused)

/-! ## RESET and power-on (R169, R170) -/

/-- The Run Controller after a soft reset (R157, R169). -/
def RunCtl.softReset : RunCtl := { RunCtl.reset with lastOutcome := .accepted }

/-- The ring after a soft reset: flushed, cursor parked, reads outstanding voided with their timers (R58, R60). -/
def LineRing.softReset (g : LineRing) : LineRing := g.flushed g.cursor.park

/-- The Table Store after a soft reset: active copies kept, staged copies INVALID, a load or a dump abandoned (R71, R75,
R76). -/
def TableStore.softReset (t : TableStore) : TableStore :=
  { active := t.active, staged := .all { state := .invalid, words := [] }, load := none,
    reads := t.reads.map fun e => { e with live := false }, dump := none }

/-- The transport after a soft reset: it stops where it is, and keeps its counters and input levels (R113). -/
def Film.softReset (f : Film) : Film :=
  { Film.reset with
    perfLevel := f.perfLevel, faultLevel := f.faultLevel, sampleClock := f.sampleClock, perfRun := f.perfRun,
    faultRun := f.faultRun, counter := f.counter, magazine := f.magazine, good := f.good, spoiled := f.spoiled,
    leaders := f.leaders }

/-- Frame Exposure after a soft reset: the context emptied, the spoil-list counters kept (R2). -/
def FrameExposure.softReset (f : FrameExposure) : FrameExposure := { f with ctx := none }

/-- A soft reset of every block (R169). The run block copy is kept (R144), and so are the world's inputs, what was
issued to host memory, and the identities used. -/
def State.softReset (s : State) : State :=
  { pending := s.pending, regs := .reset, run := .softReset, rb := s.rb, deck := .reset, seq := .reset,
    frame := s.frame.softReset, ring := s.ring.softReset, dp := .reset, tables := s.tables.softReset, scan := .reset,
    power := .reset, film := s.film.softReset, pins := s.pins, bus := s.bus, nextId := s.nextId }

/-- RESET (R158, R169). -/
def execReset (s : State) : Result := .next s.softReset

/-- POWER_ON (R170): the power-on values of every block. The queue, the world's inputs, what was issued to host memory
and the identities used are not the controller's to lose (log entry 2). -/
def execPowerOn (s : State) : Result :=
  .next { State.reset with pending := s.pending, pins := s.pins, bus := s.bus, nextId := s.nextId }

/-! ## The other register writes (R158, R171, R179) -/

/-- A CONTROL write whose code names no command (R158). -/
def execUnknownCommand (_code : BitVec 8) (s : State) : Result := .next (s.answer .refused)

/-- One half of the run block address replaced (R158). -/
def RegWindow.putRunaddr (g : RegWindow) (high : Bool) (v : BitVec 32) : RegWindow :=
  if high then { g with runaddrHi := v } else { g with runaddrLo := v }

/-- RUNADDR_WRITE (R158, R179). -/
def execRunaddrWrite (high : Bool) (value : BitVec 32) (s : State) : Result :=
  match s.run.state with
  | .idle => .next (s.setRegs (s.regs.putRunaddr high value))
  | _ => .next s

/-- The causes cleared and the enables replaced by an ATTENTION write, with the line (R171, R179). -/
def RegWindow.attend (g : RegWindow) (v : BitVec 32) : RegWindow :=
  RegWindow.withIrq { g with causes := g.causes &&& ~~~(v.extractLsb' 0 7), enables := v.extractLsb' 16 7 }

/-- ATTENTION_WRITE (R171). -/
def execAttentionWrite (value : BitVec 32) (s : State) : Result := .next (s.setRegs (s.regs.attend value))

/-- REGISTER_WRITE: a write to IDENT, STATE or an empty offset, or one narrower than 32 bits, is ignored (R179). -/
def execRegisterWrite (_offset : Nat) (_bytes : Nat) (_value : BitVec 32) (s : State) : Result := .next s

end Sys2Proof.Machine
end

