-- ==== Sys2Proof/Machine/ScanEvents.lean ====
section
/-! DEFINITION. Meanings of the scan's events: sensors, watchdog, windows, raster positions, the conversion, the motor
reference and the three lock waits (R7, R30, R31, R38, R42, R43, R78 to R83, R92, R93, R97, R102 to R110, R160).
An event that the unit cannot bring about in the state it meets changes nothing (log entry 4). -/

namespace Sys2Proof.Machine

/-! ## Sensors (R78, R79, R82, R83) -/

/-- SOS_EVENT: a qualified change of the start-of-scan input from LOW to HIGH. With the level HIGH there is no change,
and while the reference is STOPPED the event is discarded. -/
def execSosEvent (s : State) : Result :=
  if s.scan.sosLevel then .next s
  else
    let t := s.setScan { s.scan with sosLevel := true, sosRun := 0 }
    if s.scan.running then .next t.sosStages else .next t

/-- Index pending after an index event: set while the reference is RUNNING, but not in STOPPED (R79, R83). -/
def ScanTiming.takeIndex (c : ScanTiming) : ScanTiming :=
  if c.running && c.lock != .stopped then { c with indexPending := true } else c

/-- INDEX_EVENT: a qualified change of the index input from LOW to HIGH (R78, R83). -/
def execIndexEvent (s : State) : Result :=
  if s.scan.indexLevel then .next s
  else .next (s.setScan (ScanTiming.takeIndex { s.scan with indexLevel := true, indexRun := 0 }))

/-- WATCHDOG_EXPIRY (R81): acts while the watchdog runs. The clock brings the event while the watchdog stands at 0 alone,
so that an SOS taken first at the same tick leaves none to come (State.idleStep). -/
def execWatchdogExpiry (s : State) : Result :=
  match s.scan.watchdog with
  | some _ => .next s.stopScan
  | none => .next s

/-- QUALIFIED_LEVEL_FALL (R78, R119): the input's qualified level returns to LOW. -/
def execQualifiedLevelFall (input : SensorInput) (s : State) : Result :=
  match input with
  | .startOfScan =>
    .next (if s.scan.sosLevel then s.setScan { s.scan with sosLevel := false, sosRun := 0 } else s)
  | .index =>
    .next (if s.scan.indexLevel then s.setScan { s.scan with indexLevel := false, indexRun := 0 } else s)
  | .perforation =>
    .next (if s.film.perfLevel then s.setFilm { s.film with perfLevel := false, perfRun := 0 } else s)

/-! ## Pixel window (R30, R31, R38, R92) -/

/-- PIXEL_WINDOW_OPEN (R30, R92). -/
def execPixelWindowOpen (s : State) : Result :=
  match s.scan.window with
  | .pixelWait =>
    .next ((s.setDp (s.dp.openPixel s.power.pwr s.frame.ctx)).setScan
      { s.scan with window := .pixel, windowTimer := some (Config.rasterPositions * s.rb.divisorTicks) })
  | _ => .next s

/-- The time to the position after the one begun now (R31). -/
def positionTimerAfter (x divisor : Nat) : Option Nat :=
  if x + 1 < Config.rasterPositions then some divisor else none

/-- RASTER_POSITION_INTERVAL (R31): the next raster position of an open pixel window begins. -/
def execRasterPositionInterval (s : State) : Result :=
  match s.scan.window with
  | .pixel =>
    if s.dp.nextPosition < Config.rasterPositions then
      .next (s.setDp
        { drivePosition s with
          nextPosition := s.dp.nextPosition + 1
          positionTimer := positionTimerAfter s.dp.nextPosition s.rb.divisorTicks })
    else .next s
  | _ => .next s

/-- The window stage after a pixel window's end (R92, R93). -/
def ScanTiming.pixelEnded (c : ScanTiming) (mgap : Nat) : ScanTiming :=
  if c.mark then { c with window := .monitorWait, windowTimer := some mgap }
  else { c with window := .none, windowTimer := none }

/-- What the Datapath reports of a pixel window that reached its end (R38, R40). -/
def State.reportPixelEnd (s : State) (d : Datapath) : State :=
  match d.mode, d.lineSlot with
  | .image, some slot => (s.imageLineEnded slot d.clamps).closeIfLast
  | .image, none => s.closeIfLast
  | .blank, _ => s.closeIfLast
  | _, _ => s

/-- PIXEL_WINDOW_END (R12, R38, R92). -/
def execPixelWindowEnd (s : State) : Result :=
  match s.scan.window with
  | .pixel =>
    let t := (s.setScan (s.scan.pixelEnded s.rb.line.mgap)).setDp s.dp.endPixel
    .next (t.reportPixelEnd s.dp)
  | _ => .next s

/-! ## Monitor window and conversion (R42, R43, R93, R102 to R109) -/

/-- MONITOR_WINDOW_OPEN (R42, R93). -/
def execMonitorWindowOpen (s : State) : Result :=
  match s.scan.window with
  | .monitorWait =>
    .next ((s.setDp (openMonitor s)).setScan
      { s.scan with window := .monitor, windowTimer := some s.rb.line.mlen })
  | _ => .next s

/-- The ADC samples at an uncut monitor window's end: the marked sample becomes the conversion (R102). -/
def Power.sampled (p : Power) (reading : BitVec 10) : Power :=
  match p.marked with
  | some m =>
    { p with marked := none, conversion := some { sample := m, reading := reading, timer := Config.conversionTicks } }
  | none => p

/-- MONITOR_WINDOW_END (R43, R93, R102). -/
def execMonitorWindowEnd (s : State) : Result :=
  match s.scan.window with
  | .monitor =>
    .next (((s.setDp s.dp.endMonitor).setScan s.scan.noWindow).setPower (s.power.sampled s.pins.photodiode))
  | _ => .next s

/-- The settle reached SETTLED, and reports to the block that began it: PRIMING stage 6 or the CALIBRATE card (R108). -/
def State.settleDone (s : State) : State :=
  match s.run.state with
  | .priming => if s.run.stage = 6 then s.primingStage7 else s
  | _ =>
    match currentBody s with
    | some .calibrate => s.finishCalibrate
    | _ => s

/-- A valid SETTLE reading used (R108, R109). -/
def State.useSettle (s : State) (m : Nat) : State :=
  let r := s.power.settleStep s.rb.power m
  let t := s.setPower r.1
  match r.2 with
  | .goesOn => t
  | .settled => t.settleDone
  | .failed => t.halt .settleFail

/-- A valid REGULATE reading used (R103 to R106). -/
def State.useRegulate (s : State) (ch : Channel) (m : Nat) : State :=
  if m = 0 then
    let r := s.power.countDark ch
    if r.2 then (s.setPower r.1).laserDark else s.setPower r.1
  else s.regulate ch m

/-- A reading with the valid mark set fits the Regulator (R102). -/
def readingFits (s : State) (m : Sample) : Bool :=
  match m.purpose with
  | .regulate => s.power.state == .settled && s.run.state.regulates
  | .settle => s.power.state == .settling && s.power.settle.channel == m.channel

/-- The reading of a sample used, or discarded (R102). -/
def State.useReading (s : State) (m : Sample) (reading : Nat) : State :=
  if m.valid && readingFits s m then
    match m.purpose with
    | .regulate => s.useRegulate m.channel reading
    | .settle => s.useSettle reading
  else s

/-- CONVERSION_COMPLETION with the ADC's reading (R102). -/
def execConversionCompletion (reading : BitVec 10) (s : State) : Result :=
  match s.power.conversion with
  | some c => .next ((s.setPower { s.power with conversion := none }).useReading c.sample reading.toNat)
  | none => .next s

/-! ## Lock waits (R7, R110, R160) -/

/-- The context's lock wait marked expired (R7). -/
def State.expireLockWait (s : State) (c : FrameCtx) : State := s.setCtx { c with lockWait := .expired }

/-- FRAME_LOCK_WAIT_EXPIRY (R7): acts while the lock wait of a PREPARING wait runs. -/
def execFrameLockWaitExpiry (s : State) : Result :=
  match s.frame.ctx with
  | none => .next s
  | some c =>
    match c.lockWait with
    | .running _ =>
      let t := s.expireLockWait c
      .next (if s.scan.lock == .locked then t else t.halt .lockTimeout)
    | .stopped => .next s
    | .expired => .next s

/-- PRIMING_LOCK_WAIT_EXPIRY (R160): acts while the lock wait of stage 5 runs. -/
def execPrimingLockWaitExpiry (s : State) : Result :=
  match s.run.lockWait with
  | some _ =>
    let t := s.setRun { s.run with lockWait := none }
    .next (if s.scan.lock == .locked then t else t.halt .lockTimeout)
  | none => .next s

/-- SETTLE_LOCK_TIMEOUT_EXPIRY (R110): acts while the settle lock timeout runs. -/
def execSettleLockTimeoutExpiry (s : State) : Result :=
  match s.power.settleTimeout with
  | some _ =>
    let t := s.setPower { s.power with settleTimeout := none }
    .next (if s.scan.lock == .locked then t else t.halt .lockTimeout)
  | none => .next s

/-! ## Motor reference (R97) -/

/-- MOTOR_REFERENCE_TOGGLE (R97): the output changes level, while the reference is RUNNING. -/
def execMotorReferenceToggle (s : State) : Result :=
  if s.scan.running then
    .next (s.setScan { s.scan with refHigh := !s.scan.refHigh, refTimer := some s.rb.polygon.refdiv })
  else .next s

end Sys2Proof.Machine
end

