-- ==== Sys2Proof/Machine/ReadEvents.lean ====
section
/-! DEFINITION. Meanings of the ends of host-memory reads and of the poll timer (R50 to R53, R66, R70, R71, R133, R145,
R148, R150). A part or an end that carries the identity of no read in flight is recognised and discarded. -/

namespace Sys2Proof.Machine

/-! ## Image lines -/

/-- LINE_READ_PART (R49, R51). -/
def execLineReadPart (id : Nat) (error : Bool) (s : State) : Result :=
  .next (s.setRing
    { s.ring with reads := s.ring.reads.map fun e => if e.id = id then e.withPart error else e })

/-- LINE_READ_COMPLETE (R50, R51, R53). -/
def execLineReadComplete (id : Nat) (answer : Answer) (s : State) : Result :=
  match s.ring.entry id with
  | some e => .next (s.endLineRead e (completedSlot e.errorSeen answer))
  | none => .next s

/-- LINE_READ_TIMER_EXPIRY (R52, R53). -/
def execLineReadTimerExpiry (id : Nat) (s : State) : Result :=
  match s.ring.entry id with
  | some e => .next (s.endLineRead e (expiredSlot e.errorSeen))
  | none => .next s

/-! ## Table images -/

/-- A load that is over is checked and its card finishes; otherwise further reads are issued (R66, R67, R70). -/
def State.afterLoadRead (s : State) : State :=
  match s.tables.load with
  | some l => if l.over then s.finishLoad l else s.loadMore
  | none => s

/-- A load read ends with data or a read failure. One whose load was abandoned belongs to no load (R66, R71). -/
def State.endLoadRead (s : State) (e : LoadRead) (data : Option (List Byte)) : State :=
  let t : TableStore := { s.tables with reads := s.tables.reads.filter fun x => x.id != e.id }
  match e.live, s.tables.load with
  | true, some l => (s.setTables (t.readEnded e l data)).afterLoadRead
  | _, _ => (s.setTables t).loadMore

/-- LOAD_READ_COMPLETE (R66). -/
def execLoadReadComplete (id : Nat) (answer : Answer) (s : State) : Result :=
  match s.tables.entry id with
  | some e => .next (s.endLoadRead e (answerOf answer e.bytes))
  | none => .next s

/-- LOAD_READ_EXPIRY (R66). -/
def execLoadReadExpiry (id : Nat) (s : State) : Result :=
  match s.tables.entry id with
  | some e => .next (s.endLoadRead e none)
  | none => .next s

/-! ## Run block -/

/-- PRIMING stage 1 is in progress. -/
def atStage1 (s : State) : Bool := s.run.state == .priming && s.run.stage == 1

/-- RUN_BLOCK_READ_END (R145, R159): validated in PRIMING stage 1, discarded once the run has left it. -/
def execRunBlockReadEnd (id : Nat) (result : ReadEnd) (s : State) : Result :=
  match s.deck.runBlockRead with
  | some p =>
    if p.id = id then
      let t := s.setDeck { s.deck with runBlockRead := none }
      .next (if atStage1 s then t.validateStart (endData result 256) p.stageBefore else t)
    else .next s
  | none => .next s

/-! ## Deck headers -/

/-- HEADER_READ_END (R148): acted on in PRIMING, RUNNING and WAITING; in any other run state the seek becomes IDLE. -/
def execHeaderReadEnd (id : Nat) (result : ReadEnd) (s : State) : Result :=
  match s.deck.headerRead with
  | some p =>
    if p.id = id then
      if s.run.state.seeks then .next (s.actOnHeader (endData result 64))
      else .next (s.setDeck { s.deck with seek := .idle, headerRead := none })
    else .next s
  | none => .next s

/-- POLL_TIMER_EXPIRY (R150): the header of the next deck is read again. -/
def execPollTimerExpiry (s : State) : Result :=
  match s.deck.pollTimer with
  | some _ => .next s.seekDeck
  | none => .next s

/-! ## Card bodies -/

/-- A record waits for the read of an identity. -/
def CardRecord.awaits (r : CardRecord) (id : Nat) : Bool :=
  match r.read with
  | some p => p.id == id
  | none => false

/-- A record whose read ended (R132, R133). -/
def CardRecord.delivered (r : CardRecord) (o : CardOutcome) : CardRecord :=
  { r with state := .present, read := none, outcome := o }

/-- The current record's read ended: in RUNNING the card becomes current, or a re-read's outcome is acted on; in any
other run state the outcome is held (R135, R137). -/
def State.currentDelivered (s : State) : State :=
  match s.run.state with
  | .running => if s.seq.current.entered then s.actAnew else s.becomeCurrent
  | _ => s

/-- CARD_READ_END (R133, R135, R137, R56). -/
def execCardReadEnd (id : Nat) (result : ReadEnd) (s : State) : Result :=
  let o := cardOutcomeOf s.rb.height result
  if s.seq.current.awaits id then
    .next (s.setSeq { s.seq with current := s.seq.current.delivered o }).currentDelivered
  else if s.seq.lookahead.awaits id then
    .next (s.setSeq { s.seq with lookahead := s.seq.lookahead.delivered o }).tryCross.fetch
  else .next s

end Sys2Proof.Machine
end

