-- ==== Sys2Proof/Machine/FilmEvents.lean ====
section
/-! DEFINITION. Meanings of the film's events: steps, the settling period, the dwell end, perforation edges and the drive
fault line (R15, R22, R115 to R128). -/

namespace Sys2Proof.Machine

/-! ## Steps (R115, R118) -/

/-- STEP_ISSUE (R115): an owed step is issued in SCANNING, CATCHUP or PULLING. -/
def execStepIssue (s : State) : Result :=
  if s.film.owed = 0 then .next s
  else
    match s.film.state with
    | .scanning => .next (s.setFilm (s.film.scanStep s.rb))
    | .catchup => .next (s.setFilm (s.film.scanStep s.rb))
    | .pulling => .next (s.setFilm (s.film.pullStep s.rb))
    | _ => .next s

/-- STEP_PULSE_END (R115): the step line returns LOW. -/
def execStepPulseEnd (s : State) : Result := .next (s.setFilm { s.film with stepHigh := false, pulseTimer := none })

/-! ## The dwell end (R15, R22, R120 to R125) -/

/-- The return to STILL is reported to the Regulator: a pending dark halt is taken (R106, R120 step 5). -/
def State.reportStill (s : State) : State := if s.power.darkHaltPending then s.halt .laserDark else s

/-- Steps 1 to 3 of R120: the position is counted, and FILM_LOW is raised at the low threshold. -/
def State.countPosition (s : State) : State :=
  let t := s.setFilm s.film.countPosition
  if t.film.magazine = s.rb.film.lowThreshold then t.raise .filmLow else t

/-- A GOOD cycle's owner acts: the good film counter (R15). The dwell end's refresh follows (log entry 7). -/
def State.ownGood (s : State) (c : FrameCtx) (passed : Bool) : State :=
  if passed then
    let d : FrameCtx := { c with goodFilm := c.position }
    ((s.setCtx d).refresh).finishFrame d (if c.attemptsExposed = 1 then .exposed else .retaken)
  else s.refresh.halt .registration

/-- How a SPOILED cycle goes on after its entry, SPOIL and the refresh: the first row that applies (R22). -/
def State.afterSpoiled (s : State) (c : FrameCtx) (passed : Bool) : State :=
  if !passed then (s.setCtx { c with retakePending := false }).halt .registration
  else if !c.retakePending then s.finishFrame c .failed
  else
    match c.haltAfter with
    | .polygonLost => s.halt .polygonLost
    | .laserDark => s.halt .laserDark
    | .none => s.enterPreparing c

/-- A SPOILED cycle's owner acts: the spoil entry, SPOIL, then the course (R22). -/
def State.ownSpoiled (s : State) (c : FrameCtx) (passed : Bool) : State :=
  ((((s.recordSpoil c).raise .spoil).refresh)).afterSpoiled c passed

/-- How a LEADER card goes on after its cycle was counted (R121, R125, R126). -/
def State.afterLeader (s : State) (l : LeaderCard) (passed : Bool) : State :=
  if !passed then s.halt .registration
  else if l.count ≤ l.completed then s.finishLeader l
  else if s.run.stopPending then s.endRun
  else s.leaderCycle

/-- A leader cycle's owner acts: cycles completed rises (R125). -/
def State.ownLeader (s : State) (l : LeaderCard) (passed : Bool) : State :=
  let m : LeaderCard := { l with completed := l.completed + 1 }
  ((s.setFilm { s.film with leader := some m }).refresh).afterLeader m passed

/-- The outcome handed to the cycle's owner (R120 step 6). -/
def State.handCycle (s : State) (cycle : Option Cycle) (passed : Bool) : State :=
  match cycle with
  | none => s.refresh
  | some y =>
    if y.forFrame then
      match s.frame.ctx with
      | some c =>
        match y.kind with
        | .spoiled => s.ownSpoiled c passed
        | _ => s.ownGood c passed
      | none => s.refresh
    else
      match s.film.leader with
      | some l => s.ownLeader l passed
      | none => s.refresh

/-- The dwell end, taken in DWELL (R120). -/
def State.dwellEnd (s : State) : State :=
  let passed := perfPasses s
  let t := s.countPosition
  let u := t.setFilm (t.film.checked passed)
  (if passed then u.reportStill else u).handCycle s.film.cycle passed

/-- DWELL_END (R120). -/
def execDwellEnd (s : State) : Result :=
  match s.film.state with
  | .dwell => .next s.dwellEnd
  | _ => .next s

/-- SETTLING_PERIOD_END (R118): DWELL is entered; a dwell of 0 makes the dwell end at the entry. -/
def execSettlingPeriodEnd (s : State) : Result :=
  match s.film.state, s.film.settlingTimer with
  | .pulling, some _ =>
    let f : Film :=
      { s.film with state := .dwell, settlingTimer := none, led := false,
                    dwellTimer := some (s.rb.film.dwell * Config.ticksPerMs) }
    if s.rb.film.dwell = 0 then .next (s.setFilm f).dwellEnd else .next (s.setFilm f)
  | _, _ => .next s

/-! ## Perforations and the fault line (R119, R124) -/

/-- PERF_EDGE (R119): a qualified change from LOW to HIGH; counted, up to 255, in a moving state. An edge taken right after
a leader card's dwell end, in whose own step the next cycle has begun, counts in that cycle, as R119 says of an edge after a
begin; what it says of an edge after a dwell end, that it is ignored, is held to be an edge in STILL (DESIGN CHOICE, log
entry 36). -/
def execPerfEdge (s : State) : Result :=
  if s.film.perfLevel then .next s
  else
    .next (s.setFilm
      { s.film with
        perfLevel := true, perfRun := 0,
        perfCount := if s.film.state.moving then min 255 (s.film.perfCount + 1) else s.film.perfCount })

/-- The transport stopped by a driver fault (R115, R124). -/
def Film.faulted (f : Film) : Film := { f.stopGenerator with state := .faulted, cycle := none }

/-- A driver fault found the run in a state that halts: the film stops, the owner is told, a settle ends, and the run
halts with TRANSPORT, which closes the gate (R26, R98, R111, R124). -/
def State.faultHalt (s : State) : State := ((s.frameFault).endSettle).halt .transport

/-- DRIVER_FAULT (R124): a qualified change from clear to asserted. -/
def execDriverFault (s : State) : Result :=
  if s.film.faultLevel then .next s
  else
    let t := s.setFilm { s.film with faultLevel := true, faultRun := 0 }
    match s.film.state with
    | .faulted => .next t
    | _ =>
      let u := t.setFilm t.film.faulted
      match s.run.state with
      | .idle => .next u
      | .ending => .next u
      | _ => .next u.faultHalt

/-- FAULT_LEVEL_CLEAR (R124): the qualified fault level becomes clear; the transport state stays. -/
def execFaultLevelClear (s : State) : Result :=
  .next (if s.film.faultLevel then s.setFilm { s.film with faultLevel := false, faultRun := 0 } else s)

end Sys2Proof.Machine
end

