-- ==== Sys2Proof/Machine/Clock.lean ====
section
/-! DEFINITION. One tick of the 100 MHz timing clock: timers count down, inputs are sampled, and what falls due becomes
an event of the opcode table (00_scope.md, Time; R31, R78, R80, R81, R92, R93, R97, R102, R115, R118, R119, R124). The
machine counts a tick when nothing waits in its queue (DESIGN CHOICE, log entry 1). -/

namespace Sys2Proof.Machine

/-! ## Timers -/

/-- A running timer with one tick less remaining. -/
def tickTimer (t : Option Nat) : Option Nat := t.map fun n => n - 1

/-- A running timer has no tick left. -/
def expired (t : Option Nat) : Bool := t == some 0

/-- The ticks that a read in flight has left, less one. -/
def PendingRead.tick (p : PendingRead) : PendingRead := { p with timer := p.timer - 1 }

def CardRecord.tick (r : CardRecord) : CardRecord := { r with read := r.read.map PendingRead.tick }

def LineRead.tick (e : LineRead) : LineRead := { e with timer := e.timer - 1 }

def LoadRead.tick (e : LoadRead) : LoadRead := { e with timer := e.timer - 1 }

def RunBlockRead.tick (p : RunBlockRead) : RunBlockRead := { p with timer := p.timer - 1 }

def DeckReader.tick (d : DeckReader) : DeckReader :=
  { d with
    headerRead := d.headerRead.map PendingRead.tick, pollTimer := tickTimer d.pollTimer,
    runBlockRead := d.runBlockRead.map RunBlockRead.tick }

def Sequencer.tick (q : Sequencer) : Sequencer := { q with current := q.current.tick, lookahead := q.lookahead.tick }

def LockWait.tick : LockWait → LockWait
  | .running n => .running (n - 1)
  | .stopped => .stopped
  | .expired => .expired

def FrameCtx.tick (c : FrameCtx) : FrameCtx := { c with lockWait := c.lockWait.tick }

def Conversion.tick (c : Conversion) : Conversion := { c with timer := c.timer - 1 }

def Power.tick (p : Power) : Power :=
  { p with settleTimeout := tickTimer p.settleTimeout, conversion := p.conversion.map Conversion.tick }

/-! ## Samples of the inputs (R78, R119, R124) -/

/-- The run of consecutive samples that differ from the qualified level, after one more sample. -/
def runAfter (raw level : Bool) (run : Nat) : Nat := if raw != level then run + 1 else 0

/-- The scan's timers and its interval counter, which stops at 0 (R80), with one sample of each sensor. -/
def ScanTiming.tick (c : ScanTiming) (p : Pins) : ScanTiming :=
  { c with
    refTimer := tickTimer c.refTimer, interval := c.interval - 1, watchdog := tickTimer c.watchdog,
    windowTimer := tickTimer c.windowTimer, sosRun := runAfter p.sos c.sosLevel c.sosRun,
    indexRun := runAfter p.index c.indexLevel c.indexRun }

/-- The film's timers. -/
def Film.tickTimers (f : Film) : Film :=
  { f with
    stepTimer := tickTimer f.stepTimer, pulseTimer := tickTimer f.pulseTimer,
    settlingTimer := tickTimer f.settlingTimer, dwellTimer := tickTimer f.dwellTimer }

/-- The perforation sensor and the fault line are sampled once in 100 ticks. -/
def Film.sample (f : Film) (p : Pins) : Film :=
  if Config.filmSampleTicks ≤ f.sampleClock + 1 then
    { f with
      sampleClock := 0, perfRun := runAfter p.perf f.perfLevel f.perfRun,
      faultRun := runAfter p.fault f.faultLevel f.faultRun }
  else { f with sampleClock := f.sampleClock + 1 }

/-- One tick of the whole controller. -/
def State.tick (s : State) : State :=
  { s with
    run := { s.run with lockWait := tickTimer s.run.lockWait }
    deck := s.deck.tick
    seq := s.seq.tick
    frame := { s.frame with ctx := s.frame.ctx.map FrameCtx.tick }
    ring := { s.ring with reads := s.ring.reads.map LineRead.tick }
    dp := { s.dp with positionTimer := tickTimer s.dp.positionTimer }
    tables := { s.tables with reads := s.tables.reads.map LoadRead.tick }
    scan := s.scan.tick s.pins
    power := s.power.tick
    film := s.film.tickTimers.sample s.pins }

/-! ## What has fallen due -/

/-- One event, when it is due. -/
def dueIf (b : Bool) (i : Instr) : List Instr := if b then [i] else []

/-- The next event of the present line's windows (R92, R93). -/
def windowEvent : WindowStage → List Instr
  | .none => []
  | .pixelWait => [.pixelWindowOpen]
  | .pixel => [.pixelWindowEnd]
  | .monitorWait => [.monitorWindowOpen]
  | .monitor => [.monitorWindowEnd]

/-- The expiry of a read in flight. -/
def dueRead (p : Option PendingRead) (event : Nat → ReadEnd → Instr) : List Instr :=
  match p with
  | some r => dueIf (r.timer == 0) (event r.id .expired)
  | none => []

/-- The lock wait of a PREPARING wait has run out. -/
def frameWaitDue (c : Option FrameCtx) : Bool :=
  match c with
  | some x => x.lockWait == .running 0
  | none => false

/-- The ADC's completion, with the reading it sampled (R102). -/
def conversionDue (c : Option Conversion) : List Instr :=
  match c with
  | some x => dueIf (x.timer == 0) (.conversionCompletion x.reading)
  | none => []

/-- The run block read's own limit (R145). -/
def runBlockDue (p : Option RunBlockRead) : List Instr :=
  match p with
  | some r => dueIf (r.timer == 0) (.runBlockReadEnd r.id .expired)
  | none => []

/-- The scan's events that are due: a position before its window's end, a window event before an SOS. -/
def scanDue (s : State) : List Instr :=
  dueIf (expired s.dp.positionTimer) .rasterPositionInterval ++
  (if expired s.scan.windowTimer then windowEvent s.scan.window else []) ++
  conversionDue s.power.conversion ++
  dueIf (Config.scanSamples ≤ s.scan.indexRun)
    (if s.scan.indexLevel then .qualifiedLevelFall .index else .indexEvent) ++
  dueIf (Config.scanSamples ≤ s.scan.sosRun) (if s.scan.sosLevel then .qualifiedLevelFall .startOfScan else .sosEvent) ++
  dueIf (expired s.scan.watchdog) .watchdogExpiry ++
  dueIf (expired s.scan.refTimer) .motorReferenceToggle

/-- The lock waits that have run out. -/
def waitsDue (s : State) : List Instr :=
  dueIf (frameWaitDue s.frame.ctx) .frameLockWaitExpiry ++
  dueIf (expired s.run.lockWait) .primingLockWaitExpiry ++
  dueIf (expired s.power.settleTimeout) .settleLockTimeoutExpiry

/-- The reads whose limit has run out, and the poll timer. -/
def readsDue (s : State) : List Instr :=
  (s.ring.reads.filter fun e => e.timer == 0).map (fun e => .lineReadTimerExpiry e.id) ++
  (s.tables.reads.filter fun e => e.timer == 0).map (fun e => .loadReadExpiry e.id) ++
  runBlockDue s.deck.runBlockRead ++ dueRead s.deck.headerRead .headerReadEnd ++
  dueRead s.seq.current.read .cardReadEnd ++ dueRead s.seq.lookahead.read .cardReadEnd ++
  dueIf (expired s.deck.pollTimer) .pollTimerExpiry

/-- The film's events that are due. -/
def filmDue (s : State) : List Instr :=
  dueIf (expired s.film.pulseTimer) .stepPulseEnd ++
  dueIf (expired s.film.stepTimer) .stepIssue ++
  dueIf (expired s.film.settlingTimer) .settlingPeriodEnd ++
  dueIf (Config.filmSamples ≤ s.film.perfRun)
    (if s.film.perfLevel then .qualifiedLevelFall .perforation else .perfEdge) ++
  dueIf (expired s.film.dwellTimer) .dwellEnd ++
  dueIf (Config.filmSamples ≤ s.film.faultRun) (if s.film.faultLevel then .faultLevelClear else .driverFault)

/-- Every event that is due now, in the order in which the model takes events of one tick (log entry 1). -/
def due (s : State) : List Instr := scanDue s ++ waitsDue s ++ readsDue s ++ filmDue s

/-- What the controller does while nothing waits in its queue: the first event that is due enters the queue, and when
none is, a tick passes, in which a dump in progress issues one image write (log entries 1 and 13). What is due is looked
at anew after each event is taken: an event of the same tick that an earlier one has undone, as an SOS undoes the
watchdog's expiry by the reload (R81), does not come. -/
def State.idleStep (s : State) : State :=
  match due s with
  | [] => s.tick.dumpOn
  | e :: _ => s.setPending [e]

end Sys2Proof.Machine
end

