-- ==== Sys2Proof/Machine/Dispatch.lean ====
section
/-! DEFINITION. The dispatch of every command and event to its meaning. -/

namespace Sys2Proof.Machine

def exec (i : Instr) (s : State) : Host.Outcome State Fault Refusal :=
  match i with
  | .start => Sys2Proof.Machine.execStart s
  | .pause => Sys2Proof.Machine.execPause s
  | .resume => Sys2Proof.Machine.execResume s
  | .stop => Sys2Proof.Machine.execStop s
  | .abort => Sys2Proof.Machine.execAbort s
  | .spinDown => Sys2Proof.Machine.execSpinDown s
  | .reset => Sys2Proof.Machine.execReset s
  | .unknownCommand code => Sys2Proof.Machine.execUnknownCommand code s
  | .runaddrWrite high value => Sys2Proof.Machine.execRunaddrWrite high value s
  | .attentionWrite value => Sys2Proof.Machine.execAttentionWrite value s
  | .registerWrite offset bytes value => Sys2Proof.Machine.execRegisterWrite offset bytes value s
  | .powerOn => Sys2Proof.Machine.execPowerOn s
  | .sosEvent => Sys2Proof.Machine.execSosEvent s
  | .indexEvent => Sys2Proof.Machine.execIndexEvent s
  | .watchdogExpiry => Sys2Proof.Machine.execWatchdogExpiry s
  | .pixelWindowOpen => Sys2Proof.Machine.execPixelWindowOpen s
  | .pixelWindowEnd => Sys2Proof.Machine.execPixelWindowEnd s
  | .monitorWindowOpen => Sys2Proof.Machine.execMonitorWindowOpen s
  | .monitorWindowEnd => Sys2Proof.Machine.execMonitorWindowEnd s
  | .conversionCompletion reading => Sys2Proof.Machine.execConversionCompletion reading s
  | .frameLockWaitExpiry => Sys2Proof.Machine.execFrameLockWaitExpiry s
  | .primingLockWaitExpiry => Sys2Proof.Machine.execPrimingLockWaitExpiry s
  | .settleLockTimeoutExpiry => Sys2Proof.Machine.execSettleLockTimeoutExpiry s
  | .lineReadPart id error => Sys2Proof.Machine.execLineReadPart id error s
  | .lineReadComplete id answer => Sys2Proof.Machine.execLineReadComplete id answer s
  | .lineReadTimerExpiry id => Sys2Proof.Machine.execLineReadTimerExpiry id s
  | .loadReadComplete id answer => Sys2Proof.Machine.execLoadReadComplete id answer s
  | .loadReadExpiry id => Sys2Proof.Machine.execLoadReadExpiry id s
  | .runBlockReadEnd id result => Sys2Proof.Machine.execRunBlockReadEnd id result s
  | .headerReadEnd id result => Sys2Proof.Machine.execHeaderReadEnd id result s
  | .cardReadEnd id result => Sys2Proof.Machine.execCardReadEnd id result s
  | .pollTimerExpiry => Sys2Proof.Machine.execPollTimerExpiry s
  | .stepIssue => Sys2Proof.Machine.execStepIssue s
  | .settlingPeriodEnd => Sys2Proof.Machine.execSettlingPeriodEnd s
  | .dwellEnd => Sys2Proof.Machine.execDwellEnd s
  | .perfEdge => Sys2Proof.Machine.execPerfEdge s
  | .driverFault => Sys2Proof.Machine.execDriverFault s
  | .rasterPositionInterval => Sys2Proof.Machine.execRasterPositionInterval s
  | .motorReferenceToggle => Sys2Proof.Machine.execMotorReferenceToggle s
  | .stepPulseEnd => Sys2Proof.Machine.execStepPulseEnd s
  | .qualifiedLevelFall input => Sys2Proof.Machine.execQualifiedLevelFall input s
  | .faultLevelClear => Sys2Proof.Machine.execFaultLevelClear s

end Sys2Proof.Machine
end

