-- ==== Sys2Proof/Machine/Step.lean ====
section
/-! DEFINITION. One step of the machine: the command or event at the front of the queue is taken, or, with nothing
waiting, the clock goes on. -/

namespace Sys2Proof.Machine

/-- One step. The front of the queue is carried out with the queue's rest in place; an empty queue lets the clock go on
(log entry 1). -/
def step (s : State) : Host.Outcome State Fault Refusal :=
  match s.pending with
  | [] => .next s.idleStep
  | c :: rest => exec c (s.setPending rest)

/-- The state with the command that a table word spells put at the front of the queue. No row of the table gives bits,
so no word spells a command, and the state stands as it was. -/
def State.withFetchWord (s : State) (nbits w : Nat) : State :=
  match decodeTableWord nbits w with
  | some c => s.setPending (c :: s.pending)
  | none => s

end Sys2Proof.Machine
end

