-- ==== Sys2Proof/Safety.lean ====
section
/-! DEFINITION. What a safe state of the controller is: the predicates that the statements speak of, each taken from a
rule that the spec gives for every moment. -/

namespace Sys2Proof.Machine

/-- The laser gate stands at its law: OPEN exactly while the lock state is LOCKED and the run state is PRIMING, RUNNING,
WAITING or HELD (R98). -/
def GateLawful (s : State) : Prop := s.power.gateOpen = gateLaw s.scan.lock s.run.state

/-- The interrupt line stands at its law: asserted exactly while a cause is both set and enabled (R171). -/
def IrqLawful (s : State) : Prop := s.regs.irq = irqOf s.regs.causes s.regs.enables

/-- At most 8 slots that are not FREE and 2 line reads outstanding (R49), under a HIGH that START admits (R159). -/
def RingBounded (s : State) : Prop := s.rb.high ≤ 8 ∧ s.ring.slots.length ≤ 8 ∧ s.ring.reads.length ≤ 2

/-- At most 4 load reads outstanding (R66). -/
def LoadsBounded (s : State) : Prop := s.tables.reads.length ≤ 4

/-- Every power offset lies in -LIM..LIM (R103, R108). -/
def OffsetsLimited (s : State) : Prop := ∀ ch : Channel, (s.power.pwr.get ch).natAbs ≤ s.rb.power.lim

/-- The dark counts stay below 3 (R105). -/
def DarkCountsBounded (s : State) : Prop := ∀ ch : Channel, s.power.dark.get ch < 3

/-- With the reference STOPPED, the lock state is STOPPED and the watchdog is stopped (R79). -/
def ReferenceLawful (s : State) : Prop := s.scan.running = false → s.scan.lock = .stopped ∧ s.scan.watchdog = none

/-- A line stands in its windows in LOCKED alone (R94). -/
def WindowsLawful (s : State) : Prop := s.scan.window ≠ .none → s.scan.lock = .locked

/-- No channel is driven outside an IMAGE or MONITOR window, and in a MONITOR window only the monitor channel (R41). -/
def DriveLawful (s : State) : Prop :=
  (s.dp.mode ≠ .image → s.dp.mode ≠ .monitor → s.dp.drive = .all 0) ∧
  (s.dp.mode = .monitor → ∀ ch, s.dp.monitorChannel ≠ some ch → s.dp.drive.get ch = 0)

/-- Spoil entries written never exceed the capacity (R23). -/
def SpoilListBounded (s : State) : Prop := s.frame.entriesWritten ≤ s.rb.spoilCapacity

/-- The perf count stops at 255 (R119). -/
def PerfCountBounded (s : State) : Prop := s.film.perfCount ≤ 255

/-- The snapshot is disabled outside a run (R156). -/
def SnapshotOffInIdle (s : State) : Prop := s.run.state = .idle → s.deck.snapshotEnabled = false

/-- No FRAME card is in the context in IDLE and PRIMING, nor in a halt that RESUME takes back to PRIMING (R2, R160). -/
def ContextLawful (s : State) : Prop :=
  (s.run.state = .idle ∨ s.run.state = .priming ∨ (s.run.state = .halted ∧ ∃ k, s.run.resume = .priming k)) →
    s.frame.ctx = none

/-- A write to CONTROL. -/
def isCommand : Instr → Bool
  | .start => true
  | .pause => true
  | .resume => true
  | .stop => true
  | .abort => true
  | .spinDown => true
  | .reset => true
  | .unknownCommand _ => true
  | _ => false

/-- The table of R158: the run states that accept a command, with the halt cause for RESUME (R164). -/
def accepts (r : RunState) (c : HaltCause) : Instr → Bool
  | .start => r == .idle
  | .pause => r == .running || r == .waiting
  | .resume => r == .held || (r == .halted && c != .none && c != .filmOut && c != .transport && c != .registration)
  | .stop => r == .running || r == .waiting || r == .held || r == .halted
  | .abort => r != .idle
  | .spinDown => r == .idle
  | .reset => true
  | _ => false

/-- The run block's address as R145 takes it: RUNADDR with its low six bits as 0. -/
def runAddress (s : State) : Addr := (s.regs.runaddrHi ++ s.regs.runaddrLo) &&& 0xFFFFFFFFFFFFFFC0

/-- The address of the next deck to be sought (R147). -/
def nextDeckAddress (s : State) : Addr :=
  match s.deck.next with
  | .a => s.rb.deckA
  | .b => s.rb.deckB

/-! ## What an SOS event finds (R80, R84, R85, R87, R92) -/

/-- The interval that an SOS event captures (R80). -/
def sosInterval (s : State) : Nat := 1048575 - s.scan.interval

/-- The average of the departing facet. -/
def departingAverage (s : State) : Nat := s.scan.averages.getD s.scan.facet 0

/-- An SOS event can be taken: the reference RUNNING, the level LOW, no line in its windows, and an earlier SOS seen. -/
def sosReady (s : State) : Prop :=
  s.scan.running = true ∧ s.scan.sosLevel = false ∧ s.scan.window = .none ∧ s.scan.intervalValid = true

/-- The interval is no facet violation: the departing facet's average is unset, or the interval lies within WIN of it
(R85). -/
def intervalFits (s : State) : Prop :=
  departingAverage s = 0 ∨ ((sosInterval s : Int) - departingAverage s).natAbs ≤ s.rb.polygon.window

/-- The revolution goes on: no index is pending and the facet counter does not wrap (R84). -/
def midRevolution (s : State) : Prop := s.scan.indexPending = false ∧ s.scan.facet + 1 < s.rb.polygon.facets

/-- The scan after such an SOS, but for its lock state and line: counters reloaded, the facet advanced, the interval
gathered (R80 to R87). -/
def scanAfterSos (s : State) : ScanTiming :=
  { s.scan with
    sosLevel := true, sosRun := 0, interval := 1048575, intervalValid := true
    watchdog := some s.rb.polygon.watchdog, facet := s.scan.facet + 1
    rev := s.scan.rev.map fun v => { v with sum := v.sum + sosInterval s, intervals := v.intervals + 1 } }

/-- The averages after an interval that fits: an unset one becomes the interval, any other moves by a sixteenth of the
difference, rounded toward minus infinity (R85). -/
def averagesAfterSos (s : State) : List Nat :=
  s.scan.averages.set s.scan.facet
    (if departingAverage s = 0 then sosInterval s
     else ((departingAverage s : Int) + ((sosInterval s : Int) - departingAverage s).fdiv 16).toNat)

/-- The revolution record after a facet violation: the interval gathered all the same, and the record bad (R85, R87). -/
def spoiledRevolution (s : State) : Option Revolution :=
  s.scan.rev.map fun v => { sum := v.sum + sosInterval s, intervals := v.intervals + 1, bad := true }

/-- The offset of the pixel window of a facet: BASE and the facet's trim, 0 for an INVALID copy, and at least 16 (R92). -/
def pixelOffset (s : State) (facet : Nat) : Int :=
  max 16 ((s.rb.line.base : Int) +
    (if s.tables.active.facet.valid then (s.tables.active.facet.words.getD facet 0).toInt else 0))

/-- The pixel divisor: the field value 0 stands for 64 (R31). -/
def divisorOf (rb : RunBlock) : Nat := if rb.line.divisor = 0 then 64 else rb.line.divisor

/-! ## The exposure of one position, from the words of the tables (R28, R32 to R37) -/

/-- The place of a channel in the order R, G, B. -/
def channelPlace : Channel → Nat
  | .red => 0
  | .green => 1
  | .blue => 2

/-- The 10 bits of a channel in a pixel word (R28). -/
def codeBits (w : BitVec 32) : Channel → Nat
  | .red => (w.extractLsb' 20 10).toNat
  | .green => (w.extractLsb' 10 10).toNat
  | .blue => (w.extractLsb' 0 10).toNat

/-- Shading at position x: the knots interpolated and the quotient rounded toward minus infinity; 0 for an INVALID copy
(R34). -/
def shadeAt (c : ActiveCopy) (ch : Channel) (x : Nat) : Int :=
  if c.valid then
    let knotAt (k : Nat) : Int := (c.words.getD (33 * channelPlace ch + k) 0).toInt
    knotAt (x / 128) + ((knotAt (x / 128 + 1) - knotAt (x / 128)) * ((x : Int) - 128 * (x / 128 : Nat))).fdiv 128
  else 0

/-- The sum of the four stages (R32 to R36). -/
def exposureSum (curve shade : ActiveCopy) (ch : Channel) (code x : Nat) (offset : Int) : Int :=
  ((curve.words.getD (1024 * channelPlace ch + code) 0).toNat : Int) +
    (curve.words.getD (3072 + channelPlace ch) 0).toInt + shadeAt shade ch x + offset

/-- A sum limited to 0..4095 (R36, R42). -/
def limited (l : Int) : Nat := (max 0 (min 4095 l)).toNat

/-- The drive entry of a limited sum (R37). -/
def driveAt (drive : ActiveCopy) (ch : Channel) (l : Int) : BitVec 12 :=
  BitVec.ofNat 12 (drive.words.getD (4096 * channelPlace ch + limited l) 0).toNat

/-- Clamp counters after one sum: exactly 0 and exactly 4095 are no clamp (R36). -/
def clampsAfter (k : Clamp) (l : Int) : Clamp :=
  { low := k.low + (if l < 0 then 1 else 0), high := k.high + (if 4095 < l then 1 else 0) }

/-- The copies that an exposure reads are VALID and hold their images whole (R5, R62, R63). -/
def tablesWhole (t : TableStore) (slot : Nat) : Prop :=
  (t.active.get (curveTarget slot)).valid = true ∧ (t.active.get (curveTarget slot)).words.length = 3076 ∧
  t.active.drive.valid = true ∧ t.active.drive.words.length = 12288 ∧
  (t.active.shade.valid = true → t.active.shade.words.length = 100)

/-- One line is scheduled by an SOS in the middle of a revolution from s to t (R84, R85, R87, R92): its pixel window waits
the offset of its facet. The offset is given for the 16 facets that a FACET copy holds. -/
def lineScheduled (s t : State) : Prop :=
  t.scan.window = .pixelWait ∧
  ((s.tables.active.facet.valid = true → s.tables.active.facet.words.length = 16) → s.scan.facet < 15 →
    t.scan = { scanAfterSos s with
      averages := averagesAfterSos s, window := .pixelWait, mark := t.scan.mark
      windowTimer := some (pixelOffset s (s.scan.facet + 1)).toNat })

/-! ## What a line event, a loss of the lock and a card's finish do -/

/-- The run is in a state in which regulation marks lines (R101). -/
def regulating (s : State) : Prop := s.run.state = .running ∨ s.run.state = .waiting ∨ s.run.state = .held

/-- A line event from s to t in the Power Regulator (R101, R42). With the gate OPEN: a SETTLED regulator counts the line,
and marks every N-th one for the next channel in rotation; a settle that does not wait marks every line for its channel;
a marked line gives the Datapath its monitor request. In every other case nothing is marked and nothing changes. -/
def regulatorTakesLine (s t : State) : Prop :=
  (s.power.gateOpen = true → s.power.state = .settled → regulating s →
    (s.power.cadence + 1 < s.rb.power.n →
      t.scan.mark = false ∧ t.power = { s.power with cadence := s.power.cadence + 1 } ∧
      t.dp.monitorRequest = s.dp.monitorRequest) ∧
    (s.rb.power.n ≤ s.power.cadence + 1 →
      t.scan.mark = true ∧ t.dp.monitorRequest = some s.power.nextChannel ∧
      channelPlace t.power.nextChannel = (channelPlace s.power.nextChannel + 1) % 3 ∧
      t.power = { s.power with
        cadence := 0, nextChannel := t.power.nextChannel
        marked := some { channel := s.power.nextChannel, purpose := .regulate, valid := true } })) ∧
  (s.power.gateOpen = true → s.power.state = .settling → s.power.settle.waiting = false →
    t.scan.mark = true ∧ t.dp.monitorRequest = some s.power.settle.channel ∧
    t.power = { s.power with
      marked := some { channel := s.power.settle.channel, purpose := .settle, valid := true } }) ∧
  (s.power.gateOpen = false ∨ s.power.state = .unsettled ∨ (s.power.state = .settled ∧ ¬regulating s) ∨
      (s.power.state = .settling ∧ s.power.settle.waiting = true) →
    t.scan.mark = false ∧ t.power = s.power ∧ t.dp.monitorRequest = s.dp.monitorRequest)

/-- The attempt that a context stands for (R54). -/
def attemptOf (c : FrameCtx) : AttemptId := { tag := c.card.tag, serial := c.serial, index := c.index, attempt := c.attempt }

/-- The ring is primed for the attempt of c (R57): the first min(HIGH, h) slots of the list are READY, tagged or not, and
each holds a line of that attempt. -/
def ringPrimed (s : State) (c : FrameCtx) : Prop :=
  min s.rb.high c.card.height ≤ s.ring.slots.length ∧
  ∀ x ∈ s.ring.slots.take (min s.rb.high c.card.height), x.state = .ready ∧ x.owner = attemptOf c

/-- Frame Exposure does not heed a line event of s (R7, R14): no FRAME card is in the context, or its attempt is CLOSING, or
PREPARING with the run not RUNNING or the ring not primed. -/
def lineUnheeded (s : State) : Prop :=
  ∀ c, s.frame.ctx = some c →
    c.state = .closing ∨ (c.state = .preparing ∧ (s.run.state ≠ .running ∨ ¬ringPrimed s c))

/-- A cursor ACTIVE at line 0 of an attempt of a card (R55, R56, R58). -/
def cursorAt (a : AttemptId) (k : FrameCard) (crossed : Option AttemptId) : Cursor :=
  { state := .active, owner := a, image := k.image, stride := k.stride, width := k.width, height := k.height, next := 0
    crossedFrom := crossed }

/-- The cursor may cross to the lookahead card k: its target is an attempt of the card in the context, and the lookahead
card is a FRAME card that was read and validated (R56). -/
def mayCross (s : State) (k : FrameCard) : Prop :=
  (∃ c, s.frame.ctx = some c ∧ s.ring.cursor.owner.tag = c.card.tag ∧ s.ring.cursor.owner.serial = c.serial ∧
    s.ring.cursor.owner.index = c.index) ∧
  s.seq.lookahead.state = .present ∧ s.seq.lookahead.outcome = .good (.frame k)

/-- The cursor after its crossing to the lookahead card k (R56). -/
def crossedTo (s : State) (k : FrameCard) : Cursor :=
  cursorAt { tag := k.tag, serial := s.seq.lookahead.serial, index := s.seq.lookahead.index, attempt := 1 } k
    (some s.ring.cursor.owner)

/-- The ring after a flush of that of s, beside the Frame Exposure f (R58): every slot FREE, every read voided, the
switch ON and the cursor as named; then R48 is examined again. -/
def flushedRing (s : State) (f : FrameExposure) (c : Cursor) : LineRing :=
  ({ s with
      frame := f
      ring := { slots := [], switchOn := true, reads := s.ring.reads.map fun e => { e with linked := false }, cursor := c } } :
    State).fetch.ring

/-- A context after its attempt was spoiled with a cause at a raster line (R19 steps 2, 3, 5 and 6, R20). -/
def afterSpoil (c : FrameCtx) (cause : SpoilCause) (line : Nat) (stopPending : Bool) : FrameCtx :=
  let again := decide (c.attemptsExposed < 1 + c.card.retakes) && !stopPending && cause != .abort
  { c with
    state := .closing, closeKind := .spoiled, lastSpoil := cause, spoilLine := line, retakePending := again
    attempt := if again then c.attemptsExposed + 1 else c.attempt
    haltAfter := if cause = .polygonLost then .polygonLost else if cause = .laserDark then .laserDark else c.haltAfter }

/-- The spoil of the EXPOSING attempt c from s to t, but for the film (R19, R20): the context, the flush with the cursor
at line 0 of the pending retake or parked, and the drive at 0. -/
def attemptSpoiled (s t : State) (c : FrameCtx) (cause : SpoilCause) (line : Nat) : Prop :=
  let d := afterSpoil c cause line s.run.stopPending
  t.frame = { s.frame with ctx := some d } ∧
  t.ring = flushedRing s t.frame (if d.retakePending then cursorAt (attemptOf d) d.card none
    else { s.ring.cursor with state := .parked, crossedFrom := none }) ∧
  t.dp.pending = none ∧ t.dp.mode ≠ .image ∧ t.dp.mode ≠ .blank ∧
  (s.dp.mode = .image ∨ s.dp.mode = .blank → t.dp.drive = .all 0)

/-- A loss of LOCKED from s to t in Frame Exposure (R7, R8, R14, R18 to R20). An EXPOSING attempt is spoiled with
POLYGON_LOST at the raster line before r, and the transport is asked to finish; a CLOSING one fills an empty halt after
cycle; a PREPARING one waits on, unless its lock wait has expired, which halts the run with LOCK_TIMEOUT. -/
def frameLosesLock (s t : State) : Prop :=
  (s.frame.ctx = none → t.frame = s.frame ∧ t.ring = s.ring ∧ t.film = s.film ∧ t.run = s.run) ∧
  (∀ c, s.frame.ctx = some c → c.state = .exposing →
    attemptSpoiled s t c .polygonLost (c.r - 1) ∧ t.film = s.film.finish s.rb .spoiled ∧ t.run = s.run) ∧
  (∀ c, s.frame.ctx = some c → c.state = .closing →
    t.frame = { s.frame with
      ctx := some { c with haltAfter := if c.haltAfter = .none then .polygonLost else c.haltAfter } } ∧
    t.ring = s.ring ∧ t.film = s.film ∧ t.run = s.run) ∧
  (∀ c, s.frame.ctx = some c → c.state = .preparing → t.frame = s.frame ∧ t.ring = s.ring ∧ t.film = s.film ∧
    (c.lockWait ≠ .expired → t.run = s.run) ∧
    (c.lockWait = .expired → s.run.state = .running → t.run.state = .halted ∧ t.run.haltCause = .lockTimeout))

/-- A loss of LOCKED from s to t in the Power Regulator (R102, R110): a settle under way begins to wait under a new lock
timeout, and its record is otherwise kept; with none under way the settle stands. PWR and the flags stand, and a reading
that the ADC has taken is not voided. -/
def settleLosesLock (s t : State) : Prop :=
  (s.power.state = .settling → t.power.settle = { s.power.settle with waiting := true } ∧
    t.power.settleTimeout = some (s.rb.lockTimeout * 10000000)) ∧
  (s.power.state ≠ .settling → t.power.settle = s.power.settle ∧ t.power.settleTimeout = s.power.settleTimeout) ∧
  t.power.state = s.power.state ∧ t.power.pwr = s.power.pwr ∧ t.power.limited = s.power.limited ∧
  t.power.conversion = s.power.conversion

/-- The marked sample after the laser gate closed at s (R102): voided when the gate was OPEN and the sample's monitor window
is open, and as it was otherwise. -/
def markedAtClosing (s : State) : Option Sample :=
  if s.power.gateOpen = true ∧ s.scan.window = .monitor then s.power.marked.map fun m => { m with valid := false }
  else s.power.marked

/-- A settle under way at u is ended: UNSETTLED, with PWR as it stands (R111). That its wait and its lock timeout end
with it is log entry 21. -/
def settleEnded (u : State) : State :=
  if u.power.state = .settling then
    { u with power := { u.power with
        state := .unsettled, settle := { u.power.settle with waiting := false }, settleTimeout := none } }
  else u

/-- The operations of the k-th refresh made from s on (R155, R156): head, body and tail at bytes 256, 260 and 508 of the run
block, head and tail with the generation raised k times; none while the snapshot is disabled. -/
def refreshWrites (s : State) (k : Nat) (body : List Byte) : List BusOp :=
  if s.deck.snapshotEnabled then
    [.write (runAddress s + 256) (toLE 4 ((s.deck.generation + k) % 2 ^ 32)), .write (runAddress s + 260) body,
     .write (runAddress s + 508) (toLE 4 ((s.deck.generation + k) % 2 ^ 32))]
  else []

/-- The writes of a card's result: the result area of its slot, then the finished count `n` (R147, R152). -/
def resultWrites (deck : Addr) (index n : Nat) (r : CardResult) (counter : Nat) : List BusOp :=
  [.write (deck + BitVec.ofNat 64 (64 + 128 * index) + 80) (r.bytes counter), .write (deck + 8) [byteOf n]]

/-- The current card's result is handed on between s and u, with what its owner does to its own blocks (R152, R156): the
result area, the finished count, and then the refresh, and nothing else is issued; the record is finished and the run state
stands. At a dwell end (`dwell`) the refresh of that event comes first (log entry 7). -/
def cardFinishes (s u : State) (d : Deck) (r : CardResult) (counter : Nat) (dwell : Bool) : Prop :=
  let n := if dwell then 2 else 1
  u.run = s.run ∧ u.seq = { s.seq with current := { s.seq.current with finished := true } } ∧
  u.deck = { s.deck with
    finishedCount := s.deck.finishedCount + 1
    generation := if s.deck.snapshotEnabled then (s.deck.generation + n) % 2 ^ 32 else s.deck.generation } ∧
  ∃ body, u.bus = s.bus ++ (if dwell then refreshWrites s 1 body else []) ++
    resultWrites (deckAddr s d) s.seq.current.index (s.deck.finishedCount + 1) r counter ++
    refreshWrites s n (snapshotBody u)

/-- The same of a card that finishes without its owner having touched any block of its own. -/
def cardFinishesAlone (s u : State) (d : Deck) (r : CardResult) : Prop :=
  cardFinishes s u d r s.film.counter false ∧ u.frame = s.frame ∧ u.ring = s.ring ∧ u.dp = s.dp ∧ u.tables = s.tables ∧
  u.scan = s.scan ∧ u.power = s.power ∧ u.film = s.film ∧ u.rb = s.rb ∧ u.regs = s.regs

/-- HELD is entered from u at t, in a run whose gate stands at its law (R162). -/
def heldFrom (u t : State) : Prop :=
  GateLawful u → t = ({ u with run.state := .held, run.pausePending := false } : State).refresh

/-- How the run goes on, at t, from a card's finish that left it at u: the first that applies of items 1, 3, 4 and 5 of
R70. In another run state than RUNNING, as at a load's end in a halt, only item 1 is taken, and the advance is held (R71,
R75). -/
def finishLeads (u t : State) : Prop :=
  (u.run.stopPending = true → t = u.endRun) ∧
  (u.run.stopPending = false →
    (u.run.state ≠ .running → t = u) ∧
    (u.run.state = .running →
      (u.run.powerLimitPending = true → t = ({ u with run.powerLimitPending := false } : State).halt .powerLimit) ∧
      (u.run.powerLimitPending = false →
        (u.run.pausePending = true → heldFrom u t) ∧ (u.run.pausePending = false → t = u.advance))))

/-- What ENDING shows of s once the current card has its result (R27, R168): the run ENDING, a settle ended, and no
FRAME card in the context, whose close has emptied the ring. -/
def closingView (s : State) : State :=
  { settleEnded s with
    run := { s.run with state := .ending }
    frame := { s.frame with ctx := none }
    ring := { s.ring with slots := if s.frame.ctx = none then s.ring.slots else [] } }

/-- The sum of an image modulo 2^32, its pad words left out (R67). -/
def sumOfImage (g : Target) (ws : List (BitVec 16)) : Nat := ((ws.take (checkedWords g)).map BitVec.toNat).sum % 2 ^ 32

/-- The run after an accepted RESUME has taken its state to r, one of the gate's set, before anything else goes on (R163,
R165): no halt cause, the gate by its law, and the refresh. -/
def resumed (s : State) (r : RunState) : State :=
  ({ s with
      run := { s.run with state := r, haltCause := .none, lastOutcome := .accepted }
      power := { s.power with gateOpen := s.scan.lock == .locked } } : State).refresh

/-- The header of the next deck is read from u (R148). -/
def seekBegun (u : State) : State :=
  { u with
    deck := { u.deck with
      seek := .reading, headerRead := some { id := u.nextId, timer := u.rb.readLimit * 1000 }, pollTimer := none }
    bus := u.bus ++ [.read u.nextId (nextDeckAddress u) 64]
    nextId := u.nextId + 1 }

/-- A settle begins from red at u, waiting under a new lock timeout unless LOCKED (R107). -/
def settleBegun (u : State) : State :=
  { u with
    power := { u.power with
      state := .settling, limited := .all false
      settle := { channel := .red, attempts := 0, inBand := 0, waiting := u.scan.lock != .locked, used := .all 0 }
      settleTimeout := if u.scan.lock = .locked then none else some (u.rb.lockTimeout * 10000000) } }

/-- The wait of a settle at u taken up again: over when LOCKED, else under a new lock timeout (R110, R165). -/
def settleWaitsAnew (u : State) : State :=
  { u with
    power := { u.power with
      settle := { u.power.settle with waiting := u.scan.lock != .locked }
      settleTimeout := if u.scan.lock = .locked then none else some (u.rb.lockTimeout * 10000000) } }

/-! ## How the outcome of a card comes to be acted on (R133 to R137) -/

/-- The record of the card at an index, whose read is issued at u (R132, R133). -/
def recordReading (u : State) (index : Nat) : CardRecord :=
  { state := .reading, serial := u.deck.serial, index := index
    read := some { id := u.nextId, timer := u.rb.readLimit * 1000 }, outcome := .pending, finished := false
    entered := false, acted := false }

/-- The current card of u, of the deck d, becomes current (R135 step 4): the next index passes it, and the read of the
card after it is issued where the deck has one. -/
def becameCurrent (u : State) (d : Deck) : State :=
  let next := u.seq.nextIndex + 1
  let current := { u.seq.current with entered := true, acted := true }
  if next < u.deck.cardCount then
    { u with
      seq := { u.seq with current := current, lookahead := recordReading u next, nextIndex := next }
      bus := u.bus ++ [.read u.nextId (deckAddr u d + BitVec.ofNat 64 (64 + 128 * next)) 80]
      nextId := u.nextId + 1 }
  else { u with seq := { u.seq with current := current, nextIndex := next } }

/-- In the state s the outcome o of a card of the deck d is acted on: u is the state in which it is, and `answer` what
the machine answers. The four ways to it (R135 to R137): the current card's read ends in RUNNING, and the card becomes
current unless it is a card read again; an advance finds a lookahead that is PRESENT; it finds the current record PRESENT,
its read having ended outside RUNNING; RESUME makes the run RUNNING with the outcome of a card read again still held. How
a held outcome and a held advance are told apart is log entry 27. -/
def cardActedOn (s : State) (d : Deck) (o : CardOutcome) (u : State) (answer : Host.Outcome State Fault Refusal) : Prop :=
  s.deck.taken = some d ∧
  ((∃ p r v, s.run.state = .running ∧ s.seq.current.read = some p ∧ o = cardOutcomeOf s.rb.height r ∧
      answer = exec (.cardReadEnd p.id r) s ∧
      v = { s with seq.current := { s.seq.current with state := .present, read := none, outcome := o } } ∧
      u = (if s.seq.current.entered then { v with seq.current := { v.seq.current with acted := true } }
           else becameCurrent v d)) ∨
   (s.run.state = .running ∧ s.seq.nextIndex < s.deck.cardCount ∧
      (s.seq.current.state = .empty ∨ s.seq.current.entered = true) ∧ s.seq.lookahead.state = .present ∧
      s.seq.lookahead.index = s.seq.nextIndex ∧ s.seq.lookahead.entered = false ∧ o = s.seq.lookahead.outcome ∧
      answer = .next s.advance ∧
      u = becameCurrent { s with seq := { s.seq with current := s.seq.lookahead, lookahead := .emptied } } d) ∨
   (s.run.state = .running ∧ s.seq.nextIndex < s.deck.cardCount ∧ s.seq.current.state = .present ∧
      s.seq.current.entered = false ∧ s.seq.current.index = s.seq.nextIndex ∧ o = s.seq.current.outcome ∧
      answer = .next s.advance ∧ u = becameCurrent s d) ∨
   (GateLawful s ∧
      (s.run.state = .held ∨
        s.run.state = .halted ∧ accepts .halted s.run.haltCause .resume = true ∧ s.run.resume = .running) ∧
      s.seq.current.state = .present ∧ s.seq.current.entered = true ∧ s.seq.current.finished = false ∧
      s.seq.current.acted = false ∧ o = s.seq.current.outcome ∧ answer = exec .resume s ∧
      u = { resumed s .running with seq.current := { s.seq.current with acted := true } }))

/-- The context of a FRAME card as it goes to Frame Exposure from its record, before its first attempt is prepared (R1).
The close kind GOOD and the spoil line 0 are the model's choice (log entry 29). -/
def contextOf (r : CardRecord) (k : FrameCard) : FrameCtx :=
  { serial := r.serial, index := r.index, card := k, attempt := 1, state := .preparing, closeKind := .good, r := 0
    position := none, attemptsExposed := 0, firstFilm := none, goodFilm := none, lastSpoil := .none, spoilLine := 0
    retakePending := false, haltAfter := .none, clamps := .all { low := 0, high := 0 }, minOccupancy := 8
    powerLimited := false, lockWait := .stopped }

/-- The attempt c enters PREPARING at u, and t is what follows (R4 to R7). That its retake is then no longer pending is
log entry 22. An empty magazine halts with FILM_OUT and nothing is swapped. Otherwise the swap is taken; the card is
refused NO_TABLE or NOT_SETTLED, with the ring flushed, its result written and the run halted; or the attempt waits with
the cursor on its lines and a new lock wait. -/
def attemptPrepared (u t : State) (c : FrameCtx) : Prop :=
  let x : FrameCtx := { c with state := .preparing, retakePending := false, lockWait := .stopped }
  (u.film.magazine = 0 → t = ({ u with frame := { u.frame with ctx := some x } } : State).halt .filmOut) ∧
  (0 < u.film.magazine → t.tables = u.swapTables.tables ∧ t.film = u.film ∧ t.scan = u.scan ∧
    (∀ d why, u.deck.taken = some d → u.deck.finishedCount ≤ u.seq.current.index →
      ((t.tables.active.get (curveTarget c.card.stock)).valid = false ∨ t.tables.active.drive.valid = false) ∧
          why = .noTable ∨
        ((t.tables.active.get (curveTarget c.card.stock)).valid = true ∧ t.tables.active.drive.valid = true ∧
          (u.power.state ≠ .settled ∨ u.tables.staged.drive.state = .valid)) ∧ why = .notSettled →
      ∃ v, t = v.halt .cardRefused ∧
        cardFinishes u v d
          { outcome := .refused, reason := why, field := 0
            kind := .frame c.lastSpoil c.attemptsExposed c.powerLimited c.minOccupancy c.firstFilm none c.clamps }
          u.film.counter false ∧
        v.frame = { u.frame with ctx := none } ∧
        v.ring = { slots := [], switchOn := true, reads := u.ring.reads.map fun e => { e with linked := false }
                   cursor := { u.ring.cursor with state := .parked, crossedFrom := none } } ∧
        v.dp.pending = none ∧ v.power = u.swapTables.power ∧ v.regs = u.regs) ∧
    ((t.tables.active.get (curveTarget c.card.stock)).valid = true → t.tables.active.drive.valid = true →
      u.power.state = .settled → u.tables.staged.drive.state ≠ .valid →
      t.run = u.run ∧ t.power = u.power ∧ t.dp = u.dp ∧ t.seq = u.seq ∧ t.deck = u.deck ∧
      t.frame = { u.frame with ctx := some { x with lockWait := .running (u.rb.lockTimeout * 10000000) } } ∧
      (u.ring.cursor.within (attemptOf c) = true → t.ring = u.ring) ∧
      (u.ring.cursor.within (attemptOf c) = false → t.ring =
        if u.ring.slots = [] then
          ({ u with
              frame := { u.frame with ctx := some x }
              ring := { u.ring with cursor := cursorAt (attemptOf c) c.card none } } : State).fetch.ring
        else flushedRing u { u.frame with ctx := some x } (cursorAt (attemptOf c) c.card none))))

/-- The current card is b, dispatched to its owner and without a result. -/
def working (s : State) (b : CardBody) : Prop :=
  s.seq.current.state = .present ∧ s.seq.current.entered = true ∧ s.seq.current.finished = false ∧
  s.seq.current.acted = true ∧ s.seq.current.outcome = .good b

/-- A card record shows the body b of the card at an index that has not become current (R132, R142). -/
def showsCard (r : CardRecord) (i : Nat) (b : CardBody) : Prop :=
  r.state = .present ∧ r.entered = false ∧ r.index = i ∧
    (r.outcome = .good b ∨ ∃ why field, r.outcome = .invalid why field b)

/-- The kind fields of the SKIPPED result of a later card: those of an unworked card of the kind that its record shows,
and 0 where no read showed it (R138, R142). -/
def skippedKind (s : State) (i : Nat) (k : KindFields) : Prop :=
  (∀ b, showsCard s.seq.current i b → k = unworked b) ∧
  ((∀ b, ¬showsCard s.seq.current i b) →
    (∀ b, showsCard s.seq.lookahead i b → k = unworked b) ∧ ((∀ b, ¬showsCard s.seq.lookahead i b) → k = .none))

/-! ## Fields in bytes, and checks made in order (R134, R159, R172) -/

/-- The number that a field of `width` bytes at an offset holds: the byte at the lowest address holds bits 7..0. -/
def numberAt (bs : List Byte) (off width : Nat) : Nat :=
  ((List.range width).map fun k => 256 ^ k * (bs.getD (off + k) 0).toNat).sum

/-- Bytes hold fields, each given by its offset, its width and its value; a value is held modulo 2^(8 width), a negative
one in two's complement. -/
def layout (bs : List Byte) (fields : List (Nat × Nat × Int)) : Prop :=
  ∀ f ∈ fields, (numberAt bs f.1 f.2.1 : Int) = f.2.2 % (256 ^ f.2.1 : Nat)

/-- The bytes from one offset up to another are 0 (R173). -/
def zeroBytes (bs : List Byte) (lo hi : Nat) : Prop := ∀ k, lo ≤ k → k < hi → bs.getD k 1 = 0

/-- Of checks made in order, the one with this number, counted from 0, is the first that fails. -/
def firstToFail (checks : List Prop) (n : Nat) : Prop := (∀ p ∈ checks.take n, p) ∧ ∃ p, checks[n]? = some p ∧ ¬p

/-- The checks 2 to 18 of START, in their order (R95, R129, R130, R159). -/
def startChecks (rb : RunBlock) : List Prop :=
  let p := rb.polygon
  let l := rb.line
  let w := rb.power
  let f := rb.film
  let within (n lo hi : Nat) : Prop := lo ≤ n ∧ n ≤ hi
  [ rb.version = 1,
    rb.runNumber ≤ 4095,
    rb.deckA.toNat % 64 = 0 ∧ rb.deckB.toNat % 64 = 0 ∧ rb.deckA ≠ rb.deckB ∧ rb.firstSerial ≤ 65535,
    rb.spoilList.toNat % 32 = 0 ∧ rb.spoilCapacity ≤ 65535,
    within rb.height 16 4096,
    within p.facets 4 16 ∧ within p.period 1 16777215 ∧ p.tolerance ≤ 16777215 ∧ p.window ≤ 1048575 ∧
      within p.goodRevs 1 255 ∧ within p.watchdog 16 1048575 ∧ within p.refdiv 1 65535,
    l.divisor ≤ 63 ∧ l.base ≤ 65535 ∧ l.mgap ≤ 4095 ∧ within l.mlen 16 1023,
    within rb.high 2 8 ∧ rb.low < rb.high,
    (∀ ch : Channel, w.lref.get ch ≤ 4095 ∧ within (w.tgt.get ch) 1 1022) ∧ w.db ≤ 63 ∧ within w.step 1 15 ∧
      within w.sstep 1 63 ∧ within w.lim 1 255 ∧ within w.n 1 64 ∧ within w.amax 1 255 ∧ within w.need 1 15,
    within f.ms 1 65535 ∧ within f.mp 1 65535 ∧ within f.stepPeriod 100 65535 ∧ f.dwell ≤ 255 ∧
      (f.perfs = 2 ∨ f.perfs = 3 ∨ f.perfs = 4 ∨ f.perfs = 8),
    f.edgeEnable ≤ 1 ∧ within f.eb 1 255 ∧ f.eo ≤ 65535,
    f.startCounter ≤ 16777215 ∧ f.frames ≤ 16777215 ∧ f.lowThreshold ≤ 16777215,
    within rb.readLimit 1 255 ∧ within rb.pollInterval 1 255 ∧ within rb.lockTimeout 1 255,
    w.haltOnLimit ≤ 1,
    (l.base : Int) + 1023 + 4096 * divisorOf rb + l.mgap + l.mlen ≤ (p.period / p.facets : Nat) - (p.window : Int),
    44 * f.eb + f.eo ≤ f.mp,
    f.startCounter + f.frames ≤ 16777215 ]

/-- The checks of a FRAME card, in the order of their field numbers; h is the run's raster height (R134). -/
def frameChecks (h : Nat) (c : FrameCard) : List Prop :=
  [ c.stock ≤ 3, c.retakes ≤ 3, c.image.toNat % 64 = 0, 16 ≤ c.width ∧ c.width ≤ 4096 ∧ c.width % 16 = 0,
    c.stride % 64 = 0 ∧ 4 * c.width ≤ c.stride, 1 ≤ c.height ∧ c.height ≤ h, c.x0 + c.width ≤ 4096,
    c.y0 + c.height ≤ h ]

/-- The outcome of a card body's validation by its checks: GOOD when all hold, and otherwise FIELD_RANGE with the number,
from 1, of the first that fails (R134). -/
def checkedBody (b : CardBody) (checks : List Prop) (o : CardOutcome) : Prop :=
  ((∀ p ∈ checks, p) → o = .good b) ∧ ∀ n, firstToFail checks n → o = .invalid .fieldRange (n + 1) b

/-! ## The checks of a table image (R68, R69) -/

/-- Word k of an image lies in its field's range: curve values and drive entries unsigned, trims and knots signed (R68). -/
def fieldRange (g : Target) (k : Nat) (w : BitVec 16) : Prop :=
  match g with
  | .drive => w.toNat ≤ 4095
  | .shade => -256 ≤ w.toInt ∧ w.toInt ≤ 255
  | .facet => -1024 ≤ w.toInt ∧ w.toInt ≤ 1023
  | _ => if k < 3072 then w.toNat ≤ 4095 else -1024 ≤ w.toInt ∧ w.toInt ≤ 1023

/-- A curve or drive channel decreases at word k: a word below the one before it in the same channel (R69). -/
def decreasesAt (g : Target) (ws : List (BitVec 16)) (k : Nat) : Prop :=
  let n := match g with
    | .drive => 4096
    | .shade => 0
    | .facet => 0
    | _ => 1024
  0 < k ∧ k < ws.length ∧ k < 3 * n ∧ k % n ≠ 0 ∧ (ws.getD k 0).toNat < (ws.getD (k - 1) 0).toNat

end Sys2Proof.Machine
end

