-- ==== Sys2Proof/Certificates/Slice0/Obligations.lean ====
section
/-! DEFINITION. The statements for the provers, each taken from the rules of spec/. -/

open Sys2Proof Sys2Proof.Machine

/-! ## The queue and the whole machine -/

/-- One step takes the front of the queue and carries it out with the queue's rest in place. With an empty queue, the
first event that is due enters the queue, and with nothing due one tick passes, in which a dump in progress goes on by
one write (the model's choice, log entries 1 and 13). -/
def Obligations.StepTakesTheFront : Prop :=
  (∀ (c : Instr) (rest : List Instr) (s : State), s.pending = c :: rest →
    step s = exec c { s with pending := rest }) ∧
  (∀ s : State, s.pending = [] →
    (due s = [] → step s = .next s.tick.dumpOn) ∧
    (∀ e es, due s = e :: es → step s = .next { s with pending := [e] }))

/-- Every command and event is carried out in every state: it has a next state, and neither the rest of the queue nor
the recorder's pins are the controller's to change. Operations on host memory follow one another: a step adds to the
bus log and takes nothing from it (R144). The run block copy is replaced by the end of a run block read alone, and
POWER_ON clears it (R144). That POWER_ON too keeps the queue, the pins and the bus log is the model's choice (log
entry 2), as the pins themselves are (log entry 3). That an event which the state it meets cannot bring about is
carried out too, and changes nothing, is the model's choice (log entry 4). -/
def Obligations.EveryCommandIsCarriedOut : Prop :=
  ∀ (c : Instr) (s : State), ∃ t ops, exec c s = .next t ∧ t.pending = s.pending ∧ t.pins = s.pins ∧
    t.bus = s.bus ++ ops ∧ (c ≠ .powerOn → (∀ id r, c ≠ .runBlockReadEnd id r) → t.rb = s.rb)

/-- LOCKED is entered at an SOS event and by nothing else (R88): a step of any other command or event, and a step of
the clock, leave a lock state that is not LOCKED so. A step with an empty queue is the model's clock (log entry 1). -/
def Obligations.OnlySosEntersLocked : Prop :=
  ∀ s t : State, s.scan.lock ≠ .locked → s.pending.head? ≠ some .sosEvent → step s = .next t → t.scan.lock ≠ .locked

/-- The film counter changes at a dwell end (also the one that a dwell of 0 makes at the settling period's end), at
the START values and at power-on, and at no other step, the clock's among them (R113, R120). A step with an empty
queue is the model's clock (log entry 1). -/
def Obligations.FilmCounterMovesAtDwellEnd : Prop :=
  ∀ s t : State, s.pending.head? ≠ some .dwellEnd → s.pending.head? ≠ some .settlingPeriodEnd →
    s.pending.head? ≠ some .powerOn → (∀ id r, s.pending.head? ≠ some (.runBlockReadEnd id r)) → step s = .next t →
    t.film.counter = s.film.counter

/-! ## Invariants: each holds after every step from every state that has it, whatever stands in the queue. A step with an
empty queue is the model's clock (log entry 1) -/

/-- The gate keeps its law (R98). -/
def Obligations.StepKeepsGateLaw : Prop := ∀ s t : State, GateLawful s → step s = .next t → GateLawful t

/-- The bounds that the spec sets: the ring and the outstanding-read list (R49) and the load reads (R66); the power
offsets within the run's LIM (R99, R103); the spoil list within its capacity (R23), the dark counts below 3 (R105) and
the perf count within 255 (R119). -/
def Obligations.StepKeepsBounds : Prop :=
  (∀ s t : State, RingBounded s ∧ LoadsBounded s → step s = .next t → RingBounded t ∧ LoadsBounded t) ∧
  (∀ s t : State, OffsetsLimited s → step s = .next t → OffsetsLimited t) ∧
  (∀ s t : State, SpoilListBounded s ∧ DarkCountsBounded s ∧ PerfCountBounded s → step s = .next t →
    SpoilListBounded t ∧ DarkCountsBounded t ∧ PerfCountBounded t)

/-- A stopped reference keeps the lock STOPPED and the watchdog stopped (R79), and a line stands in its windows in
LOCKED alone (R94). -/
def Obligations.StepKeepsScanLaws : Prop :=
  ∀ s t : State, ReferenceLawful s ∧ WindowsLawful s → step s = .next t → ReferenceLawful t ∧ WindowsLawful t

/-- What leaves the controller: no channel is driven outside the image and monitor windows (R41), and the interrupt
line keeps its law (R171). -/
def Obligations.StepKeepsOutputLaws : Prop :=
  (∀ s t : State, DriveLawful s → step s = .next t → DriveLawful t) ∧
  (∀ s t : State, IrqLawful s → step s = .next t → IrqLawful t)

/-- Outside a run the snapshot stays disabled (R156) and the context empty (R2). -/
def Obligations.StepKeepsIdleQuiet : Prop :=
  ∀ s t : State, SnapshotOffInIdle s ∧ ContextLawful s → step s = .next t → SnapshotOffInIdle t ∧ ContextLawful t

/-- All of these hold of the machine right after power-on. -/
def Obligations.ResetStateIsLawful : Prop :=
  GateLawful State.reset ∧ IrqLawful State.reset ∧ RingBounded State.reset ∧ LoadsBounded State.reset ∧
  OffsetsLimited State.reset ∧ ReferenceLawful State.reset ∧ WindowsLawful State.reset ∧ DriveLawful State.reset ∧
  SpoilListBounded State.reset ∧ DarkCountsBounded State.reset ∧ PerfCountBounded State.reset ∧ SnapshotOffInIdle State.reset ∧
  ContextLawful State.reset

/-! ## Commands (10_run_control.md) -/

/-- The table of accepted commands: a command that the run state does not accept changes the last command outcome to
REFUSED and nothing else; one that it accepts leaves the outcome ACCEPTED. -/
def Obligations.CommandsAcceptedOrRefused : Prop :=
  ∀ (c : Instr) (s : State), isCommand c = true →
    (accepts s.run.state s.run.haltCause c = true → ∃ t, exec c s = .next t ∧ t.run.lastOutcome = .accepted) ∧
    (accepts s.run.state s.run.haltCause c = false → exec c s = .next { s with run.lastOutcome := .refused })

/-- START in IDLE, with the gate at its law and the snapshot off as they are outside a run: PRIMING at stage 1 with
the START values of R157, the gate opened by a lock still held, and the 256 bytes of the run block asked for under a
limit of 255 units of 10 µs. Nothing else changes. That the stage held before the START is kept for a start fault is
log entry 19. PAUSE (R162): with a card current it waits for the card's finish; with none current, or in WAITING, the
run enters HELD at once, with its refresh, and a seek of WAITING stops. -/
def Obligations.StartAndPause : Prop :=
  (∀ s : State, s.run.state = .idle → GateLawful s → s.deck.snapshotEnabled = false →
    exec .start s = .next
      { s with
        run :=
          { state := .priming, stage := 1, haltCause := .none, resume := .running, stopPending := false,
            abortRecord := false, pausePending := false, powerLimitPending := false, lockWait := none,
            lastOutcome := .accepted, startFault := .none }
        power.gateOpen := s.scan.lock == .locked
        deck.runBlockRead := some { id := s.nextId, timer := 255000, stageBefore := s.run.stage }
        bus := s.bus ++ [.read s.nextId (runAddress s) 256]
        nextId := s.nextId + 1 }) ∧
  ∀ s : State, GateLawful s →
    (s.run.state = .running → cardCurrent s = true →
      exec .pause s = .next { s with run.pausePending := true, run.lastOutcome := .accepted }) ∧
    (s.run.state = .running → cardCurrent s = false →
      exec .pause s = .next
        ({ s with run.state := .held, run.pausePending := false, run.lastOutcome := .accepted } : State).refresh) ∧
    (s.run.state = .waiting →
      exec .pause s = .next
        ({ s with
            run.state := .held, run.pausePending := false, run.lastOutcome := .accepted
            deck.seek := .idle, deck.headerRead := none, deck.pollTimer := none } : State).refresh)

/-- RESUME to PRIMING and to WAITING (R163 to R165, R151, R160, R161). The halt cause becomes NONE, the gate opens if
LOCKED, and the refresh is made. At stage 5 the lock wait begins again with a new timeout, or a lock that is LOCKED
already ends the stage: a settle begins with a VALID DRIVE copy, else deck A's header is read. At stage 6 a settle's
wait ends or gets a new timeout, a failed settle is begun anew, and stage 7 reads the header. With no deck taken,
RESUME in HELD or at WAITING reads the header of the next deck at once. -/
def Obligations.ResumeGoesOn : Prop :=
  ∀ s : State, GateLawful s →
    (s.run.state = .halted → accepts .halted s.run.haltCause .resume = true →
      (s.run.resume = .priming 5 →
        (s.scan.lock ≠ .locked → exec .resume s = .next
          { resumed s .priming with
            run := { s.run with
              state := .priming, stage := 5, haltCause := .none, lastOutcome := .accepted
              lockWait := some (s.rb.lockTimeout * 10000000) } }) ∧
        (s.scan.lock = .locked → s.tables.active.drive.valid = true → exec .resume s = .next
          (settleBegun { resumed s .priming with
            run := { s.run with
              state := .priming, stage := 6, haltCause := .none, lastOutcome := .accepted, lockWait := none } })) ∧
        (s.scan.lock = .locked → s.tables.active.drive.valid = false → exec .resume s = .next
          (seekBegun { resumed s .priming with
            run := { s.run with
              state := .priming, stage := 7, haltCause := .none, lastOutcome := .accepted, lockWait := none } }))) ∧
      (s.run.resume = .priming 6 →
        (s.power.state = .settling → exec .resume s = .next (settleWaitsAnew (resumed s .priming))) ∧
        (s.power.state = .unsettled → s.tables.active.drive.valid = true → exec .resume s = .next
          (settleBegun { resumed s .priming with
            run := { s.run with
              state := .priming, stage := 6, haltCause := .none, lastOutcome := .accepted, lockWait := none } })) ∧
        (s.power.state = .settled → exec .resume s = .next
          (seekBegun { resumed s .priming with
            run := { s.run with state := .priming, stage := 7, haltCause := .none, lastOutcome := .accepted } }))) ∧
      (s.run.resume = .priming 7 → exec .resume s = .next
        (seekBegun { resumed s .priming with
          run := { s.run with state := .priming, stage := 7, haltCause := .none, lastOutcome := .accepted } })) ∧
      (s.run.resume = .waiting → exec .resume s = .next (seekBegun (resumed s .waiting)))) ∧
    (s.run.state = .held → s.deck.taken = none → exec .resume s = .next (seekBegun (resumed s .waiting)))

/-- RESUME to RUNNING, from HELD with a deck taken or from a halt (R163 to R165). With no card unfinished the held
advance is carried out. A FRAME card halted in PREPARING, or CLOSING with its retake pending, is prepared anew, the
halt after cycle of a retake made none (R8, R22). A LEADER card begins its next cycle, or halts with FILM_OUT (R123,
R126). A CALIBRATE card's settle goes on, or is begun anew (R109, R110); a load or a dump goes on. A card whose read
failed is read again as the same card, without another place in the deck (R137). The outcome of that read, when it
came outside RUNNING and was held, is acted on: a failure halts with CARD_READ again, an INVALID card is REFUSED and
the run halts with CARD_REFUSED, and a GOOD one goes to its owner, here a FRAME card that is prepared (the other
owners: TableAndCalibrateCardsBegin, LeaderHoldAndEndCards, DumpWritesTheImage). That PREPARING leaves no retake
pending is log entry 22, and that the current record shows what RESUME has to do is log entry 27 (both DEDUCED). -/
def Obligations.ResumeTakesUpTheCard : Prop :=
  ∀ s u : State, GateLawful s →
    (s.run.state = .held ∧ s.deck.taken ≠ none ∨
      s.run.state = .halted ∧ accepts .halted s.run.haltCause .resume = true ∧ s.run.resume = .running) →
    u = resumed s .running →
    (currentUnfinished s = false → exec .resume s = .next u.advance) ∧
    (∀ k c, working s (.frame k) → s.frame.ctx = some c →
      (c.state = .preparing → ∃ t, exec .resume s = .next t ∧ attemptPrepared u t c) ∧
      (c.state = .closing → c.retakePending = true →
        ∃ t, exec .resume s = .next t ∧ attemptPrepared u t { c with haltAfter := .none })) ∧
    (∀ n e l, working s (.leader n e) → s.film.leader = some l → s.film.state = .still → l.completed < l.count →
      s.run.stopPending = false → s.power.darkHaltPending = false →
      (s.film.magazine = 0 → exec .resume s = .next (u.halt .filmOut)) ∧
      (0 < s.film.magazine → ∃ timer, exec .resume s = .next
        { u with film := { s.film with
            state := .catchup, owed := s.film.owed + s.rb.film.ms, stepTimer := timer, scanRequested := s.rb.film.ms
            scanIssued := 0, pullIssued := 0, perfCount := 0
            cycle := some { forFrame := false, kind := .leader, position := s.film.counter
                            edgeOn := s.rb.film.edgeEnable == 1 && !l.noEdge } } })) ∧
    (working s .calibrate →
      (s.power.state = .settling → exec .resume s = .next (settleWaitsAnew u)) ∧
      (s.power.state = .unsettled → exec .resume s = .next (settleBegun u))) ∧
    ((∃ g a x, working s (.table g a x)) ∨ (∃ g a, working s (.dump g a)) → exec .resume s = .next u) ∧
    (∀ d, s.deck.taken = some d → s.seq.current.state = .present → s.seq.current.entered = true →
      s.seq.current.finished = false →
      (s.seq.current.acted = true → s.seq.current.outcome = .readFailed → exec .resume s = .next
        { u with
          seq := { s.seq with current := { recordReading u s.seq.current.index with entered := true } }
          bus := u.bus ++ [.read s.nextId (deckAddr s d + BitVec.ofNat 64 (64 + 128 * s.seq.current.index)) 80]
          nextId := s.nextId + 1 }) ∧
      (s.seq.current.acted = false → ∀ v, v = { u with seq.current := { s.seq.current with acted := true } } →
        (s.seq.current.outcome = .readFailed → exec .resume s = .next (v.halt .cardRead)) ∧
        (∀ why field b, s.seq.current.outcome = .invalid why field b → s.deck.finishedCount ≤ s.seq.current.index →
          ∃ w, exec .resume s = .next (w.halt .cardRefused) ∧
            cardFinishesAlone v w d { outcome := .refused, reason := why, field := field, kind := unworked b }) ∧
        (∀ k, s.seq.current.outcome = .good (.frame k) →
          ∃ t, exec .resume s = .next t ∧ attemptPrepared v t (contextOf s.seq.current k))))

/-- STOP in WAITING, HELD or HALTED, and ABORT in PRIMING, WAITING, HELD or HALTED, close the run whole (R166 to
R168); an ABORT in PRIMING ends a settle first, so that ENDING's refresh shows it ended. The run closed leaves IDLE,
gate CLOSED, RUN_END raised, everything pending cleared, no deck, no card and no context left, the ring empty with the
cursor parked and the switch ON, the snapshot off, a load or dump abandoned with its staged copy INVALID (R71, R75), a
settle ended UNSETTLED with PWR kept (R111), a marked sample voided by the gate's closing (R102); the halt cause, the
scan, the active tables, the film and the windows stand. That the wait and the timeout of that settle end with it is
log entry 21 (DEDUCED). That the line which a FRAME card in the context had pending is dropped is the model's reading
(log entry 11), and so is that the transport's LEADER card is gone with the run (log entry 22). The results and the
return of the deck are EndingGivesResults. -/
def Obligations.StopAndAbortEndTheRun : Prop :=
  (∀ (s : State) (c : Instr),
    (c = .stop ∧ (s.run.state = .waiting ∨ s.run.state = .held ∨ s.run.state = .halted)) ∨
    (c = .abort ∧ (s.run.state = .priming ∨ s.run.state = .waiting ∨ s.run.state = .held ∨ s.run.state = .halted)) →
    ∀ u : State, u = { s with run := { s.run with
        stopPending := true, lastOutcome := .accepted
        abortRecord := if c = .abort then true else s.run.abortRecord } } →
      exec c s = .next (if s.run.state = .priming then settleEnded u else u).endRun) ∧
  ∀ s t : State, t = s.endRun →
    t.run = { s.run with
              state := .idle, stopPending := false, abortRecord := false, pausePending := false
              powerLimitPending := false, lockWait := none } ∧
    t.power.gateOpen = false ∧ t.power.darkHaltPending = false ∧ t.power.pwr = s.power.pwr ∧
    t.power.state = (if s.power.state = .settling then .unsettled else s.power.state) ∧
    (s.power.state = .settling → t.power.settle.waiting = false ∧ t.power.settleTimeout = none) ∧
    t.power.marked = markedAtClosing s ∧ t.power.conversion = s.power.conversion ∧
    t.regs.causes.getLsbD 6 = true ∧ t.regs.enables = s.regs.enables ∧
    (s.deck.taken ≠ none → t.regs.causes.getLsbD 0 = true) ∧
    t.deck.taken = none ∧ t.deck.seek = .idle ∧ t.deck.headerRead = none ∧ t.deck.pollTimer = none ∧
    t.deck.snapshotEnabled = false ∧ t.seq.current = .emptied ∧ t.seq.lookahead = .emptied ∧ t.frame.ctx = none ∧
    t.ring.slots = [] ∧ t.ring.switchOn = true ∧ t.ring.cursor.state = .parked ∧
    t.tables = { s.tables with
      load := none, dump := none
      staged := match s.tables.load with
        | none => s.tables.staged
        | some l => s.tables.staged.put l.target { state := .invalid, words := [] }
      reads := match s.tables.load with
        | none => s.tables.reads
        | some _ => s.tables.reads.map fun e => { e with live := false } } ∧
    t.scan = s.scan ∧
    (s.frame.ctx = none → t.dp = s.dp) ∧ (s.frame.ctx ≠ none → t.dp = { s.dp with pending := none }) ∧
    t.film = { s.film with leader := none } ∧ t.rb = s.rb

/-- What ENDING writes for the deck taken (R27, R126, R141, R142, R152, R153, R156, R168): the refresh of its entry; the
card that is current without a result gets its own (FRAME: FAILED after an exposed attempt, else SKIPPED, with the
context's fields; LEADER: SKIPPED with its cycles; CALIBRATE: SETTLE_FAILED in a SETTLE_FAIL halt, else SKIPPED; TABLE,
DUMP and a card whose read failed: SKIPPED); then every later card is SKIPPED in increasing index order; then RETURNED;
then the refresh of IDLE. Each result is followed by its finished count and its refresh, and nothing else is issued. The
bodies show ENDING before and after the settle, the load and the context are closed, and then IDLE. That the halt cause
is the one that stands at ENDING (log entry 31), and the fields of a later card whose body was read (log entry 18), are
the model's choices. -/
def Obligations.EndingGivesResults : Prop :=
  ∀ (s : State) (d : Deck) (opened : List BusOp) (skippedFrom : Nat → (Nat → KindFields) → List BusOp),
    s.deck.taken = some d →
    opened = s.bus ++ refreshWrites s 1 (snapshotBody { s with run.state := .ending }) →
    (∀ k kinds, skippedFrom k kinds =
      ((List.range (s.deck.cardCount - s.seq.nextIndex)).flatMap fun j =>
        resultWrites (deckAddr s d) (s.seq.nextIndex + j) (s.seq.nextIndex + j + 1)
          { outcome := .skipped, reason := .none, field := 0, kind := kinds (s.seq.nextIndex + j) } s.film.counter ++
        refreshWrites s (k + j) (snapshotBody (closingView s))) ++
      [.write (deckAddr s d) [3, 0, 0, 0]] ++
      refreshWrites s (k + (s.deck.cardCount - s.seq.nextIndex)) (snapshotBody s.endRun)) →
    s.endRun.run.state = .idle ∧ s.endRun.deck.taken = none ∧ s.endRun.regs.causes.getLsbD 0 = true ∧
    (s.seq.nextIndex ≤ s.deck.cardCount →
      (currentUnfinished s = false → s.deck.finishedCount = s.seq.nextIndex →
        s.endRun.deck.finishedCount = s.deck.cardCount ∧
        ∃ kinds : Nat → KindFields, (∀ i, skippedKind s i (kinds i)) ∧ s.endRun.bus = opened ++ skippedFrom 2 kinds) ∧
      (∀ o kind, s.seq.current.state = .present → s.seq.current.entered = true → s.seq.current.finished = false →
        s.deck.finishedCount = s.seq.current.index → s.seq.nextIndex = s.seq.current.index + 1 →
        ((∃ b c, s.seq.current.outcome = .good (.frame b) ∧ s.frame.ctx = some c ∧
            o = (if 0 < c.attemptsExposed then .failed else .skipped) ∧
            kind = .frame c.lastSpoil c.attemptsExposed c.powerLimited c.minOccupancy c.firstFilm none c.clamps) ∨
         (∃ n e l, s.seq.current.outcome = .good (.leader n e) ∧ s.film.leader = some l ∧ o = .skipped ∧
            kind = .leader l.completed) ∨
         (s.seq.current.outcome = .good .calibrate ∧ kind = .none ∧
            o = (if s.run.haltCause = .settleFail then .settleFailed else .skipped)) ∨
         (∃ g a x, s.seq.current.outcome = .good (.table g a x) ∧ o = .skipped ∧ kind = .table .none 0 none) ∨
         (∃ g a, s.seq.current.outcome = .good (.dump g a) ∧ o = .skipped ∧ kind = .dump 0 0) ∨
         (s.seq.current.outcome = .readFailed ∧ o = .skipped ∧ kind = .none)) →
        s.endRun.deck.finishedCount = s.deck.cardCount ∧
        ∃ kinds : Nat → KindFields, (∀ i, s.seq.nextIndex ≤ i → skippedKind s i (kinds i)) ∧
          s.endRun.bus = opened ++
            (resultWrites (deckAddr s d) s.seq.current.index s.seq.nextIndex
              { outcome := o, reason := .none, field := 0, kind := kind } s.film.counter ++
              refreshWrites s 2 (snapshotBody (closingView s))) ++
            skippedFrom 3 kinds))

/-- STOP and ABORT in RUNNING but for an EXPOSING attempt (R21, R24, R25, R71, R75, R111, R126, R143, R158, R166,
R167). A second STOP changes nothing further. With no card current, with a FRAME card PREPARING, a LEADER card whose
film stands still, or a CALIBRATE card, whose settle is ended first, the run is closed at once (what that leaves is
StopAndAbortEndTheRun). That the wait and the lock timeout of that settle end with it is log entry 21. A cycle under
way goes on: CLOSING with kind GOOD and a moving LEADER cycle are left alone, and CLOSING with kind SPOILED gives up
its retake, with the cursor parked and the ring kept. A load or a dump runs to its result under STOP, and is abandoned
by ABORT, which closes the run at once. -/
def Obligations.StopAndAbortInRunning : Prop :=
  ∀ (s u : State) (c : Instr), s.run.state = .running →
    (c = .stop ∧ s.run.stopPending = false ∧
        u = { s with run := { s.run with stopPending := true, lastOutcome := .accepted } } ∨
      c = .abort ∧
        u = { s with run := { s.run with stopPending := true, abortRecord := true, lastOutcome := .accepted } }) →
    (cardCurrent s = false → exec c s = .next u.endRun) ∧
    (∀ k x, working s (.frame k) → s.frame.ctx = some x →
      (x.state = .preparing → exec c s = .next u.endRun) ∧
      (x.state = .closing → x.closeKind = .good → exec c s = .next u) ∧
      (x.state = .closing → x.closeKind = .spoiled → exec c s = .next
        { u with
          frame.ctx := some { x with retakePending := false }
          ring.cursor := { s.ring.cursor with state := .parked, crossedFrom := none } })) ∧
    (∀ n e, working s (.leader n e) →
      (s.film.state = .still ∨ s.film.state = .faulted → exec c s = .next u.endRun) ∧
      (s.film.state ≠ .still → s.film.state ≠ .faulted → exec c s = .next u)) ∧
    (working s .calibrate → exec c s = .next (settleEnded u).endRun) ∧
    ((∃ g a n, working s (.table g a n)) ∨ (∃ g a, working s (.dump g a)) →
      exec c s = .next (if c = .stop then u else u.endRun)) ∧
    exec .stop u = .next u

/-- STOP with a FRAME card EXPOSING lets the attempt run on: stop pending, and nothing else (R24, R166). ABORT spoils
the attempt with cause ABORT and no retake (R19, R20, R25, R167): the drive goes dark, the ring is emptied with its
reads voided and the cursor parked, and the transport catches up. -/
def Obligations.StopAndAbortWhileExposing : Prop :=
  ∀ (s : State) (c : FrameCard) (x : FrameCtx), s.run.state = .running → cardCurrent s = true →
    s.seq.current.outcome = .good (.frame c) → s.frame.ctx = some x → x.state = .exposing →
    exec .stop s = .next { s with run.stopPending := true, run.lastOutcome := .accepted } ∧
    ∃ t, exec .abort s = .next t ∧
      t.run = { s.run with stopPending := true, abortRecord := true, lastOutcome := .accepted } ∧
      t.frame = { s.frame with
                  ctx := some { x with
                    state := .closing, closeKind := .spoiled, lastSpoil := .abort, spoilLine := x.r - 1
                    retakePending := false } } ∧
      t.ring.slots = [] ∧ t.ring.switchOn = true ∧ t.ring.cursor = { s.ring.cursor with state := .parked, crossedFrom := none } ∧
      t.ring.reads = s.ring.reads.map (fun e => { e with linked := false }) ∧
      t.dp.pending = none ∧ (s.dp.mode = .image ∨ s.dp.mode = .blank → t.dp.mode = .dark ∧ t.dp.drive = .all 0) ∧
      t.film = s.film.finish s.rb .spoiled ∧
      t.regs = s.regs ∧ t.rb = s.rb ∧ t.deck = s.deck ∧ t.seq = s.seq ∧ t.tables = s.tables ∧ t.scan = s.scan ∧
      t.power = s.power ∧ t.bus = s.bus ∧ t.nextId = s.nextId

/-- SPIN_DOWN in IDLE (R97): a RUNNING reference stops with its output LOW, the lock becomes STOPPED with R81's
values, the line's windows are gone, and the gate is CLOSED; the averages and every other block stand. A STOPPED one
changes nothing. -/
def Obligations.SpinDownStopsTheReference : Prop :=
  ∀ s : State, s.run.state = .idle → s.frame.ctx = none →
    (s.scan.running = false → exec .spinDown s = .next { s with run.lastOutcome := .accepted }) ∧
    (s.scan.running = true → ∃ t, exec .spinDown s = .next t ∧
      t.scan = { s.scan with
                 running := false, refHigh := false, refTimer := none, lock := .stopped, facet := 0
                 indexPending := false, intervalValid := false, rev := none, goodCount := 0, watchdog := none
                 window := .none, mark := t.scan.mark, windowTimer := t.scan.windowTimer } ∧
      (s.scan.window ≠ .none → t.scan.mark = false ∧ t.scan.windowTimer = none ∧ t.power.marked = none) ∧
      (s.scan.window = .pixel ∨ s.scan.window = .monitor → t.dp.mode = .idle ∧ t.dp.drive = .all 0) ∧
      (GateLawful s → t.power.gateOpen = false) ∧
      t.run = { s.run with lastOutcome := .accepted } ∧ t.power.pwr = s.power.pwr ∧ t.regs = s.regs ∧ t.rb = s.rb ∧
      t.deck = s.deck ∧ t.seq = s.seq ∧ t.frame = s.frame ∧ t.ring = s.ring ∧ t.tables = s.tables ∧ t.film = s.film ∧
      t.bus = s.bus)

/-- RESET in every run state (R169): each block takes its soft-reset values, named in its own chapter's rule: the
scan (R77, R78, R97), the Regulator with the gate (R98, R99), the Datapath (R29), the Deck Reader (R144), the records
(R132), the context (R2), the ring (R58, R60), the staged tables (R76) and the film, which stops where it is and
keeps its counters and input levels (R113). The run block copy stands (R144). POWER_ON (R170): every block at its
power-on values, the run block copy 0, each written out field by field. The values of the model's own fields among them,
and of the spec's fields to which it gives none, are the model's choice (log entries 16 and 25). -/
def Obligations.ResetsLeaveTheirValues : Prop :=
  (∀ s : State, ∃ t, exec .reset s = .next t ∧
    t.run = { RunCtl.reset with lastOutcome := .accepted } ∧ t.regs = .reset ∧ t.regs.irq = false ∧
    t.power = .reset ∧ t.power.gateOpen = false ∧ t.dp = .reset ∧ t.scan = .reset ∧ t.deck = .reset ∧
    t.seq = .reset ∧ t.frame = { s.frame with ctx := none } ∧
    t.ring = { slots := [], switchOn := true
               reads := s.ring.reads.map fun e => { e with linked := false }
               cursor := { s.ring.cursor with state := .parked, crossedFrom := none } } ∧
    t.tables = { active := s.tables.active, staged := .all { state := .invalid, words := [] }, load := none
                 reads := s.tables.reads.map fun e => { e with live := false }, dump := none } ∧
    t.film = { s.film with
      state := .still, cycle := none, leader := none, scanRequested := 0, scanIssued := 0, pullIssued := 0, owed := 0
      stepTimer := none, stepHigh := false, pulseTimer := none, settlingTimer := none, dwellTimer := none
      perfCount := 0, edgeCode := 0, led := false } ∧
    t.rb = s.rb ∧ t.bus = s.bus) ∧
  (∀ s : State, ∃ t, exec .powerOn s = .next t ∧
    t.run = { state := .idle, stage := 1, haltCause := .none, resume := .running, stopPending := false,
              abortRecord := false, pausePending := false, powerLimitPending := false, lockWait := none,
              lastOutcome := .none, startFault := .none } ∧
    t.regs = { runaddrLo := 0, runaddrHi := 0, causes := 0, enables := 0, irq := false } ∧
    (∀ g : Target, (t.tables.active.get g).valid = false ∧ (t.tables.staged.get g).state = .invalid) ∧
    t.tables.load = none ∧ t.tables.reads = [] ∧ t.tables.dump = none ∧
    t.scan.running = false ∧ t.scan.lock = .stopped ∧ t.film.state = .still ∧ t.film.counter = 0 ∧
    t.power.gateOpen = false ∧ readRegister t 0 = 0x5A010154 ∧ t.rb = .reset ∧ t.frame = .reset ∧ t.ring = .reset ∧
    t.dp = .reset ∧ t.deck = .reset ∧ t.seq = .reset ∧ t.tables = .reset ∧ t.scan = .reset ∧ t.power = .reset ∧
    t.film = .reset) ∧
  (∀ p : Power, p = .reset → p = {
    state := .unsettled, pwr := .all 0, limited := .all false, dark := .all 0, darkHaltPending := false, cadence := 0
    nextChannel := .red, settle := { channel := .red, attempts := 0, inBand := 0, waiting := false, used := .all 0 }
    settleTimeout := none, marked := none, conversion := none, gateOpen := false }) ∧
  (∀ c : ScanTiming, c = .reset → c = {
    running := false, refHigh := false, refTimer := none, lock := .stopped, facet := 0, indexPending := false
    interval := 1048575, intervalValid := false, watchdog := none, averages := List.replicate 16 0, rev := none
    goodCount := 0, window := .none, mark := false, windowTimer := none, sosLevel := false, indexLevel := false
    sosRun := 0, indexRun := 0 }) ∧
  (∀ d : Datapath, d = .reset → d = {
    mode := .idle, pending := none, lineSlot := none, curveSlot := 0, x0 := 0, w := 0, latched := .all 0
    clamps := .all { low := 0, high := 0 }, monitorChannel := none, monitorDrive := 0, monitorRequest := none
    nextPosition := 0, positionTimer := none, drive := .all 0 }) ∧
  (∀ d : DeckReader, d = .reset → d = {
    taken := none, next := .a, expectedSerial := 0, serial := 0, cardCount := 0, finishedCount := 0, seek := .idle
    headerRead := none, pollTimer := none, snapshotEnabled := false, generation := 0, runBlockRead := none }) ∧
  (∀ r : CardRecord, r = .emptied → r = {
    state := .empty, serial := 0, index := 0, read := none, outcome := .pending, finished := false, entered := false
    acted := false }) ∧
  (∀ q : Sequencer, q = .reset → q = { nextIndex := 0, current := .emptied, lookahead := .emptied }) ∧
  (∀ f : FrameExposure, f = .reset → f = { ctx := none, entriesWritten := 0, entriesDropped := 0 }) ∧
  (∀ g : LineRing, g = .reset → g = {
    slots := [], switchOn := true, reads := []
    cursor := { state := .parked, owner := { tag := 0, serial := 0, index := 0, attempt := 0 }, image := 0, stride := 0
                width := 0, height := 0, next := 0, crossedFrom := none } }) ∧
  (∀ k : TableStore, k = .reset → k = {
    active := .all { valid := false, words := [] }, staged := .all { state := .invalid, words := [] }, load := none
    reads := [], dump := none }) ∧
  (∀ f : Film, f = .reset → f = {
    state := .still, cycle := none, leader := none, scanRequested := 0, scanIssued := 0, pullIssued := 0, owed := 0
    stepTimer := none, stepHigh := false, pulseTimer := none, settlingTimer := none, dwellTimer := none, perfCount := 0
    perfLevel := false, faultLevel := false, sampleClock := 0, perfRun := 0, faultRun := 0, counter := 0, magazine := 0
    good := 0, spoiled := 0, leaders := 0, edgeCode := 0, led := false }) ∧
  ∀ b : RunBlock, b = .reset →
    b.polygon = { facets := 0, goodRevs := 0, period := 0, tolerance := 0, window := 0, watchdog := 0, refdiv := 0 } ∧
    b.line = { divisor := 0, base := 0, mgap := 0, mlen := 0 } ∧
    b.power = { lref := .all 0, tgt := .all 0, db := 0, step := 0, sstep := 0, lim := 0, n := 0, amax := 0, need := 0
                haltOnLimit := 0 } ∧
    b.film = { ms := 0, mp := 0, stepPeriod := 0, dwell := 0, perfs := 0, edgeEnable := 0, eb := 0, eo := 0
               startCounter := 0, frames := 0, lowThreshold := 0 } ∧
    b = { version := 0, runNumber := 0, firstSerial := 0, spoilCapacity := 0, deckA := 0, deckB := 0, spoilList := 0
          height := 0, polygon := b.polygon, line := b.line, high := 0, low := 0, power := b.power, film := b.film
          readLimit := 0, pollInterval := 0, lockTimeout := 0 }

/-- What a write to the register window is (R177 to R179): a 32-bit write to RUNADDR_LO, RUNADDR_HI and ATTENTION is
that register's write with its value, and one to CONTROL is the command of the code in its bits 7..0, 1 to 7, and an
unknown command for any other code. What the register window reads (R178, R179): the fixed IDENT, both halves of
RUNADDR, 0 for CONTROL and the empty offsets, the fields of STATE at their places, and the causes and enables of
ATTENTION. A write to IDENT, to STATE or to an empty offset, and any write narrower than 32 bits, is ignored (R179). A
RUNADDR write replaces its half in IDLE and is ignored in every other state; the command outcome stands (R158). An
ATTENTION write clears the causes whose bit is 1, leaves the others, replaces all seven enables, and the line follows;
bits 15..7 and 31..23 of the write count for nothing, and no other state changes (R171). -/
def Obligations.RegisterWindowAccess : Prop :=
  (∀ v : BitVec 32,
    decodeWrite 0x04 4 v = .runaddrWrite false v ∧ decodeWrite 0x08 4 v = .runaddrWrite true v ∧
    decodeWrite 0x14 4 v = .attentionWrite v ∧
    ∀ code : BitVec 8, code = v.extractLsb' 0 8 →
      (code = 1 → decodeWrite 0x0C 4 v = .start) ∧ (code = 2 → decodeWrite 0x0C 4 v = .pause) ∧
      (code = 3 → decodeWrite 0x0C 4 v = .resume) ∧ (code = 4 → decodeWrite 0x0C 4 v = .stop) ∧
      (code = 5 → decodeWrite 0x0C 4 v = .abort) ∧ (code = 6 → decodeWrite 0x0C 4 v = .spinDown) ∧
      (code = 7 → decodeWrite 0x0C 4 v = .reset) ∧
      (code = 0 ∨ 7 < code.toNat → decodeWrite 0x0C 4 v = .unknownCommand code)) ∧
  ∀ s : State,
    (∀ (offset bytes : Nat) (v : BitVec 32), bytes < 4 ∨ offset = 0x00 ∨ offset = 0x10 ∨ 0x18 ≤ offset →
      decodeWrite offset bytes v = .registerWrite offset bytes v ∧
      exec (.registerWrite offset bytes v) s = .next s) ∧
    (∀ v : BitVec 32, s.run.state = .idle →
      exec (.runaddrWrite false v) s = .next { s with regs.runaddrLo := v } ∧
      exec (.runaddrWrite true v) s = .next { s with regs.runaddrHi := v }) ∧
    (∀ (v : BitVec 32) (high : Bool), s.run.state ≠ .idle → exec (.runaddrWrite high v) s = .next s) ∧
    readRegister s 0x00 = 0x5A010154 ∧ readRegister s 0x04 = s.regs.runaddrLo ∧
    readRegister s 0x08 = s.regs.runaddrHi ∧ readRegister s 0x0C = 0 ∧ readRegister s 0x18 = 0 ∧
    readRegister s 0x1C = 0 ∧
    (readRegister s 0x10).toNat =
      s.run.state.code + 2 ^ 3 * s.run.haltCause.code + 2 ^ 7 * s.scan.lock.code + 2 ^ 9 * s.power.state.code +
      2 ^ 11 * s.film.state.code + 2 ^ 14 * s.run.lastOutcome.code + 2 ^ 16 * s.run.startFault.code +
      2 ^ 22 * (s.film.counter % 1024) ∧
    (readRegister s 0x14).toNat = s.regs.causes.toNat + 2 ^ 16 * s.regs.enables.toNat ∧
    (∀ v : BitVec 32, ∃ t, exec (.attentionWrite v) s = .next t ∧
      (∀ k < 7, t.regs.causes.getLsbD k = (s.regs.causes.getLsbD k && !v.getLsbD k)) ∧
      (∀ k < 7, t.regs.enables.getLsbD k = v.getLsbD (16 + k)) ∧
      (t.regs.irq = true ↔ ∃ k < 7, t.regs.causes.getLsbD k = true ∧ t.regs.enables.getLsbD k = true) ∧
      t = { s with regs := { s.regs with causes := t.regs.causes, enables := t.regs.enables, irq := t.regs.irq } })

/-- The areas that the controller writes (R155, R156, R174 to R177). A refresh raises the generation by 1 modulo 2^32
and writes head, body and tail in this order, head and tail with the new generation, at bytes 256, 260 and 508 of the
run block; the body holds the snapshot's fields at their places, all bits set for the card of an EMPTY record, and 0
in its reserved bytes. While the snapshot is disabled none is made. A result area, a spoil entry and the codes of the
named values are laid out as their tables give, an absent counter or position with all bits set. The kind fields of a
card never worked are those of R138. Offsets of the body count from byte 260. -/
def Obligations.WrittenAreas : Prop :=
  (∀ s : State,
    (s.deck.snapshotEnabled = false → s.refresh = s) ∧
    (s.deck.snapshotEnabled = true →
      s.refresh = { s with
        deck.generation := (s.deck.generation + 1) % 2 ^ 32
        bus := s.bus ++ [.write (runAddress s + 256) (toLE 4 ((s.deck.generation + 1) % 2 ^ 32)),
                         .write (runAddress s + 260) (snapshotBody s),
                         .write (runAddress s + 508) (toLE 4 ((s.deck.generation + 1) % 2 ^ 32))] }) ∧
    layout (snapshotBody s)
      [(0, 1, s.run.state.code), (1, 1, s.run.haltCause.code), (3, 1, s.scan.lock.code), (4, 1, s.power.state.code),
       (5, 1, (if s.power.limited.r then 1 else 0) + (if s.power.limited.g then 2 else 0) +
         (if s.power.limited.b then 4 else 0)),
       (6, 1, s.ring.slots.length), (7, 1, 0),
       (8, 2, if s.seq.current.state = .empty then 0xFFFF else s.seq.current.serial),
       (10, 2, if s.seq.current.state = .empty then 0xFFFF else s.seq.current.index),
       (12, 4, s.film.counter), (16, 4, s.film.magazine), (20, 4, s.film.good), (24, 4, s.film.spoiled),
       (28, 4, s.film.leaders), (32, 4, s.frame.entriesWritten), (36, 4, s.frame.entriesDropped),
       (40, 2, s.power.pwr.r), (42, 2, s.power.pwr.g), (44, 2, s.power.pwr.b), (46, 2, 0)] ∧
    (s.frame.ctx = none → layout (snapshotBody s) [(2, 1, 0)]) ∧
    (∀ c, s.frame.ctx = some c → layout (snapshotBody s)
      [(2, 1, if c.state = .preparing then 1 else if c.state = .exposing then 2 else 3)]) ∧
    (s.scan.averages.length = 16 → (snapshotBody s).length = 248 ∧ zeroBytes (snapshotBody s) 112 248 ∧
      ∀ i < 16, layout (snapshotBody s) [(48 + 4 * i, 4, s.scan.averages.getD i 0)])) ∧
  (∀ (n w : Nat), numberAt (toLE w n) 0 w = n % 256 ^ w ∧ (toLE w n).length = w) ∧
  (∀ (r : CardResult) (counter : Nat),
    (r.bytes counter).length = 48 ∧ zeroBytes (r.bytes counter) 3 4 ∧
    layout (r.bytes counter)
      [(0, 1, r.outcome.code), (1, 1, r.reason.code), (2, 1, r.field), (4, 4, counter)] ∧
    (r.kind = .none → zeroBytes (r.bytes counter) 8 48) ∧
    (∀ spoil attempts limited occupancy first good k, r.kind = .frame spoil attempts limited occupancy first good k →
      layout (r.bytes counter)
        [(8, 1, spoil.code), (9, 1, attempts), (10, 1, if limited then 1 else 0), (11, 1, occupancy),
         (12, 4, first.getD 0xFFFFFFFF), (16, 4, good.getD 0xFFFFFFFF), (20, 4, k.r.low), (24, 4, k.r.high),
         (28, 4, k.g.low), (32, 4, k.g.high), (36, 4, k.b.low), (40, 4, k.b.high)] ∧
      zeroBytes (r.bytes counter) 44 48) ∧
    (∀ n, r.kind = .leader n → layout (r.bytes counter) [(8, 2, n)] ∧ zeroBytes (r.bytes counter) 10 48) ∧
    (∀ detail sum position, r.kind = .table detail sum position →
      layout (r.bytes counter) [(8, 1, detail.code), (12, 4, sum), (16, 4, position.getD 0xFFFFFFFF)] ∧
      zeroBytes (r.bytes counter) 9 12 ∧ zeroBytes (r.bytes counter) 20 48) ∧
    (∀ sum words, r.kind = .dump sum words → layout (r.bytes counter) [(12, 4, sum), (16, 4, words)] ∧
      zeroBytes (r.bytes counter) 8 12 ∧ zeroBytes (r.bytes counter) 20 48) ∧
    (∀ pwr used, r.kind = .calibrate pwr used → layout (r.bytes counter)
        [(8, 2, pwr.r), (10, 2, pwr.g), (12, 2, pwr.b), (14, 1, used.r), (15, 1, used.g), (16, 1, used.b)] ∧
      zeroBytes (r.bytes counter) 17 48)) ∧
  (∀ (c : FrameCtx) (run : Nat), (spoilEntryBytes c run).length = 32 ∧ zeroBytes (spoilEntryBytes c run) 18 32 ∧
    layout (spoilEntryBytes c run)
      [(0, 4, c.position.getD 0xFFFFFFFF), (4, 1, c.lastSpoil.code), (5, 1, c.attemptsExposed), (6, 2, c.spoilLine),
       (8, 4, c.card.tag), (12, 2, c.serial), (14, 2, c.index), (16, 2, run)]) ∧
  (∀ k, unworked (.frame k) = .frame .none 0 false 8 none none (.all { low := 0, high := 0 })) ∧
  (∀ n e, unworked (.leader n e) = .leader 0) ∧ (∀ g a x, unworked (.table g a x) = .table .none 0 none) ∧
  (∀ g a, unworked (.dump g a) = .dump 0 0) ∧ unworked .calibrate = .none ∧ unworked .hold = .none ∧
  unworked .endCard = .none ∧ (∀ n, unworked (.unknown n) = .none) ∧
  [ResultOutcome.exposed, .retaken, .failed, .refused, .skipped, .done, .staged, .loadFailed, .dumped, .nothingToDump,
    .settled, .settleFailed].map ResultOutcome.code = [1, 2, 3, 4, 5, 6, 7, 8, 9, 10, 11, 12] ∧
  [Reason.none, .badKind, .fieldRange, .noTable, .notSettled].map Reason.code = [0, 1, 2, 3, 4] ∧
  [Detail.none, .readError, .sum, .range, .order].map Detail.code = [0, 1, 2, 3, 4] ∧
  [SpoilCause.none, .underrun, .lineError, .lineTimeout, .polygonLost, .laserDark, .abort].map SpoilCause.code =
    [0, 1, 2, 3, 4, 5, 6] ∧
  [RunState.idle, .priming, .running, .waiting, .held, .halted, .ending].map RunState.code = [0, 1, 2, 3, 4, 5, 6] ∧
  [HaltCause.none, .lockTimeout, .polygonLost, .laserDark, .settleFail, .powerLimit, .retakesExhausted, .cardRefused,
    .tableLoad, .cardRead, .deckRead, .deckSequence, .filmOut, .transport, .registration].map HaltCause.code =
    [0, 1, 2, 3, 4, 5, 6, 7, 8, 9, 10, 11, 12, 13, 14] ∧
  [LockState.stopped, .spinning, .locking, .locked].map LockState.code = [0, 1, 2, 3] ∧
  [RegulatorState.unsettled, .settling, .settled].map RegulatorState.code = [0, 1, 2] ∧
  [TransportState.still, .scanning, .catchup, .pulling, .dwell, .faulted].map TransportState.code = [0, 1, 2, 3, 4, 5] ∧
  [CommandOutcome.none, .accepted, .refused].map CommandOutcome.code = [0, 1, 2]

/-! ## The scan (05_polygon_scan_timing.md) -/

/-- SOS events before the lock (R79, R82, R84): with the reference STOPPED the event is discarded; in STOPPED it
begins a spin at facet 0; in SPINNING it counts a facet, or, with an index pending, begins LOCKING with a new
revolution. That this SOS does not check the record it has just started at stage 5 is the model's reading (log entry
9; the example of 5.10 shows the record at sum 0 after the marked SOS). The runs of samples behind the qualified
levels start at 0 (log entry 25). -/
def Obligations.SosBeforeLocking : Prop :=
  ∀ s : State, s.scan.sosLevel = false → WindowsLawful s →
    (s.scan.running = false → exec .sosEvent s = .next { s with scan.sosLevel := true, scan.sosRun := 0 }) ∧
    (s.scan.running = true → s.scan.lock = .stopped →
      exec .sosEvent s = .next
        { s with scan := { s.scan with
            sosLevel := true, sosRun := 0, interval := 1048575, intervalValid := true
            watchdog := some s.rb.polygon.watchdog, facet := 0, lock := .spinning, indexPending := false } }) ∧
    (s.scan.running = true → s.scan.lock = .spinning → s.scan.indexPending = false →
      exec .sosEvent s = .next
        { s with scan := { s.scan with
            sosLevel := true, sosRun := 0, interval := 1048575, intervalValid := true
            watchdog := some s.rb.polygon.watchdog, facet := (s.scan.facet + 1) % s.rb.polygon.facets } }) ∧
    (s.scan.running = true → s.scan.lock = .spinning → s.scan.indexPending = true →
      exec .sosEvent s = .next
        { s with scan := { s.scan with
            sosLevel := true, sosRun := 0, interval := 1048575, intervalValid := true
            watchdog := some s.rb.polygon.watchdog, facet := 0, lock := .locking, indexPending := false
            rev := some { sum := 0, intervals := 0, bad := false }, goodCount := 0 } })

/-- An SOS in the middle of a revolution, with no line in its windows (R80, R84, R85, R87). The interval is applied to
the departing facet's average: an unset one becomes the interval, which is no violation, and one within WIN is
smoothed; the interval is gathered into the record. In LOCKING that is all, and a facet violation leaves the average
and marks the record. In LOCKED one line is scheduled at its facet's offset (R90, R92), and the line event reaches the
Power Regulator in whatever state it is: a settle marks every line, and regulation every N-th in RUNNING, WAITING and
HELD (R101). Frame Exposure, here without a FRAME card EXPOSING or ready to begin, does not heed it (R7, R14, R57). -/
def Obligations.SosInMidRevolution : Prop :=
  ∀ s : State, sosReady s → midRevolution s →
    (s.scan.lock = .locking → intervalFits s →
      exec .sosEvent s = .next { s with scan := { scanAfterSos s with averages := averagesAfterSos s } }) ∧
    (s.scan.lock = .locking → ¬intervalFits s →
      exec .sosEvent s = .next { s with scan := { scanAfterSos s with rev := spoiledRevolution s } }) ∧
    (s.scan.lock = .locked → intervalFits s → lineUnheeded s →
      ∃ t, exec .sosEvent s = .next t ∧ lineScheduled s t ∧ regulatorTakesLine s t ∧
        t = { s with scan := t.scan, power := t.power, dp := { s.dp with monitorRequest := t.dp.monitorRequest } })

/-- Such an SOS in LOCKED with the gate OPEN (R101). With the regulator SETTLED and the run RUNNING, WAITING or HELD the
cadence count rises, and on reaching N the line is marked for the next channel, which gives the Datapath its monitor
request. A settle that does not wait marks the line for its channel, whatever N. -/
def Obligations.SosMarksEveryNthLine : Prop :=
  ∀ s : State, sosReady s → s.scan.lock = .locked → intervalFits s → midRevolution s → lineUnheeded s →
    s.power.gateOpen = true →
    ∃ t, exec .sosEvent s = .next t ∧ t.scan.window = .pixelWait ∧
      (s.power.state = .settled → regulating s →
        (s.power.cadence + 1 < s.rb.power.n →
          t.scan.mark = false ∧ t.power = { s.power with cadence := s.power.cadence + 1 } ∧ t.dp = s.dp) ∧
        (s.rb.power.n ≤ s.power.cadence + 1 →
          t.scan.mark = true ∧
          t.power = { s.power with
            cadence := 0, nextChannel := t.power.nextChannel
            marked := some { channel := s.power.nextChannel, purpose := .regulate, valid := true } } ∧
          channelPlace t.power.nextChannel = (channelPlace s.power.nextChannel + 1) % 3 ∧
          t.dp = { s.dp with monitorRequest := some s.power.nextChannel })) ∧
      (s.power.state = .settling → s.power.settle.waiting = false →
        t.scan.mark = true ∧ t.dp = { s.dp with monitorRequest := some s.power.settle.channel } ∧
        t.power = { s.power with
          marked := some { channel := s.power.settle.channel, purpose := .settle, valid := true } }) ∧
      t.run = s.run ∧ t.regs = s.regs ∧ t.frame = s.frame ∧ t.ring = s.ring ∧ t.film = s.film ∧ t.tables = s.tables ∧
      t.bus = s.bus

/-- A facet violation in LOCKED, an interval more than WIN from an average that is set (R85, R89, R94): the lock
becomes LOCKING, the average stands, the record is bad, no line is scheduled and the gate closes. A settle under way
begins to wait under a new lock timeout (R110), and a sample that waits for its window or its completion is not voided
(R102). The loss reaches the attempt in the context (R7, R8, R14, R18 to R20): an EXPOSING one is spoiled with
POLYGON_LOST at the raster line before r, its retake decided, its halt after cycle set, and the ring flushed with the
cursor at line 0 of a pending retake or parked. -/
def Obligations.ViolationLosesTheLock : Prop :=
  ∀ s : State, sosReady s → s.scan.lock = .locked → midRevolution s → departingAverage s ≠ 0 →
    s.rb.polygon.window < ((sosInterval s : Int) - departingAverage s).natAbs →
    ∃ t, exec .sosEvent s = .next t ∧
      t.scan = { scanAfterSos s with lock := .locking, rev := spoiledRevolution s } ∧
      t.power.gateOpen = false ∧ settleLosesLock s t ∧ t.power.marked = s.power.marked ∧
      (s.frame.ctx = none → t.dp = s.dp) ∧ frameLosesLock s t ∧
      (s.frame.ctx = none ∨ (∃ c, s.frame.ctx = some c ∧ c.state = .exposing) → t.regs = s.regs ∧ t.deck = s.deck) ∧
      t.rb = s.rb ∧ t.seq = s.seq ∧ t.tables = s.tables

/-- A line overlap and a slip (R84, R87, R89, R94). An SOS in LOCKED that finds the previous line in its windows cuts
the line, marks the record bad and makes the lock LOCKING, and the departing facet's average is treated as R85 gives.
A slip, an index off the wrap or a wrap without one, makes facet 0 and a bad revolution, which clears the averages; in
LOCKED it loses the lock, and in LOCKING it only sets the good-revolution count to 0. No line is scheduled. A settle
under way begins to wait under a new lock timeout at the loss (R110). -/
def Obligations.OverlapAndSlipLoseTheLock : Prop :=
  ∀ s : State, s.scan.running = true → s.scan.sosLevel = false → s.scan.intervalValid = true →
    (s.scan.lock = .locked → s.scan.window ≠ .none → midRevolution s →
      ∃ t, exec .sosEvent s = .next t ∧
        t.scan = { scanAfterSos s with
          lock := .locking, window := .none, mark := false, windowTimer := none, averages := t.scan.averages
          rev := spoiledRevolution s } ∧
        (intervalFits s → t.scan.averages = averagesAfterSos s) ∧
        (¬intervalFits s → t.scan.averages = s.scan.averages) ∧
        (s.scan.window = .pixel ∨ s.scan.window = .monitor → t.dp.mode = .idle ∧ t.dp.drive = .all 0) ∧
        t.power.marked = none ∧ t.power.gateOpen = false ∧ settleLosesLock s t ∧ frameLosesLock s t ∧ t.rb = s.rb ∧
        t.seq = s.seq ∧
        t.tables = s.tables) ∧
    (∀ v, s.scan.window = .none → s.scan.rev = some v →
      (s.scan.indexPending = true ∧ s.scan.facet + 1 < s.rb.polygon.facets) ∨
        (s.scan.indexPending = false ∧ s.scan.facet + 1 = s.rb.polygon.facets) →
      (s.scan.lock = .locked ∨ s.scan.lock = .locking →
        ∃ t, exec .sosEvent s = .next t ∧ t.scan.facet = 0 ∧ t.scan.indexPending = false ∧ t.scan.lock = .locking ∧
          t.scan.rev = some { sum := 0, intervals := 0, bad := false } ∧ t.scan.goodCount = 0 ∧
          t.scan.averages = List.replicate 16 0 ∧ t.scan.window = .none ∧ t.scan.intervalValid = true ∧
          t.scan.watchdog = some s.rb.polygon.watchdog ∧
          (s.scan.lock = .locked → t.power.gateOpen = false ∧ settleLosesLock s t ∧ frameLosesLock s t ∧ t.rb = s.rb ∧
            t.seq = s.seq ∧ t.tables = s.tables) ∧
          (s.scan.lock = .locking → t = { s with scan := t.scan })))

/-- A facet-0 SOS with its index (R84, R85, R87 to R89, R98). A revolution is good when its last interval too is no
facet violation, its record is not bad, it holds F intervals, and its sum lies within TOL of T. In LOCKING the one
that completes the K-th good revolution makes the lock LOCKED, with the gate brought to its law, and schedules its
line; one revolution fewer leaves it LOCKING with the count raised; a bad one clears the count and the averages.
LOCKED entered ends the wait of a settle (R110), and at PRIMING stage 5 it ends the stage: a settle begins, and its
first line is marked for red, or with an INVALID DRIVE copy deck A's header is read (R160, R161); the context is empty
there (StepKeepsIdleQuiet). In LOCKED a good revolution keeps the lock and its count, and schedules the line; a bad
one loses the lock, with the loss reported, to a settle under way too (R110). -/
def Obligations.RevolutionsMakeTheLock : Prop :=
  ∀ (s : State) (v : Revolution) (good : Prop), sosReady s → s.scan.indexPending = true →
    s.scan.facet + 1 = s.rb.polygon.facets → s.scan.rev = some v →
    (good ↔ intervalFits s ∧ v.bad = false ∧ v.intervals + 1 = s.rb.polygon.facets ∧
      ((v.sum + sosInterval s : Nat) - (s.rb.polygon.period : Int)).natAbs ≤ s.rb.polygon.tolerance) →
    s.scan.lock = .locking ∨ s.scan.lock = .locked →
    ∃ t, exec .sosEvent s = .next t ∧ t.scan.facet = 0 ∧ t.scan.indexPending = false ∧
      t.scan.rev = some { sum := 0, intervals := 0, bad := false } ∧ t.tables = s.tables ∧
      (s.scan.lock = .locking →
        (good → t.scan.goodCount = s.scan.goodCount + 1 ∧ t.scan.averages = averagesAfterSos s ∧
          (s.scan.goodCount + 1 ≠ s.rb.polygon.goodRevs →
            t.scan.lock = .locking ∧ t.scan.window = .none ∧ t = { s with scan := t.scan }) ∧
          (s.scan.goodCount + 1 = s.rb.polygon.goodRevs →
            t.scan.lock = .locked ∧ t.scan.window = .pixelWait ∧ GateLawful t ∧
            (s.run.state = .running → s.power.state = .unsettled → s.frame.ctx = none →
              t.power.gateOpen = true ∧ t.run = s.run ∧ t.frame = s.frame ∧ t.ring = s.ring ∧ t.film = s.film ∧
              t.dp = s.dp) ∧
            (s.run.state ≠ .priming → s.power.settle.waiting = true →
              t.power.settle.waiting = false ∧ t.power.settleTimeout = none) ∧
            (s.run.state = .priming → s.run.stage = 5 → s.frame.ctx = none → t.power.gateOpen = true ∧
              (s.tables.active.drive.valid = true →
                t.run = { s.run with stage := 6, lockWait := none } ∧ t.power.state = .settling ∧
                t.power.pwr = s.power.pwr ∧ t.power.limited = .all false ∧ t.power.settleTimeout = none ∧
                t.power.settle = { channel := .red, attempts := 0, inBand := 0, waiting := false, used := .all 0 } ∧
                t.scan.mark = true ∧ t.dp.monitorRequest = some .red ∧
                t.power.marked = some { channel := .red, purpose := .settle, valid := true } ∧ t.deck = s.deck) ∧
              (s.tables.active.drive.valid = false →
                t.run = { s.run with stage := 7, lockWait := none } ∧ t.deck.seek = .reading ∧
                t.bus = s.bus ++ [.read s.nextId (nextDeckAddress s) 64])))) ∧
        (¬good → t.scan.lock = .locking ∧ t.scan.goodCount = 0 ∧ t.scan.averages = List.replicate 16 0 ∧
          t.scan.window = .none ∧ t = { s with scan := t.scan })) ∧
      (s.scan.lock = .locked →
        (good → t.scan.lock = .locked ∧ t.scan.goodCount = s.scan.goodCount ∧ t.scan.averages = averagesAfterSos s ∧
          t.scan.window = .pixelWait ∧ regulatorTakesLine s t ∧ t.run = s.run ∧
          (s.frame.ctx = none → t.frame = s.frame ∧ t.ring = s.ring ∧ t.film = s.film)) ∧
        (¬good → t.scan.lock = .locking ∧ t.scan.goodCount = 0 ∧ t.scan.averages = List.replicate 16 0 ∧
          t.scan.window = .none ∧ t.power.gateOpen = false ∧ settleLosesLock s t ∧ frameLosesLock s t))

/-- An SOS in LOCKED while a frame is EXPOSING (R10, R11, R13): with the raster line outside the image rectangle the
line is blank and takes no slot; inside it a READY head slot without a tag is taken; in both cases the line's scan
steps are asked for and r rises. Any other head spoils the attempt at raster line r with the cause the head gives: the
occupancy recorded first, the retake decision, and the ring flushed with the cursor at line 0 of a pending retake or
parked (R19, R20). In every case the line event also reaches the Power Regulator (R101). -/
def Obligations.SosExposesARasterLine : Prop :=
  ∀ (s : State) (c : FrameCtx), sosReady s → s.scan.lock = .locked → intervalFits s → midRevolution s →
    s.frame.ctx = some c → c.state = .exposing →
    ∃ t, exec .sosEvent s = .next t ∧ lineScheduled s t ∧ t.scan.lock = .locked ∧ regulatorTakesLine s t ∧
      (c.r < c.card.y0 ∨ c.card.y0 + c.card.height ≤ c.r →
        t.dp = { s.dp with pending := some .blank, monitorRequest := t.dp.monitorRequest } ∧ t.ring = s.ring ∧
        t.film = s.film.lineSteps s.rb c.r ∧
        t.frame = { s.frame with
          ctx := some { c with r := c.r + 1, minOccupancy := min c.minOccupancy s.ring.slots.length } }) ∧
      (c.card.y0 ≤ c.r → c.r < c.card.y0 + c.card.height → ∀ h rest, s.ring.slots = h :: rest → h.state = .ready →
        h.tag = .none →
        t.dp = { s.dp with pending := some (.image h.readId), monitorRequest := t.dp.monitorRequest } ∧
        t.ring = { s.ring with slots := { h with state := .inUse } :: rest } ∧ t.film = s.film.lineSteps s.rb c.r ∧
        t.frame = { s.frame with
          ctx := some { c with r := c.r + 1, minOccupancy := min c.minOccupancy s.ring.slots.length } }) ∧
      (c.card.y0 ≤ c.r → c.r < c.card.y0 + c.card.height → ∀ cause,
        ((s.ring.slots = [] ∨ ∃ h rest, s.ring.slots = h :: rest ∧ (h.state = .filling ∨ h.state = .inUse)) ∧
          cause = .underrun ∨
         (∃ h rest, s.ring.slots = h :: rest ∧ h.state = .ready ∧ h.tag = .error) ∧ cause = .lineError ∨
         (∃ h rest, s.ring.slots = h :: rest ∧ h.state = .ready ∧ h.tag = .timeout) ∧ cause = .lineTimeout) →
        attemptSpoiled s t { c with minOccupancy := min c.minOccupancy s.ring.slots.length } cause c.r ∧
        t.film = s.film.finish s.rb .spoiled) ∧
      t.run = s.run ∧ t.regs = s.regs ∧ t.deck = s.deck ∧ t.seq = s.seq ∧ t.tables = s.tables

/-- The first line event that finds a PREPARING attempt's ring primed in RUNNING starts EXPOSING at raster line 0 (R7,
R9, R116): the position is the film counter, the attempts exposed rise, and the transport begins a frame cycle. The ring
is primed when the first min(HIGH, h) slots are READY, tagged or not, and each holds a line of the attempt (R57). Raster
line 0 is then exposed by this event (R10, R11): blank above the image, or, with y0 = 0, from the head slot, whose tag
spoils the attempt at once. A line event with the ring not primed, with the run not RUNNING, or in CLOSING leaves Frame
Exposure, the ring, the film and the Datapath's pending line as they were (R7, R14). The line event also reaches the
Power Regulator (R101). -/
def Obligations.SosStartsExposing : Prop :=
  ∀ (s : State) (c : FrameCtx), sosReady s → s.scan.lock = .locked → intervalFits s → midRevolution s →
    s.frame.ctx = some c →
    ∃ t, exec .sosEvent s = .next t ∧ lineScheduled s t ∧ regulatorTakesLine s t ∧
      (c.state = .closing ∨ c.state = .preparing ∧
          (s.run.state ≠ .running ∨ s.ring.slots.length < min s.rb.high c.card.height ∨
            ∃ x ∈ s.ring.slots.take (min s.rb.high c.card.height), x.state ≠ .ready ∨ x.owner ≠ attemptOf c) →
        t.frame = s.frame ∧ t.ring = s.ring ∧ t.film = s.film ∧ t.dp.pending = s.dp.pending ∧ t.bus = s.bus) ∧
      (c.state = .preparing → s.run.state = .running → s.film.state = .still →
        min s.rb.high c.card.height ≤ s.ring.slots.length →
        (∀ x ∈ s.ring.slots.take (min s.rb.high c.card.height), x.state = .ready ∧ x.owner = attemptOf c) →
        ∃ d, t.frame = { s.frame with ctx := some d } ∧ d.position = some s.film.counter ∧
          d.attemptsExposed = c.attemptsExposed + 1 ∧ d.firstFilm = some (c.firstFilm.getD s.film.counter) ∧
          d.clamps = .all { low := 0, high := 0 } ∧ d.lockWait = .stopped ∧
          d.powerLimited = (c.powerLimited || s.power.limited.r || s.power.limited.g || s.power.limited.b) ∧
          t.film.counter = s.film.counter ∧ t.film.perfCount = 0 ∧
          (0 < c.card.y0 ∨ c.card.height = 0 ∨
             (∃ h rest, s.ring.slots = h :: rest ∧ h.state = .ready ∧ h.tag = .none) →
            d.state = .exposing ∧ d.r = 1 ∧ t.film.state = .scanning ∧ t.film.owed = s.rb.film.ms / s.rb.height ∧
            t.film.cycle = some { forFrame := true, kind := .good, position := s.film.counter,
                                  edgeOn := s.rb.film.edgeEnable == 1 && !c.card.noEdge } ∧ t.bus = s.bus) ∧
          (0 < c.card.y0 ∨ c.card.height = 0 → t.dp.pending = some .blank ∧ t.ring = s.ring) ∧
          (c.card.y0 = 0 → 0 < c.card.height → ∀ h rest, s.ring.slots = h :: rest → h.state = .ready →
            (h.tag = .none → t.dp.pending = some (.image h.readId) ∧
              t.ring = { s.ring with slots := { h with state := .inUse } :: rest }) ∧
            (h.tag ≠ .none → d.state = .closing ∧ d.closeKind = .spoiled ∧ d.spoilLine = 0 ∧ d.r = 0 ∧
              d.lastSpoil = (if h.tag = .error then .lineError else .lineTimeout) ∧ t.dp.pending = none ∧
              (0 < s.rb.film.ms → t.film.state = .catchup ∧ t.film.owed = s.rb.film.ms ∧
                t.film.cycle = some { forFrame := true, kind := .spoiled, position := s.film.counter,
                                      edgeOn := s.rb.film.edgeEnable == 1 && !c.card.noEdge })))) ∧
      t.run = s.run ∧ t.regs = s.regs ∧ t.tables = s.tables

/-- The watchdog's expiry (R81, R89), in every state in which it runs (log entry 4): the line cut, the drive at 0, the
lock STOPPED with its values, the watchdog stopped, the gate CLOSED; the averages and the reference stand. Left from
LOCKED, the loss reaches the attempt in the context as a loss of LOCKED does, and a settle under way begins to wait
(R110). -/
def Obligations.WatchdogExpiryStops : Prop :=
  ∀ s : State, s.scan.watchdog ≠ none → GateLawful s →
    ∃ t, exec .watchdogExpiry s = .next t ∧
      t.scan = { s.scan with
        lock := .stopped, facet := 0, indexPending := false, intervalValid := false, rev := none, goodCount := 0
        watchdog := none, window := .none, mark := t.scan.mark, windowTimer := t.scan.windowTimer } ∧
      (s.scan.window ≠ .none → t.scan.mark = false ∧ t.scan.windowTimer = none ∧ t.power.marked = none) ∧
      (s.scan.window = .pixel ∨ s.scan.window = .monitor → t.dp.mode = .idle ∧ t.dp.drive = .all 0) ∧
      t.power.gateOpen = false ∧ t.power.pwr = s.power.pwr ∧ t.power.state = s.power.state ∧
      (s.scan.lock = .locked → settleLosesLock s t ∧ frameLosesLock s t) ∧
      (s.scan.lock ≠ .locked → t.power.settle = s.power.settle ∧ t.power.settleTimeout = s.power.settleTimeout ∧
        t.power.conversion = s.power.conversion ∧ t.run = s.run ∧ t.regs = s.regs ∧ t.frame = s.frame ∧ t.ring = s.ring ∧
        t.film = s.film ∧ t.deck = s.deck ∧ t.bus = s.bus) ∧
      (s.frame.ctx = none → t.run = s.run ∧ t.regs = s.regs ∧ t.deck = s.deck ∧ t.bus = s.bus) ∧
      t.tables = s.tables ∧ t.seq = s.seq ∧ t.rb = s.rb

/-- The events of the finer clocks and inputs, each with its whole effect: the motor reference changes level every
REFDIV ticks while RUNNING (R97), the step pulse ends (R115), qualified levels return to LOW and the fault level to
clear (R78, R119, R124), and a perf edge is counted, up to 255, in a moving state alone (R119). An index event marks
the next SOS while the reference is RUNNING and the lock is not STOPPED; with the reference or the lock STOPPED it
changes only the qualified level (R79, R83). The runs of samples start at 0 (log entry 25). That an edge right after a
leader dwell end which began the next cycle counts in that cycle is the model's choice (log entry 36). -/
def Obligations.ClockAndLevelEvents : Prop :=
  ∀ s : State,
    (s.scan.running = true → exec .motorReferenceToggle s = .next
      { s with scan.refHigh := !s.scan.refHigh, scan.refTimer := some s.rb.polygon.refdiv }) ∧
    exec .stepPulseEnd s = .next { s with film.stepHigh := false, film.pulseTimer := none } ∧
    (s.scan.sosLevel = true →
      exec (.qualifiedLevelFall .startOfScan) s = .next { s with scan.sosLevel := false, scan.sosRun := 0 }) ∧
    (s.scan.indexLevel = true →
      exec (.qualifiedLevelFall .index) s = .next { s with scan.indexLevel := false, scan.indexRun := 0 }) ∧
    (s.film.perfLevel = true →
      exec (.qualifiedLevelFall .perforation) s = .next { s with film.perfLevel := false, film.perfRun := 0 }) ∧
    (s.film.faultLevel = true →
      exec .faultLevelClear s = .next { s with film.faultLevel := false, film.faultRun := 0 }) ∧
    (s.film.perfLevel = false → s.film.state = .still ∨ s.film.state = .faulted →
      exec .perfEdge s = .next { s with film.perfLevel := true, film.perfRun := 0 }) ∧
    (s.film.perfLevel = false → s.film.state ≠ .still → s.film.state ≠ .faulted →
      exec .perfEdge s = .next
        { s with
          film.perfLevel := true, film.perfRun := 0
          film.perfCount := if s.film.perfCount < 255 then s.film.perfCount + 1 else 255 }) ∧
    (s.scan.indexLevel = false → s.scan.running = true → s.scan.lock ≠ .stopped →
      exec .indexEvent s = .next
        { s with scan.indexLevel := true, scan.indexRun := 0, scan.indexPending := true }) ∧
    (s.scan.indexLevel = false → s.scan.running = false ∨ s.scan.lock = .stopped →
      exec .indexEvent s = .next { s with scan.indexLevel := true, scan.indexRun := 0 })

/-! ## Windows, pixels and power (02_exposure_arithmetic.md, 06_laser_gate_and_power_regulation.md) -/

/-- A pixel window opens (R30, R31): PWR is latched, the line clamp counters are 0, the pending line is taken and
cleared, and with no FRAME card EXPOSING the window is DARK; the window lasts 4096 times the divisor. The next
position and its timer are the model's own fields (log entry 16). The monitor window of a marked line opens (R42,
R93): the requested channel is driven at DRIVE[ch][LREF + PWR], limited, or at 0 while the DRIVE copy is INVALID or
with no request; the others at 0. Its end darkens the inputs, and the ADC's sample makes the marked sample the
conversion (R43, R102). That the code is the photodiode pin at the window's end is the model's choice (log entry 20).
-/
def Obligations.WindowsOpen : Prop :=
  (∀ s : State, s.scan.window = .pixelWait →
    ∃ mode slot curve x0 w, exec .pixelWindowOpen s = .next
      { s with
        scan.window := .pixel, scan.windowTimer := some (4096 * divisorOf s.rb)
        dp := { s.dp with
          mode := mode, pending := none, lineSlot := slot, curveSlot := curve, x0 := x0, w := w, latched := s.power.pwr
          clamps := .all { low := 0, high := 0 }, nextPosition := 0, positionTimer := some 0, drive := .all 0 } } ∧
      (s.dp.pending = none → mode = .dark ∧ slot = none) ∧
      ((∀ c, s.frame.ctx = some c → c.state ≠ .exposing) → mode = .dark ∧ slot = none) ∧
      (∀ c, s.frame.ctx = some c → c.state = .exposing →
        (s.dp.pending = some .blank → mode = .blank ∧ slot = none) ∧
        (∀ id, s.dp.pending = some (.image id) →
          mode = .image ∧ slot = some id ∧ curve = c.card.stock ∧ x0 = c.card.x0 ∧ w = c.card.width))) ∧
  ∀ s : State,
    (s.scan.window = .monitorWait → ∃ d, exec .monitorWindowOpen s = .next
        { s with scan.window := .monitor, scan.windowTimer := some s.rb.line.mlen, dp := d } ∧
      d = { s.dp with
            mode := .monitor, monitorChannel := s.dp.monitorRequest, monitorRequest := none
            monitorDrive := d.monitorDrive, drive := d.drive } ∧
      (s.dp.monitorRequest = none → d.drive = .all 0) ∧
      (∀ ch, s.dp.monitorRequest = some ch → d.drive = (Tri.all 0).put ch d.monitorDrive ∧
        (s.tables.active.drive.valid = true → s.tables.active.drive.words.length = 12288 →
          d.monitorDrive = driveAt s.tables.active.drive ch ((s.rb.power.lref.get ch : Int) + s.power.pwr.get ch)) ∧
        (s.tables.active.drive.valid = false → d.monitorDrive = 0))) ∧
    (∀ m, s.scan.window = .monitor → s.power.marked = some m → exec .monitorWindowEnd s = .next
        { s with
          scan.window := .none, scan.mark := false, scan.windowTimer := none
          dp.mode := .idle, dp.monitorChannel := none, dp.drive := .all 0
          power.marked := none
          power.conversion := some { sample := m, reading := s.pins.photodiode, timer := 200 } })

/-- A raster position begins (R28, R31 to R37, R40, R41). Inside the image span of an IMAGE window each channel is
driven at the drive entry of its limited sum, and one clamp is counted when the sum lies outside 0..4095; everywhere
else all three are driven at 0 and nothing is counted. The next position follows after one divisor. -/
def Obligations.RasterPositionIsDriven : Prop :=
  ∀ s : State, s.scan.window = .pixel → s.dp.nextPosition < 4096 →
    ∃ d, exec .rasterPositionInterval s = .next { s with dp := d } ∧
      d.nextPosition = s.dp.nextPosition + 1 ∧
      (s.dp.nextPosition < 4095 → d.positionTimer = some (divisorOf s.rb)) ∧
      (s.dp.nextPosition = 4095 → d.positionTimer = none) ∧
      (∀ slot, s.dp.mode = .image → s.dp.x0 ≤ s.dp.nextPosition → s.dp.nextPosition < s.dp.x0 + s.dp.w →
        tablesWhole s.tables s.dp.curveSlot → s.dp.lineSlot = some slot.readId → s.ring.slots.head? = some slot →
        s.dp.nextPosition - s.dp.x0 < slot.data.length →
        ∀ ch, ∀ sum, sum = exposureSum (s.tables.active.get (curveTarget s.dp.curveSlot)) s.tables.active.shade ch
            (codeBits (slot.data.getD (s.dp.nextPosition - s.dp.x0) 0) ch) s.dp.nextPosition (s.dp.latched.get ch) →
          d.drive.get ch = driveAt s.tables.active.drive ch sum ∧
          d.clamps.get ch = clampsAfter (s.dp.clamps.get ch) sum) ∧
      (s.dp.mode ≠ .image ∨ s.dp.nextPosition < s.dp.x0 ∨ s.dp.x0 + s.dp.w ≤ s.dp.nextPosition →
        d.drive = .all 0 ∧ d.clamps = s.dp.clamps) ∧
      d = { s.dp with nextPosition := d.nextPosition, positionTimer := d.positionTimer, drive := d.drive, clamps := d.clamps }

/-- A pixel window's end (R12, R38, R46, R92, R93): the inputs go to 0 and the mode IDLE; a marked line waits MGAP
ticks for its monitor window. A BLANK or IMAGE line that is not the last of the raster leaves the attempt EXPOSING,
and an IMAGE line returns its slot and hands on its clamp counts. After the return the fetch switch is OFF at HIGH, ON
at an occupancy of LOW or less, and as it was between them (R47), and R48 is examined again. The end of raster line H
- 1, blank or image, closes an EXPOSING attempt with kind GOOD and asks the transport to finish (R14, R117). -/
def Obligations.PixelWindowEnds : Prop :=
  ∀ s : State, s.scan.window = .pixel →
    ∃ t, exec .pixelWindowEnd s = .next t ∧
      t.scan = { s.scan with
        window := if s.scan.mark then .monitorWait else .none
        windowTimer := if s.scan.mark then some s.rb.line.mgap else none } ∧
      t.dp = { s.dp with mode := .idle, lineSlot := none, positionTimer := none, drive := .all 0 } ∧
      (s.dp.mode = .dark → t.frame = s.frame ∧ t.ring = s.ring ∧ t.film = s.film) ∧
      (∀ c, s.dp.mode = .blank → s.frame.ctx = some c → c.r < s.rb.height →
        t.frame = s.frame ∧ t.ring = s.ring ∧ t.film = s.film) ∧
      (∀ c id, s.dp.mode = .image → s.dp.lineSlot = some id → s.frame.ctx = some c →
        (∃ d, t.frame = { s.frame with ctx := some d } ∧ d.r = c.r ∧ (c.r < s.rb.height → d.state = c.state) ∧
          ∀ ch, (d.clamps.get ch).low = (c.clamps.get ch).low + (s.dp.clamps.get ch).low ∧
            (d.clamps.get ch).high = (c.clamps.get ch).high + (s.dp.clamps.get ch).high) ∧
        (∀ left g, left = s.ring.slots.filter (fun x => x.readId != id) →
          g = { s.ring with
            slots := left
            switchOn := if s.rb.high ≤ left.length then false else if left.length ≤ s.rb.low then true
              else s.ring.switchOn } →
          t.ring = ({ s with ring := g } : State).fetch.ring ∧ t.bus = ({ s with ring := g } : State).fetch.bus) ∧
        (c.r < s.rb.height → t.film = s.film)) ∧
      (∀ c, s.dp.mode = .blank ∨ s.dp.mode = .image → s.frame.ctx = some c → c.state = .exposing → s.rb.height ≤ c.r →
        (∃ d, t.frame = { s.frame with ctx := some d } ∧ d.state = .closing ∧ d.closeKind = .good ∧ d.r = c.r) ∧
        t.film = s.film.finish s.rb .good) ∧
      t.run = s.run ∧ t.regs = s.regs ∧ t.power = s.power ∧ t.tables = s.tables ∧ t.seq = s.seq

/-- A valid REGULATE reading other than 0 (R102, R103, R104): the dark count of its channel becomes 0 and PWR moves by
STEP toward the band, limited to -LIM..LIM; a cut step sets the limited flag, a value inside the limit clears it. A
flag's rise raises POWER_LIMIT, marks an EXPOSING card and, under the policy, sets the pending halt; otherwise nothing
else changes. -/
def Obligations.RegulateReadingMovesPower : Prop :=
  ∀ (s : State) (c : Conversion) (m : BitVec 10) (ch : Channel), s.power.conversion = some c →
    c.sample = { channel := ch, purpose := .regulate, valid := true } → s.power.state = .settled →
    (s.run.state = .running ∨ s.run.state = .waiting ∨ s.run.state = .held) → m ≠ 0 →
    ∀ (v w : Int) (f : Bool),
      v = s.power.pwr.get ch +
        (if (m.toNat : Int) < s.rb.power.tgt.get ch - s.rb.power.db then (s.rb.power.step : Int)
         else if (s.rb.power.tgt.get ch + s.rb.power.db : Int) < m.toNat then -(s.rb.power.step : Int) else 0) →
      w = max (-(s.rb.power.lim : Int)) (min (s.rb.power.lim : Int) v) →
      f = (if w ≠ v then true else if w.natAbs < s.rb.power.lim then false else s.power.limited.get ch) →
      ∃ t, exec (.conversionCompletion m) s = .next t ∧
        t.power = { s.power with
          conversion := none, dark := s.power.dark.put ch 0, pwr := s.power.pwr.put ch w
          limited := s.power.limited.put ch f } ∧
        (w = v ∨ s.power.limited.get ch = true → t = { s with power := t.power }) ∧
        (w ≠ v → s.power.limited.get ch = false →
          t.regs.causes = s.regs.causes ||| 16 ∧
          t.run = { s.run with
            powerLimitPending := s.run.powerLimitPending || s.rb.power.haltOnLimit == 1 } ∧
          (∀ x, s.frame.ctx = some x → x.state = .exposing →
            t.frame = { s.frame with ctx := some { x with powerLimited := true } }) ∧
          (s.frame.ctx = none → t.frame = s.frame) ∧ t.film = s.film ∧ t.scan = s.scan ∧ t.dp = s.dp ∧ t.bus = s.bus)

/-- A dark REGULATE reading in RUNNING, WAITING or HELD counts and moves no PWR; the third in a row sets the count to 0
and makes a LASER_DARK event (R105, R106). With no FRAME card in the context and the film STILL the run halts at once,
and with the film moving the halt waits. A FRAME card takes it by its attempt: PREPARING halts at once (R8), EXPOSING is
spoiled, the ring flushed to its pending retake (R19, R20), and CLOSING fills an empty halt after cycle (R14). What the
halt leaves, the dark counts restarted among it, is HaltsAndLockWaits. A voided reading, and one whose purpose no longer
fits, changes nothing but that the conversion is over (R102). -/
def Obligations.DarkAndDiscardedReadings : Prop :=
  ∀ (s : State) (c : Conversion), s.power.conversion = some c →
    (c.sample.valid = false ∨
       (c.sample.purpose = .regulate ∧ (s.power.state ≠ .settled ∨ ¬regulating s)) ∨
       (c.sample.purpose = .settle ∧ (s.power.state ≠ .settling ∨ s.power.settle.channel ≠ c.sample.channel)) →
      ∀ m, exec (.conversionCompletion m) s = .next { s with power.conversion := none }) ∧
    (c.sample.valid = true → c.sample.purpose = .regulate → s.power.state = .settled → regulating s →
      (s.power.dark.get c.sample.channel < 2 →
        exec (.conversionCompletion 0) s = .next
          { s with
            power.conversion := none
            power.dark := s.power.dark.put c.sample.channel (s.power.dark.get c.sample.channel + 1) }) ∧
      (s.power.dark.get c.sample.channel = 2 → ∀ u : State,
        u = { s with power := { s.power with
          conversion := none, dark := s.power.dark.put c.sample.channel 0 } } →
        (s.frame.ctx = none →
          (s.film.state = .still → exec (.conversionCompletion 0) s = .next (u.halt .laserDark)) ∧
          (s.film.state ≠ .still →
            exec (.conversionCompletion 0) s = .next { u with power.darkHaltPending := true })) ∧
        (∀ x, s.frame.ctx = some x →
          (x.state = .preparing → exec (.conversionCompletion 0) s = .next (u.halt .laserDark)) ∧
          (x.state = .closing → exec (.conversionCompletion 0) s = .next
            { u with frame.ctx := some { x with
                haltAfter := if x.haltAfter = .none then .laserDark else x.haltAfter } }) ∧
          (x.state = .exposing → ∃ t, exec (.conversionCompletion 0) s = .next t ∧ t.power = u.power ∧ t.run = s.run ∧
            attemptSpoiled s t x .laserDark (x.r - 1) ∧ t.film = s.film.finish s.rb .spoiled))))

/-- A valid SETTLE reading (R108, R109): one attempt more; in band it counts, out of band the count is 0 and PWR moves
by SSTEP toward the target within -LIM..LIM. At NEED the channel R or G hands the settle to the next with its attempts
as used count, and blue ends it SETTLED, which ends PRIMING stage 6 or finishes the CALIBRATE card with PWR and the
used counts (R112), after which the run goes on by items 1 and 3 to 5 of R70; at AMAX without it the settle fails, the
regulator is UNSETTLED and the run halts with SETTLE_FAIL. A dark reading is out of band and steps up for every target
(DEDUCED, log entry 33). That the wait and the lock timeout of a settle end when it reaches SETTLED is log entry 21
(DEDUCED). -/
def Obligations.SettleReadingSteps : Prop :=
  ∀ (s : State) (c : Conversion) (m : BitVec 10) (ch : Channel), s.power.conversion = some c →
    c.sample = { channel := ch, purpose := .settle, valid := true } → s.power.state = .settling →
    s.power.settle.channel = ch →
    ∀ (n : Nat) (w : Int),
      n = (if m ≠ 0 ∧ ((m.toNat : Int) - s.rb.power.tgt.get ch).natAbs ≤ s.rb.power.db then s.power.settle.inBand + 1 else 0) →
      w = (if m ≠ 0 ∧ ((m.toNat : Int) - s.rb.power.tgt.get ch).natAbs ≤ s.rb.power.db then s.power.pwr.get ch
           else max (-(s.rb.power.lim : Int)) (min (s.rb.power.lim : Int)
             (s.power.pwr.get ch + (if m.toNat < s.rb.power.tgt.get ch then (s.rb.power.sstep : Int)
                                    else -(s.rb.power.sstep : Int))))) →
      (n < s.rb.power.need → s.power.settle.attempts + 1 < s.rb.power.amax →
        exec (.conversionCompletion m) s = .next
          { s with power := { s.power with
              conversion := none, pwr := s.power.pwr.put ch w
              settle := { s.power.settle with attempts := s.power.settle.attempts + 1, inBand := n } } }) ∧
      (s.rb.power.need ≤ n → ch ≠ .blue → exec (.conversionCompletion m) s = .next
          { s with power := { s.power with
              conversion := none, pwr := s.power.pwr.put ch w
              settle := { s.power.settle with
                channel := if ch = .red then .green else .blue, attempts := 0, inBand := 0
                used := s.power.settle.used.put ch (s.power.settle.attempts + 1) } } }) ∧
      (n < s.rb.power.need → s.rb.power.amax ≤ s.power.settle.attempts + 1 → s.run.state.takesHalt = true →
        ∃ t, exec (.conversionCompletion m) s = .next t ∧ t.power.state = .unsettled ∧
          t.power.pwr = s.power.pwr.put ch w ∧ t.run.state = .halted ∧ t.run.haltCause = .settleFail ∧
          t.power.gateOpen = false ∧ t.regs.causes.getLsbD 3 = true ∧ t.film = s.film ∧ t.frame = s.frame) ∧
      (s.rb.power.need ≤ n → ch = .blue → s.run.state = .priming → s.run.stage = 6 →
        ∃ t, exec (.conversionCompletion m) s = .next t ∧ t.power.state = .settled ∧ t.power.cadence = 0 ∧
          t.power.nextChannel = .red ∧ t.power.settle.used = s.power.settle.used.put .blue (s.power.settle.attempts + 1) ∧
          t.run = { s.run with stage := 7 } ∧ t.deck.seek = .reading ∧ t.film = s.film ∧ t.frame = s.frame) ∧
      (∀ d, s.rb.power.need ≤ n → ch = .blue → s.run.state = .running → working s .calibrate → s.deck.taken = some d →
        s.deck.finishedCount ≤ s.seq.current.index → ∃ u t, exec (.conversionCompletion m) s = .next t ∧
          cardFinishes s u d
            { outcome := .settled, reason := .none, field := 0
              kind := .calibrate (s.power.pwr.put .blue w) (s.power.settle.used.put .blue (s.power.settle.attempts + 1)) }
            s.film.counter false ∧
          u.power = { s.power with
            conversion := none, pwr := s.power.pwr.put .blue w, state := .settled, cadence := 0, nextChannel := .red
            settleTimeout := none
            settle := { channel := .blue, attempts := s.power.settle.attempts + 1, inBand := n, waiting := false
                        used := s.power.settle.used.put .blue (s.power.settle.attempts + 1) } } ∧
          u.film = s.film ∧ u.frame = s.frame ∧ u.scan = s.scan ∧ u.tables = s.tables ∧ finishLeads u t)

/-- A halt (R164, R98): taken in PRIMING, RUNNING, WAITING and HELD, with its cause, its resume point, no pause and no
lock wait pending, the gate CLOSED and HALT raised; in HALTED only TRANSPORT replaces the cause; in ENDING and IDLE
nothing. The gate's closing voids a marked sample whose monitor window is open, and no conversion (R102). It ends a
pending dark halt, and a LASER_DARK halt restarts the dark counts of all channels from 0 (R106).
The three lock waits expire (R7, R110, R160): with the lock not LOCKED the run halts with LOCK_TIMEOUT; with it LOCKED
only the wait is over. -/
def Obligations.HaltsAndLockWaits : Prop :=
  (∀ (s : State) (cause : HaltCause),
    (s.run.state = .priming ∨ s.run.state = .running ∨ s.run.state = .waiting ∨ s.run.state = .held →
      (s.halt cause).run = { s.run with
        state := .halted, haltCause := cause, pausePending := false, lockWait := none
        resume := if s.run.state = .priming then .priming s.run.stage
                  else if s.run.state = .waiting ∨ s.deck.taken = none then .waiting else .running } ∧
      (s.halt cause).power.gateOpen = false ∧ (s.halt cause).regs.causes = s.regs.causes ||| 8 ∧
      (s.halt cause).seq = s.seq ∧ (s.halt cause).frame = s.frame ∧ (s.halt cause).ring = s.ring ∧
      (s.halt cause).film = s.film ∧ (s.halt cause).scan = s.scan ∧ (s.halt cause).tables = s.tables ∧
      (s.halt cause).dp = s.dp ∧ (s.halt cause).deck.taken = s.deck.taken ∧
      (s.halt cause).power.darkHaltPending = false ∧ (s.halt cause).power.state = s.power.state ∧
      (s.halt cause).power.marked = markedAtClosing s ∧ (s.halt cause).power.conversion = s.power.conversion ∧
      (s.halt cause).power.dark = if cause = .laserDark then .all 0 else s.power.dark) ∧
    (s.run.state = .halted → cause ≠ .transport → s.halt cause = s) ∧
    (s.run.state = .halted →
      (s.halt .transport).run = { s.run with haltCause := .transport } ∧
      (s.halt .transport).regs.causes = s.regs.causes ||| 8) ∧
    (s.run.state = .idle ∨ s.run.state = .ending → s.halt cause = s)) ∧
  ∀ s : State,
    (∀ c n, s.frame.ctx = some c → c.lockWait = .running n →
      exec .frameLockWaitExpiry s = .next
        (if s.scan.lock = .locked then { s with frame.ctx := some { c with lockWait := .expired } }
         else ({ s with frame.ctx := some { c with lockWait := .expired } } : State).halt .lockTimeout)) ∧
    (s.run.lockWait ≠ none →
      exec .primingLockWaitExpiry s = .next
        (if s.scan.lock = .locked then { s with run.lockWait := none }
         else ({ s with run.lockWait := none } : State).halt .lockTimeout)) ∧
    (s.power.settleTimeout ≠ none →
      exec .settleLockTimeoutExpiry s = .next
        (if s.scan.lock = .locked then { s with power.settleTimeout := none }
         else ({ s with power.settleTimeout := none } : State).halt .lockTimeout))

/-! ## Lines, tables, decks and cards (03, 04, 08, 09) -/

/-- When the switch is ON, fewer than 2 reads are outstanding, the occupancy is below HIGH and the cursor is ACTIVE,
the engine asks for the cursor's next line: w times 4 bytes at the image address plus n strides, a FILLING slot at the
tail, an entry with its timer, and the cursor past the line. Past the card's last line the cursor is SPENT, or crosses
at once to line 0 of attempt 1 of a FRAME card that the lookahead record shows GOOD, when its target is an attempt of
the card in the context (R56). Otherwise nothing is asked for (R48); two examinations make the whole one. A part is
recorded against its read and ends nothing. The last part, or the expiry, takes the entry from the list; a linked slot
becomes READY with the line's words when no part failed, and otherwise with 0s and tag ERROR, or TIMEOUT for an expiry
without an error part; a voided read changes no slot (R49 to R53). Further lines may then be asked for. -/
def Obligations.LineReadsBeginAndEnd : Prop :=
  (∀ s : State,
    (s.ring.switchOn = true → s.ring.reads.length < 2 → s.ring.slots.length < s.rb.high → s.ring.cursor.state = .active →
      s.fetchOne.bus = s.bus ++
        [.read s.nextId (s.ring.cursor.image + BitVec.ofNat 64 (s.ring.cursor.next * s.ring.cursor.stride))
          (s.ring.cursor.width * 4)] ∧
      s.fetchOne.ring.slots = s.ring.slots ++
        [{ readId := s.nextId, state := .filling, owner := s.ring.cursor.owner, line := s.ring.cursor.next, tag := .none
           words := s.ring.cursor.width, data := [] }] ∧
      s.fetchOne.ring.reads = s.ring.reads ++
        [{ id := s.nextId, linked := true, parts := 0, errorSeen := false, timer := s.rb.readLimit * 1000 }] ∧
      s.fetchOne.ring.switchOn = decide (s.ring.slots.length + 1 < s.rb.high) ∧
      s.fetchOne.nextId = s.nextId + 1 ∧
      (s.ring.cursor.next + 1 < s.ring.cursor.height →
        s.fetchOne.ring.cursor = { s.ring.cursor with next := s.ring.cursor.next + 1 }) ∧
      (s.ring.cursor.height ≤ s.ring.cursor.next + 1 →
        (∀ k, mayCross s k → s.fetchOne.ring.cursor = crossedTo s k) ∧
        ((∀ k, ¬mayCross s k) →
          s.fetchOne.ring.cursor = { s.ring.cursor with next := s.ring.cursor.next + 1, state := .spent })) ∧
      s.fetchOne = { s with ring := s.fetchOne.ring, bus := s.fetchOne.bus, nextId := s.fetchOne.nextId }) ∧
    (s.ring.switchOn = false ∨ 2 ≤ s.ring.reads.length ∨ s.rb.high ≤ s.ring.slots.length ∨
        s.ring.cursor.state ≠ .active → s.fetchOne = s) ∧
    s.fetch = s.fetchOne.fetchOne) ∧
  ∀ (s : State) (e : LineRead), s.ring.entry e.id = some e →
    (∀ err, exec (.lineReadPart e.id err) s = .next
      { s with ring.reads := s.ring.reads.map fun x =>
          if x.id = e.id then { x with parts := x.parts + 1, errorSeen := x.errorSeen || err } else x }) ∧
    (∀ c, (∃ a, c = .lineReadComplete e.id a) ∨ c = .lineReadTimerExpiry e.id →
      ∃ t, exec c s = .next t ∧ (s.ring.reads.filter fun x => x.id != e.id) <+: t.ring.reads ∧
        (e.linked = false → s.ring.slots <+: t.ring.slots) ∧
        (e.linked = true → ∃ f : Slot → Slot,
          (s.ring.slots.map fun x => if x.readId = e.id then f x else x) <+: t.ring.slots ∧
          ∀ x, (f x).state = .ready ∧ (f x).owner = x.owner ∧ (f x).line = x.line ∧ (f x).words = x.words ∧
            (∀ data, c = .lineReadComplete e.id (.good data) → data.length = x.words * 4 → e.errorSeen = false →
              (f x).tag = .none ∧ (f x).data = words32 data) ∧
            (c = .lineReadComplete e.id .error ∨ (e.errorSeen = true) →
              (f x).tag = .error ∧ (f x).data = List.replicate x.words 0) ∧
            (c = .lineReadTimerExpiry e.id → e.errorSeen = false →
              (f x).tag = .timeout ∧ (f x).data = List.replicate x.words 0)) ∧
        t.run = s.run ∧ t.regs = s.regs ∧ t.frame = s.frame ∧ t.dp = s.dp ∧ t.tables = s.tables ∧ t.scan = s.scan ∧
        t.power = s.power ∧ t.film = s.film ∧ t.deck = s.deck ∧ t.seq = s.seq)

/-- Load reads (R66, R67, R70, R71). A good read of the load in progress that is not its last puts its words at their
positions and lets the next read be issued; a failure or an expiry sets failed, and no further read is issued. The
last end of a load clears it and finishes its card: STAGED with the image sum when the image passes the checks, which
makes the staged copy VALID; and LOAD_FAILED with the detail, the sum but for READ_ERROR, and the word position of
RANGE and ORDER, which makes it INVALID. From a STAGED card the run goes on by items 1 and 3 to 5 of R70, a pending
STOP first; from a LOAD_FAILED one a pending STOP ends the run, and else it halts with TABLE_LOAD. In a halt only item
1 is taken. -/
def Obligations.LoadReadsEnd : Prop :=
  ∀ (s : State) (e : LoadRead) (l : Load), s.tables.entry e.id = some e → e.live = true → s.tables.load = some l →
    (∀ data, l.failed = false → data.length = e.bytes → l.ended + 1 < l.issued →
      ∃ t, exec (.loadReadComplete e.id (.good data)) s = .next t ∧
        t.tables.staged = s.tables.staged.put l.target
          { (s.tables.staged.get l.target) with
            words := writeWords (s.tables.staged.get l.target).words (256 * e.number) (words16 data) } ∧
        t.tables.active = s.tables.active ∧ (s.tables.reads.filter fun x => x.id != e.id) <+: t.tables.reads ∧
        (∃ n, t.tables.load = some { l with ended := l.ended + 1, issued := n } ∧ l.issued ≤ n) ∧
        t.run = s.run ∧ t.seq = s.seq ∧ t.deck = s.deck ∧ t.frame = s.frame ∧ t.film = s.film) ∧
    (∀ c, (c = .loadReadComplete e.id .error ∨ c = .loadReadExpiry e.id ∨
        l.failed = true ∧ ∃ data, c = .loadReadComplete e.id (.good data)) → l.ended + 1 < l.issued → exec c s = .next
      { s with
        tables.load := some { l with ended := l.ended + 1, failed := true }
        tables.reads := s.tables.reads.filter fun x => x.id != e.id }) ∧
    (∀ (c : Instr) (d : Deck) (detail : Detail × Option Nat) (words : List (BitVec 16)), l.ended + 1 = l.issued →
      s.deck.taken = some d → s.deck.finishedCount ≤ s.seq.current.index →
      (∃ data, c = .loadReadComplete e.id (.good data) ∧ l.failed = false ∧ data.length = e.bytes ∧
          l.issued = imageReads l.target ∧
          words = writeWords (s.tables.staged.get l.target).words (256 * e.number) (words16 data) ∧
          detail = tableChecks l.target words l.expected false) ∨
        ((c = .loadReadComplete e.id .error ∨ c = .loadReadExpiry e.id ∨
            l.failed = true ∧ ∃ data, c = .loadReadComplete e.id (.good data)) ∧ detail = (.readError, none)) →
      ∃ u t, exec c s = .next t ∧
        cardFinishes s u d
          { outcome := if detail.1 = .none then .staged else .loadFailed, reason := .none, field := 0
            kind := .table detail.1 (if detail.1 = .readError then 0 else sumOfImage l.target words) detail.2 }
          s.film.counter false ∧
        u.tables = { s.tables with
          load := none, reads := s.tables.reads.filter fun x => x.id != e.id
          staged := s.tables.staged.put l.target
            (if detail.1 = .none then { state := .valid, words := words } else { state := .invalid, words := [] }) } ∧
        u.frame = s.frame ∧ u.film = s.film ∧ u.power = s.power ∧ u.scan = s.scan ∧ u.ring = s.ring ∧ u.regs = s.regs ∧
        (detail.1 = .none → finishLeads u t) ∧
        (detail.1 ≠ .none →
          (s.run.stopPending = true → t = u.endRun) ∧
          (s.run.stopPending = false → (s.run.state = .running → t = u.halt .tableLoad) ∧
            (s.run.state ≠ .running → t = u))))

/-- The checks of a load in their order (R67): a failed read first, then the sum without pad words, the range (R68),
the order (R69); the first that fails is the detail, RANGE and ORDER name the lowest word position that fails, and an
image that passes all four reports none. -/
def Obligations.TableChecksInOrder : Prop :=
  ∀ (g : Target) (ws : List (BitVec 16)) (expected : Nat) (failed : Bool),
    (failed = true → tableChecks g ws expected failed = (.readError, none)) ∧
    (failed = false → ((ws.take (checkedWords g)).map BitVec.toNat).sum % 2 ^ 32 ≠ expected →
      tableChecks g ws expected failed = (.sum, none)) ∧
    (failed = false → ((ws.take (checkedWords g)).map BitVec.toNat).sum % 2 ^ 32 = expected →
      (∀ k, tableChecks g ws expected failed = (.range, some k) ↔
        k < (ws.take (checkedWords g)).length ∧ ¬fieldRange g k (ws.getD k 0) ∧
        ∀ j < k, fieldRange g j (ws.getD j 0)) ∧
      ((∀ j < (ws.take (checkedWords g)).length, fieldRange g j (ws.getD j 0)) →
        (∀ k, tableChecks g ws expected failed = (.order, some k) ↔
          decreasesAt g ws k ∧ ∀ j < k, ¬decreasesAt g ws j) ∧
        ((∀ j, ¬decreasesAt g ws j) → tableChecks g ws expected failed = (.none, none)))) ∧
    checkedWords g = (match g with | .drive => 12288 | .shade => 99 | .facet => 16 | _ => 3075)

/-- A swap (R72, R73), whole and for all seven targets at once: a VALID staged copy becomes the active copy and is
consumed; any other staged copy leaves its target as it was. A new DRIVE copy sets PWR to 0 on all channels, clears
the limited flags, makes the regulator UNSETTLED, and voids the samples in flight; without one the regulator stands.
-/
def Obligations.SwapBringsTablesIn : Prop :=
  ∀ s : State,
    (∀ g : Target,
      ((s.tables.staged.get g).state = .valid →
        s.swapTables.tables.active.get g = { valid := true, words := (s.tables.staged.get g).words } ∧
        (s.swapTables.tables.staged.get g).state = .invalid) ∧
      ((s.tables.staged.get g).state ≠ .valid →
        s.swapTables.tables.active.get g = s.tables.active.get g ∧
        s.swapTables.tables.staged.get g = s.tables.staged.get g)) ∧
    (s.tables.staged.drive.state = .valid →
      s.swapTables.power = { s.power with
        state := .unsettled, pwr := .all 0, limited := .all false
        marked := s.power.marked.map fun m => { m with valid := false }
        conversion := s.power.conversion.map fun c => { c with sample := { c.sample with valid := false } } }) ∧
    (s.tables.staged.drive.state ≠ .valid → s.swapTables.power = s.power) ∧
    s.swapTables = { s with tables := s.swapTables.tables, power := s.swapTables.power } ∧
    s.swapTables.tables.load = s.tables.load ∧ s.swapTables.tables.reads = s.tables.reads ∧
    s.swapTables.tables.dump = s.tables.dump

/-- DUMP (R74, R75, R136). A GOOD DUMP card is acted on, in each of the ways of `cardActedOn`: the dump of a VALID
copy begins without a write, and with an INVALID copy the card finishes NOTHING_TO_DUMP without an image, and the run
goes on by items 1 and 3 to 5 of R70. A dump's writes of 512 bytes, the last with what remains, make up the image with
its pad words 0. Each tick of a state with nothing due issues the next of them (the pace is the model's choice, log
entry 13), and after the last one the card finishes DUMPED with the image sum and the words written: its result, the
finished count and the refresh follow the image, and the run goes on by items 1 and 3 to 5 of R70; in a halt only item
1 is taken (R75). -/
def Obligations.DumpWritesTheImage : Prop :=
  (∀ (g : Target) (c : ActiveCopy), c.words.length = imageWords g →
    (List.range (imageReads g)).flatMap (dumpBytes g c) =
      bytes16 (c.words.take (checkedWords g) ++ List.replicate (imageWords g - checkedWords g) 0) ∧
    ∀ k < imageReads g, (dumpBytes g c k).length = min 512 (2 * imageWords g - 512 * k)) ∧
  (∀ (s u : State) (d : Deck) (g : Target) (code : Nat) (dest : Addr) (answer : Host.Outcome State Fault Refusal),
    cardActedOn s d (.good (.dump code dest)) u answer → targetOf code = some g →
    ((u.tables.active.get g).valid = true →
      answer = .next { u with tables.dump := some { target := g, dest := dest, issued := 0 } }) ∧
    ((u.tables.active.get g).valid = false → u.deck.finishedCount ≤ u.seq.current.index →
      u.seq.nextIndex ≤ u.deck.cardCount → ∃ v t, answer = .next t ∧ finishLeads v t ∧
        cardFinishesAlone u v d { outcome := .nothingToDump, reason := .none, field := 0, kind := .dump 0 0 })) ∧
  (∀ (s : State) (d : Dump), s.tables.dump = some d → s.pending = [] → due s = [] →
    (d.issued + 1 < imageReads d.target → step s = .next
      { s.tick with
        bus := s.bus ++
          [.write (d.dest + BitVec.ofNat 64 (512 * d.issued)) (dumpBytes d.target (s.tables.active.get d.target) d.issued)]
        tables := { s.tick.tables with dump := some { d with issued := d.issued + 1 } } }) ∧
    (∀ k w, imageReads d.target ≤ d.issued + 1 → (s.tables.active.get d.target).valid = true → s.deck.taken = some k →
      s.deck.finishedCount ≤ s.seq.current.index →
      w = { s.tick with
        bus := s.bus ++
          [.write (d.dest + BitVec.ofNat 64 (512 * d.issued)) (dumpBytes d.target (s.tables.active.get d.target) d.issued)]
        tables := { s.tick.tables with dump := none } } →
      ∃ u t, step s = .next t ∧ finishLeads u t ∧
        cardFinishesAlone w u k
          { outcome := .dumped, reason := .none, field := 0
            kind := .dump (sumOfImage d.target (s.tables.active.get d.target).words) (imageWords d.target) }))

/-- The end of the run block read (R145, R159): discarded outside PRIMING stage 1; a read failure gives UNREADABLE and
the first failing check its code, each back to IDLE with RUN_END and the earlier priming stage. With every check passed,
on a read that delivers its 256 bytes, the copy is replaced, the snapshot enabled and refreshed (R156), the motor
reference started (R97), every block takes all its START values, and stage 5 waits for the lock (R160): Frame Exposure
(R2), the ring and its voided reads (R58, R60), the records (R132), the Deck Reader (R144), the film (R113, R130), the
scan with its line cut (R96) and the Regulator with the gate CLOSED (R98, R99). The tables, the causes and the command
window stand. That a start fault gives back the stage of before is the model's reading (log entry 19), and that a lock
SPINNING keeps its facet counter under a smaller F is its choice (log entry 34). -/
def Obligations.RunBlockReadEnds : Prop :=
  ∀ (s : State) (p : RunBlockRead) (r : ReadEnd), s.deck.runBlockRead = some p →
    (s.run.state ≠ .priming ∨ s.run.stage ≠ 1 →
      exec (.runBlockReadEnd p.id r) s = .next { s with deck.runBlockRead := none }) ∧
    (s.run.state = .priming → s.run.stage = 1 → s.deck.snapshotEnabled = false → ∀ fault : StartFault,
      (r = .expired ∨ r = .complete .error → fault = .unreadable) →
      (∀ data, r = .complete (.good data) → data.length = 256 ∧
        fault = startFaultOf (parseRunBlock data) s.film.faultLevel) →
      ∃ t, exec (.runBlockReadEnd p.id r) s = .next t ∧ t.deck.runBlockRead = none ∧
        (fault ≠ .none → t.run = { s.run with state := .idle, stage := p.stageBefore, startFault := fault } ∧
          t.regs.causes.getLsbD 6 = true ∧ t.rb = s.rb ∧ t.scan = s.scan ∧ t.tables = s.tables ∧ t.film = s.film ∧
          t.frame = s.frame ∧ t.ring = s.ring ∧ t.bus = s.bus ∧ t.power.pwr = s.power.pwr ∧ t.power.state = s.power.state) ∧
        (fault = .none → ∀ data, r = .complete (.good data) → ∀ rb, rb = parseRunBlock data →
          t.rb = rb ∧ t.run = { s.run with stage := 5, lockWait := some (rb.lockTimeout * 10000000) } ∧
          t.frame = { ctx := none, entriesWritten := 0, entriesDropped := 0 } ∧
          t.ring = { slots := [], switchOn := true, reads := s.ring.reads.map fun e => { e with linked := false }
                     cursor := { s.ring.cursor with state := .parked, crossedFrom := none } } ∧
          t.seq = { nextIndex := 0, current := .emptied, lookahead := .emptied } ∧
          t.deck = { taken := none, next := .a, expectedSerial := rb.firstSerial, serial := 0, cardCount := 0
                     finishedCount := 0, seek := .idle, headerRead := none, pollTimer := none, runBlockRead := none
                     snapshotEnabled := true, generation := (s.deck.generation + 1) % 2 ^ 32 } ∧
          t.film = { s.film with
            state := .still, cycle := none, leader := none, scanRequested := 0, scanIssued := 0, pullIssued := 0, owed := 0
            stepTimer := none, stepHigh := false, pulseTimer := none, settlingTimer := none, dwellTimer := none
            perfCount := 0, counter := rb.film.startCounter, magazine := rb.film.frames, good := 0, spoiled := 0
            leaders := 0, edgeCode := 0, led := false } ∧
          t.scan = { s.scan with
            running := true, refHigh := true, refTimer := some rb.polygon.refdiv, averages := List.replicate 16 0
            rev := none, goodCount := 0, indexPending := false
            lock := if s.scan.lock = .stopped then .stopped else .spinning
            facet := if s.scan.lock = .locked ∨ s.scan.lock = .locking then 0 else s.scan.facet
            window := .none, mark := t.scan.mark, windowTimer := t.scan.windowTimer } ∧
          (s.scan.window ≠ .none → t.scan.mark = false ∧ t.scan.windowTimer = none) ∧
          (s.scan.window = .none → t.scan.mark = s.scan.mark ∧ t.scan.windowTimer = s.scan.windowTimer ∧ t.dp = s.dp) ∧
          (s.scan.window = .pixel ∨ s.scan.window = .monitor → t.dp.mode = .idle ∧ t.dp.drive = .all 0) ∧
          t.power = { state := .unsettled, pwr := .all 0, limited := .all false, dark := .all 0, darkHaltPending := false
                      cadence := 0, nextChannel := .red, settleTimeout := none, marked := none, conversion := none
                      settle := { channel := .red, attempts := 0, inBand := 0, waiting := false, used := .all 0 }
                      gateOpen := false } ∧
          t.regs = s.regs ∧ t.tables = s.tables ∧ t.nextId = s.nextId ∧
          t.bus = s.bus ++ refreshWrites { s with deck.snapshotEnabled := true } 1 (snapshotBody s)))

/-- The run block's fields stand at the offsets of R174, and START's checks are made in the order of R159 with the
ranges of R129 and R159, the fit condition of R95 and the conditions of R130. The start fault is the order number of
the first check that fails, 19 when only the fault level fails, and NONE when all pass; 1 (UNREADABLE) is the read's
own failure and comes from none of these checks. -/
def Obligations.StartChecksInOrder : Prop :=
  (∀ bs : List Byte, parseRunBlock bs =
    let at_ := numberAt bs
    { version := at_ 0x00 2, runNumber := at_ 0x02 2, firstSerial := at_ 0x04 2, spoilCapacity := at_ 0x06 2
      deckA := BitVec.ofNat 64 (at_ 0x08 8), deckB := BitVec.ofNat 64 (at_ 0x10 8)
      spoilList := BitVec.ofNat 64 (at_ 0x18 8), height := at_ 0x20 2
      polygon := { facets := at_ 0x22 1, goodRevs := at_ 0x23 1, period := at_ 0x24 4, tolerance := at_ 0x28 4
                   window := at_ 0x2C 4, watchdog := at_ 0x30 4, refdiv := at_ 0x34 2 }
      line := { divisor := at_ 0x36 1, base := at_ 0x38 2, mgap := at_ 0x3A 2, mlen := at_ 0x3C 2 }
      high := at_ 0x3E 1, low := at_ 0x3F 1
      power := { lref := { r := at_ 0x40 2, g := at_ 0x42 2, b := at_ 0x44 2 }
                 tgt := { r := at_ 0x46 2, g := at_ 0x48 2, b := at_ 0x4A 2 }
                 db := at_ 0x4C 1, step := at_ 0x4D 1, sstep := at_ 0x4E 1, lim := at_ 0x4F 1, n := at_ 0x50 1
                 amax := at_ 0x51 1, need := at_ 0x52 1, haltOnLimit := at_ 0x53 1 }
      film := { ms := at_ 0x54 2, mp := at_ 0x56 2, stepPeriod := at_ 0x58 2, dwell := at_ 0x5A 1, perfs := at_ 0x5B 1
                edgeEnable := at_ 0x5C 1, eb := at_ 0x5D 1, eo := at_ 0x5E 2, startCounter := at_ 0x60 4
                frames := at_ 0x64 4, lowThreshold := at_ 0x68 4 }
      readLimit := at_ 0x6C 1, pollInterval := at_ 0x6D 1, lockTimeout := at_ 0x6E 1 }) ∧
  ∀ (rb : RunBlock) (fault : Bool),
    ((startFaultOf rb fault).code = 0 ↔ (∀ p ∈ startChecks rb, p) ∧ fault = false) ∧
    ((startFaultOf rb fault).code = 19 ↔ (∀ p ∈ startChecks rb, p) ∧ fault = true) ∧
    (startFaultOf rb fault).code ≠ 1 ∧
    ∀ n < 17, ((startFaultOf rb fault).code = n + 2 ↔ firstToFail (startChecks rb) n)

/-- The outcome of a card's read (R133, R134, R175, R177). A failed or expired read is READ_FAILED. An unknown kind is
BAD_KIND with field 0. Every other body is validated by its own checks, in the order of their numbers, over fields at
the offsets of R175: the first that fails gives FIELD_RANGE with its number, and a body that passes them all is GOOD.
The seven targets carry the codes 0 to 6. -/
def Obligations.CardsAreCheckedInOrder : Prop :=
  (∀ h : Nat, cardOutcomeOf h .expired = .readFailed ∧ cardOutcomeOf h (.complete .error) = .readFailed) ∧
  (∀ (h kind : Nat) (bs : List Byte) (o : CardOutcome), bs.length = 80 → kind = numberAt bs 0x00 1 →
    o = cardOutcomeOf h (.complete (.good bs)) →
    (kind = 0 ∨ 7 < kind → o = .invalid .badKind 0 (.unknown kind)) ∧
    (kind = 1 → ∀ c : FrameCard,
      c = { stock := numberAt bs 0x01 1, retakes := numberAt bs 0x02 1, holdAfter := (numberAt bs 0x03 1).testBit 0
            noEdge := (numberAt bs 0x03 1).testBit 1, tag := numberAt bs 0x04 4
            image := BitVec.ofNat 64 (numberAt bs 0x08 8), stride := numberAt bs 0x10 4, width := numberAt bs 0x14 2
            height := numberAt bs 0x16 2, x0 := numberAt bs 0x18 2, y0 := numberAt bs 0x1A 2 } →
      checkedBody (.frame c) (frameChecks h c) o) ∧
    (kind = 2 → checkedBody (.leader (numberAt bs 0x04 2) ((numberAt bs 0x03 1).testBit 1))
      [1 ≤ numberAt bs 0x04 2 ∧ numberAt bs 0x04 2 ≤ 4096] o) ∧
    (kind = 3 → checkedBody (.table (numberAt bs 0x01 1) (BitVec.ofNat 64 (numberAt bs 0x08 8)) (numberAt bs 0x04 4))
      [numberAt bs 0x01 1 ≤ 6, numberAt bs 0x08 8 % 64 = 0] o) ∧
    (kind = 4 → checkedBody (.dump (numberAt bs 0x01 1) (BitVec.ofNat 64 (numberAt bs 0x08 8)))
      [numberAt bs 0x01 1 ≤ 6, numberAt bs 0x08 8 % 64 = 0] o) ∧
    (kind = 5 → o = .good .calibrate) ∧ (kind = 6 → o = .good .hold) ∧ (kind = 7 → o = .good .endCard)) ∧
  [0, 1, 2, 3, 4, 5, 6].map targetOf =
    [Target.curve0, .curve1, .curve2, .curve3, .drive, .shade, .facet].map some ∧ ∀ n, 6 < n → targetOf n = none

/-- The end of a header read (R148 to R150). A failure halts with DECK_READ; a LOADED deck of another serial or
without cards halts with DECK_SEQUENCE; one not LOADED makes the run wait with the poll timer; the deck awaited is
taken: 0 and IN_USE are written into its header in this order and the run is RUNNING. In other run states the seek
becomes IDLE. At the poll timer's expiry the header is read again (R150). The header's state, serial and card count
stand at bytes 0, 4 and 6 (R175). -/
def Obligations.HeaderReadsEnd : Prop :=
  (∀ bs : List Byte, parseHeader bs =
    { state := numberAt bs 0 4, serial := numberAt bs 4 2, count := numberAt bs 6 1 }) ∧
  ∀ s : State, (s.deck.pollTimer ≠ none →
    exec .pollTimerExpiry s = .next
      { s with
        deck.seek := .reading, deck.headerRead := some { id := s.nextId, timer := s.rb.readLimit * 1000 }
        deck.pollTimer := none
        bus := s.bus ++ [.read s.nextId (nextDeckAddress s) 64], nextId := s.nextId + 1 }) ∧
  ∀ (p : PendingRead) (r : ReadEnd), s.deck.headerRead = some p →
    (s.run.state ≠ .priming → s.run.state ≠ .running → s.run.state ≠ .waiting →
      exec (.headerReadEnd p.id r) s = .next { s with deck.seek := .idle, deck.headerRead := none }) ∧
    (s.run.state = .priming ∨ s.run.state = .running ∨ s.run.state = .waiting →
      ∃ t, exec (.headerReadEnd p.id r) s = .next t ∧
        (r = .expired ∨ r = .complete .error →
          t.run.state = .halted ∧ t.run.haltCause = .deckRead ∧ t.deck.seek = .idle ∧ t.deck.taken = s.deck.taken) ∧
        (∀ data, r = .complete (.good data) → data.length = 64 →
          ((parseHeader data).state ≠ 1 →
            t.run.state = .waiting ∧ t.deck.seek = .pollWait ∧ t.deck.pollTimer = some (s.rb.pollInterval * 100000)) ∧
          ((parseHeader data).state = 1 →
            ((parseHeader data).serial ≠ s.deck.expectedSerial ∨ (parseHeader data).count = 0) →
            t.run.state = .halted ∧ t.run.haltCause = .deckSequence ∧ t.deck.seek = .idle) ∧
          ((parseHeader data).state = 1 → (parseHeader data).serial = s.deck.expectedSerial →
            1 ≤ (parseHeader data).count →
            t.run.state = .running ∧ t.deck.taken = some s.deck.next ∧ t.deck.next ≠ s.deck.next ∧
            t.deck.expectedSerial = (s.deck.expectedSerial + 1) % 65536 ∧ t.deck.cardCount = (parseHeader data).count ∧
            t.deck.finishedCount = 0 ∧ t.seq.current.state = .reading ∧ t.seq.current.index = 0 ∧ t.seq.nextIndex = 0 ∧
            ∃ ops, t.bus = s.bus ++ [.write (nextDeckAddress s + 8) [0], .write (nextDeckAddress s) [2, 0, 0, 0]] ++ ops)) ∧
        t.frame = s.frame ∧ t.film = s.film ∧ t.scan = s.scan ∧ t.tables = s.tables ∧ t.ring = s.ring)

/-- The end of a card read (R133 to R138). The lookahead record takes its outcome and waits; a SPENT cursor crosses to a
FRAME card that it now shows GOOD, from an attempt of the card in the context, and R48 is examined again (R56). The
current card's outcome is held outside RUNNING; in RUNNING a READ_FAILED card halts with CARD_READ and stays without a
result, and an INVALID one is REFUSED: result area, finished count, and a CARD_REFUSED halt. A first read passes the
next index, and a re-read does not (R137). -/
def Obligations.CardReadEnds : Prop :=
  ∀ (s : State) (p : PendingRead) (r : ReadEnd),
    (s.seq.lookahead.read = some p → s.seq.current.awaits p.id = false →
      ∃ t, exec (.cardReadEnd p.id r) s = .next t ∧
        t.seq = { s.seq with lookahead := { s.seq.lookahead with
          state := .present, read := none, outcome := cardOutcomeOf s.rb.height r } } ∧
        (∀ k, s.ring.cursor.state = .spent → mayCross { s with seq := t.seq } k →
          t.ring = ({ s with seq := t.seq, ring.cursor := crossedTo { s with seq := t.seq } k } : State).fetch.ring ∧
          t.bus = ({ s with seq := t.seq, ring.cursor := crossedTo { s with seq := t.seq } k } : State).fetch.bus) ∧
        (s.ring.cursor.state ≠ .spent ∨ (∀ k, ¬mayCross { s with seq := t.seq } k) →
          t.ring = ({ s with seq := t.seq } : State).fetch.ring ∧ t.bus = ({ s with seq := t.seq } : State).fetch.bus) ∧
        t.run = s.run ∧ t.deck = s.deck ∧ t.frame = s.frame ∧ t.film = s.film) ∧
    (s.seq.current.read = some p → s.run.state ≠ .running →
      exec (.cardReadEnd p.id r) s = .next
        { s with seq.current := { s.seq.current with
            state := .present, read := none, outcome := cardOutcomeOf s.rb.height r } }) ∧
    (∀ passed, s.seq.current.read = some p → s.run.state = .running →
      passed = (if s.seq.current.entered then s.seq.nextIndex else s.seq.nextIndex + 1) →
      (cardOutcomeOf s.rb.height r = .readFailed → ∃ t, exec (.cardReadEnd p.id r) s = .next t ∧
        t.run.state = .halted ∧ t.run.haltCause = .cardRead ∧ t.seq.nextIndex = passed ∧
        t.seq.current.finished = s.seq.current.finished ∧ t.deck.finishedCount = s.deck.finishedCount ∧
        (s.seq.current.entered = true → t.seq.lookahead = s.seq.lookahead) ∧ t.frame = s.frame ∧ t.film = s.film) ∧
      (∀ d why field b, cardOutcomeOf s.rb.height r = .invalid why field b → s.deck.taken = some d →
        s.deck.finishedCount ≤ s.seq.current.index → ∀ w u, w = { s with seq.current := { s.seq.current with
            state := .present, read := none, outcome := cardOutcomeOf s.rb.height r } } →
        u = (if s.seq.current.entered then { w with seq.current := { w.seq.current with acted := true } }
             else becameCurrent w d) →
        ∃ v, exec (.cardReadEnd p.id r) s = .next (v.halt .cardRefused) ∧ v.seq.nextIndex = passed ∧
          cardFinishesAlone u v d { outcome := .refused, reason := why, field := field, kind := unworked b }))

/-- A GOOD FRAME card is acted on and goes to Frame Exposure (R1, R4 to R7, R136), in each of the ways of
`cardActedOn`: its read ends in RUNNING, an advance finds it PRESENT, or RESUME finds it held. With an empty magazine
the run halts with FILM_OUT and nothing is swapped. Otherwise the swap is taken, then the card is refused NO_TABLE
without its curve or drive table, or NOT_SETTLED, with the ring flushed and the run halted with CARD_REFUSED; or
attempt 1 waits in PREPARING with the cursor on its lines and the lock wait running. The close kind GOOD and the spoil
line 0 at the load are the model's choice (log entry 29); that PREPARING leaves no retake pending is log entry 22. -/
def Obligations.FrameCardIsPrepared : Prop :=
  ∀ (s u : State) (d : Deck) (k : FrameCard) (answer : Host.Outcome State Fault Refusal),
    cardActedOn s d (.good (.frame k)) u answer →
    ∃ t, answer = .next t ∧ attemptPrepared u t (contextOf u.seq.current k)

/-- A GOOD TABLE card is acted on (R65, R66, R136), in each of the ways of `cardActedOn`: its target's staged copy
becomes LOADING, the active copies stand, the load is recorded, and reads of 512 bytes, the last with what remains,
are issued from its source up to the limit of 4 outstanding, each under its timer. A CALIBRATE card (R107, R112): the
swap is taken, and the settle begins from red, waiting under a lock timeout unless LOCKED; without an active DRIVE
copy the card is REFUSED with NO_TABLE and the run halts. -/
def Obligations.TableAndCalibrateCardsBegin : Prop :=
  ∀ (s u : State) (d : Deck) (answer : Host.Outcome State Fault Refusal),
    (∀ code source sum g n, cardActedOn s d (.good (.table code source sum)) u answer → targetOf code = some g →
      n = min (4 - u.tables.reads.length) (imageReads g) →
      ∃ t, answer = .next t ∧
        t = { u with
          tables := t.tables
          bus := u.bus ++ (List.range n).map (fun j =>
            .read (u.nextId + j) (source + BitVec.ofNat 64 (512 * j)) (min 512 (2 * imageWords g - 512 * j)))
          nextId := u.nextId + n } ∧
        (t.tables.staged.get g).state = .loading ∧
        t.tables = { u.tables with
          staged := u.tables.staged.put g (t.tables.staged.get g)
          load := some { target := g, serial := u.seq.current.serial, index := u.seq.current.index, source := source
                         expected := sum, issued := n, ended := 0, failed := false }
          reads := u.tables.reads ++ (List.range n).map fun j =>
            { id := u.nextId + j, live := true, number := j, bytes := min 512 (2 * imageWords g - 512 * j)
              timer := u.rb.readLimit * 1000 } }) ∧
    (cardActedOn s d (.good .calibrate) u answer →
      (u.swapTables.tables.active.drive.valid = true → answer = .next (settleBegun u.swapTables)) ∧
      (u.swapTables.tables.active.drive.valid = false → u.deck.finishedCount ≤ u.seq.current.index →
        ∃ v, answer = .next (v.halt .cardRefused) ∧
          cardFinishesAlone u.swapTables v d { outcome := .refused, reason := .noTable, field := 0, kind := .none }))

/-- A GOOD LEADER card is acted on (R123, R125, R136), in each of the ways of `cardActedOn`: with the film STILL and no
STOP and no dark halt pending its first cycle begins in CATCHUP with Ms steps owed, or an empty magazine halts the run
with FILM_OUT. A HOLD card finishes DONE and the run enters HELD with HOLD raised (R139). An END card finishes DONE and
the run is closed (R140); what that leaves is StopAndAbortEndTheRun and EndingGivesResults. -/
def Obligations.LeaderHoldAndEndCards : Prop :=
  ∀ (s u : State) (d : Deck) (answer : Host.Outcome State Fault Refusal),
    (∀ count noEdge l, cardActedOn s d (.good (.leader count noEdge)) u answer → u.film.state = .still → 0 < count →
      u.run.stopPending = false → u.power.darkHaltPending = false →
      l = { count := count, noEdge := noEdge, completed := 0 } →
      (u.film.magazine = 0 → answer = .next (({ u with film.leader := some l } : State).halt .filmOut)) ∧
      (0 < u.film.magazine → ∃ timer, answer = .next
        { u with film := { u.film with
            leader := some l, state := .catchup, owed := u.film.owed + u.rb.film.ms, stepTimer := timer
            scanRequested := u.rb.film.ms, scanIssued := 0, pullIssued := 0, perfCount := 0
            cycle := some { forFrame := false, kind := .leader, position := u.film.counter
                            edgeOn := u.rb.film.edgeEnable == 1 && !noEdge } } })) ∧
    (cardActedOn s d (.good .hold) u answer → u.deck.finishedCount ≤ u.seq.current.index →
      ∃ v t, answer = .next t ∧
        cardFinishesAlone u v d { outcome := .done, reason := .none, field := 0, kind := .none } ∧
        t.run = { u.run with state := .held, pausePending := false } ∧ t.regs.causes = u.regs.causes ||| 4 ∧
        t.seq = v.seq ∧ t.deck.taken = some d ∧ t.deck.finishedCount = u.deck.finishedCount + 1 ∧ t.frame = u.frame ∧
        t.ring = u.ring ∧ t.film = u.film ∧ t.scan = u.scan ∧ t.tables = u.tables ∧ t.dp = u.dp ∧
        t.bus = v.bus ++ refreshWrites v 1 (snapshotBody t)) ∧
    (cardActedOn s d (.good .endCard) u answer → u.deck.finishedCount ≤ u.seq.current.index →
      ∃ v, answer = .next v.endRun ∧
        cardFinishesAlone u v d { outcome := .done, reason := .none, field := 0, kind := .none })

/-- An advance (R135, R153). Outside RUNNING it is held, and RESUME in HELD with a card finished carries it out
(R163). At the deck's end the deck is RETURNED, DECK_RETURNED is raised, the records are EMPTY and the next deck is
sought. A lookahead that is READING becomes the current record and is waited for; one that is PRESENT becomes current,
passes the next index and has the next card's read issued, and its outcome is acted on, whatever it is: a READ_FAILED
halts with CARD_READ, an INVALID card is REFUSED and the run halts with CARD_REFUSED (R136, R138), and a GOOD one goes
to its owner, here a FRAME card that is prepared (FrameCardIsPrepared, TableAndCalibrateCardsBegin,
LeaderHoldAndEndCards and DumpWritesTheImage say what every owner does with it). A current record that is PRESENT for
the next card, its read having ended outside RUNNING, is acted on in the same way. With no lookahead the card at the
next index is read now; and a current record that already waits for its read is waited for. How a held advance shows
in the record is log entry 27. -/
def Obligations.AdvanceTakesTheNextCard : Prop :=
  ∀ (s : State) (d : Deck), s.deck.taken = some d →
    (s.run.state ≠ .running → s.advance = s) ∧
    (s.run.state = .held → currentUnfinished s = false →
      exec .resume s = .next (((s.setRun { s.run with haltCause := .none, lastOutcome := .accepted }).changeRunState
        .running).advance)) ∧
    (s.run.state = .running → s.seq.nextIndex = s.deck.cardCount →
      s.advance.deck.taken = none ∧ s.advance.regs.causes.getLsbD 0 = true ∧ s.advance.deck.seek = .reading ∧
      s.advance.seq = { s.seq with current := .emptied, lookahead := .emptied } ∧
      s.advance.bus = s.bus ++ [.write (deckAddr s d) [3, 0, 0, 0], .read s.nextId (nextDeckAddress s) 64] ∧
      s.advance.run = s.run ∧ s.advance.frame = s.frame ∧ s.advance.film = s.film) ∧
    (s.run.state = .running → s.seq.nextIndex < s.deck.cardCount → s.seq.current.state = .reading →
      s.seq.current.entered = false → s.seq.current.index = s.seq.nextIndex → s.advance = s) ∧
    (s.run.state = .running → s.seq.nextIndex < s.deck.cardCount →
      s.seq.current.state = .empty ∨ s.seq.current.entered = true →
      (s.seq.lookahead.state = .reading → s.seq.lookahead.index = s.seq.nextIndex →
        s.advance = { s with seq := { s.seq with current := s.seq.lookahead, lookahead := .emptied } }) ∧
      (s.seq.lookahead.state = .empty →
        s.advance = { s with
          seq := { s.seq with current := recordReading s s.seq.nextIndex }
          bus := s.bus ++ [.read s.nextId (deckAddr s d + BitVec.ofNat 64 (64 + 128 * s.seq.nextIndex)) 80]
          nextId := s.nextId + 1 })) ∧
    ∀ u : State, s.run.state = .running → s.seq.nextIndex < s.deck.cardCount →
      ((s.seq.current.state = .empty ∨ s.seq.current.entered = true) ∧ s.seq.lookahead.state = .present ∧
          s.seq.lookahead.index = s.seq.nextIndex ∧ s.seq.lookahead.entered = false ∧
          u = becameCurrent { s with seq := { s.seq with current := s.seq.lookahead, lookahead := .emptied } } d) ∨
        (s.seq.current.state = .present ∧ s.seq.current.entered = false ∧ s.seq.current.index = s.seq.nextIndex ∧
          u = becameCurrent s d) →
      (u.seq.current.outcome = .readFailed → s.advance = u.halt .cardRead) ∧
      (∀ why field b, u.seq.current.outcome = .invalid why field b → u.deck.finishedCount ≤ u.seq.current.index →
        ∃ v, s.advance = v.halt .cardRefused ∧
          cardFinishesAlone u v d { outcome := .refused, reason := why, field := field, kind := unworked b }) ∧
      (∀ k, u.seq.current.outcome = .good (.frame k) → attemptPrepared u s.advance (contextOf u.seq.current k))

/-! ## The film (07_film_transport_and_edge_marking.md) -/

/-- STEP_ISSUE (R115, R117, R118): an owed step leaves; it is a scan step in SCANNING and CATCHUP and a pull-down step
in PULLING. The last scan step of CATCHUP enters PULLING with Mp steps owed and the edge code assembled; the last
pull-down step starts a settling period of one step period. In PULLING the LED is lit while a 1 of the code is
presented, with edge on (R128). The steps are asked for by Frame Exposure (R116, R117): a line asks for its share of
the Ms scan steps, and a finish brings the scan steps requested to Ms and gives the cycle its kind; each is taken in
SCANNING alone. -/
def Obligations.StepsAreIssued : Prop :=
  (∀ s : State, 0 < s.film.owed →
    (s.film.state = .scanning ∨ (s.film.state = .catchup ∧ s.film.scanIssued + 1 < s.rb.film.ms) →
      exec .stepIssue s = .next
        { s with film := { s.film with
            owed := s.film.owed - 1, scanIssued := s.film.scanIssued + 1, stepHigh := true
            pulseTimer := some (s.rb.film.stepPeriod / 2)
            stepTimer := if s.film.owed = 1 then none else some s.rb.film.stepPeriod } }) ∧
    (∀ y, s.film.state = .catchup → s.rb.film.ms ≤ s.film.scanIssued + 1 → s.film.cycle = some y →
      ∃ led, exec .stepIssue s = .next
        { s with film := { s.film with
            state := .pulling, owed := s.film.owed - 1 + s.rb.film.mp, scanIssued := s.film.scanIssued + 1, stepHigh := true
            pulseTimer := some (s.rb.film.stepPeriod / 2)
            stepTimer := if s.film.owed = 1 ∧ s.rb.film.mp = 0 then none else some s.rb.film.stepPeriod
            edgeCode := edgeCodeOf y.position s.rb.runNumber y.kind.code, led := led } } ∧
        (led = true ↔ y.edgeOn = true ∧ ∃ j < 44, s.rb.film.eo + j * s.rb.film.eb ≤ s.film.pullIssued ∧
          s.film.pullIssued < s.rb.film.eo + (j + 1) * s.rb.film.eb ∧
          (edgeCodeOf y.position s.rb.runNumber y.kind.code).getLsbD j = true)) ∧
    (s.film.state = .pulling →
      ∃ led, exec .stepIssue s = .next
        { s with film := { s.film with
            owed := s.film.owed - 1, pullIssued := s.film.pullIssued + 1, stepHigh := true
            pulseTimer := some (s.rb.film.stepPeriod / 2)
            stepTimer := if s.film.owed = 1 then none else some s.rb.film.stepPeriod
            settlingTimer := if s.rb.film.mp ≤ s.film.pullIssued + 1 then some s.rb.film.stepPeriod else s.film.settlingTimer
            led := led } } ∧
        (led = true ↔ (∃ y, s.film.cycle = some y ∧ y.edgeOn = true) ∧
          ∃ j < 44, s.rb.film.eo + j * s.rb.film.eb ≤ s.film.pullIssued + 1 ∧
          s.film.pullIssued + 1 < s.rb.film.eo + (j + 1) * s.rb.film.eb ∧ s.film.edgeCode.getLsbD j = true))) ∧
  ∀ (f : Film) (rb : RunBlock) (r : Nat) (k : CloseKind),
    (f.state = .scanning →
      (f.lineSteps rb r).owed = f.owed + ((r + 1) * rb.film.ms / rb.height - r * rb.film.ms / rb.height) ∧
      (f.lineSteps rb r).scanRequested =
        f.scanRequested + ((r + 1) * rb.film.ms / rb.height - r * rb.film.ms / rb.height) ∧
      (f.lineSteps rb r).state = .scanning ∧ (f.lineSteps rb r).cycle = f.cycle ∧
      (f.finish rb k).scanRequested = rb.film.ms ∧
      (f.finish rb k).cycle = f.cycle.map (fun y => { y with kind := if k = .good then .good else .spoiled }) ∧
      (f.scanIssued < rb.film.ms →
        (f.finish rb k).state = .catchup ∧ (f.finish rb k).owed = f.owed + (rb.film.ms - f.scanRequested)) ∧
      (rb.film.ms ≤ f.scanIssued → (f.finish rb k).state = .pulling)) ∧
    (f.state ≠ .scanning → f.lineSteps rb r = f ∧ f.finish rb k = f)

/-- The edge code's fields in the order in which they leave (R127): the start pattern, 24 bits of position, 12 of run
number and 2 of kind, each least significant bit first, then a parity bit of the position and one of run and kind,
both even. The entry to PULLING assembles it from the cycle record and the run number. -/
def Obligations.EdgeCodeFields : Prop :=
  ∀ (position run kind : Nat), position < 2 ^ 24 → run < 2 ^ 12 → kind < 4 →
    (edgeCodeOf position run kind).extractLsb' 0 4 = 5 ∧
    (∀ k < 24, (edgeCodeOf position run kind).getLsbD (4 + k) = position.testBit k) ∧
    (∀ k < 12, (edgeCodeOf position run kind).getLsbD (28 + k) = run.testBit k) ∧
    (∀ k < 2, (edgeCodeOf position run kind).getLsbD (40 + k) = kind.testBit k) ∧
    (((List.range 24).map fun k => ((edgeCodeOf position run kind).getLsbD (4 + k)).toNat).sum +
      ((edgeCodeOf position run kind).getLsbD 42).toNat) % 2 = 0 ∧
    (((List.range 14).map fun k => ((edgeCodeOf position run kind).getLsbD (28 + k)).toNat).sum +
      ((edgeCodeOf position run kind).getLsbD 43).toNat) % 2 = 0 ∧
    CycleKind.good.code = 0 ∧ CycleKind.spoiled.code = 1 ∧ CycleKind.leader.code = 2 ∧
    ∀ (f : Film) (rb : RunBlock) (y : Cycle), f.cycle = some y →
      (f.enterPulling rb).edgeCode = edgeCodeOf y.position rb.runNumber y.kind.code

/-- The dwell end (R120 to R122), reached by its timer or, with a dwell of 0, at the settling period's end (R118): the
film counter rises, the magazine falls, and the position is counted by the cycle's kind, whatever the owner does. A
dwell above 0 enters DWELL with its timer, in milliseconds. -/
def Obligations.DwellEndCountsThePosition : Prop :=
  ∀ (s : State) (c : Instr),
    (s.film.state = .pulling → s.film.settlingTimer ≠ none → 0 < s.rb.film.dwell →
      exec .settlingPeriodEnd s = .next
        { s with film := { s.film with
            state := .dwell, settlingTimer := none, led := false, dwellTimer := some (s.rb.film.dwell * 100000) } }) ∧
    ((c = .dwellEnd ∧ s.film.state = .dwell) ∨
    (c = .settlingPeriodEnd ∧ s.film.state = .pulling ∧ s.film.settlingTimer ≠ none ∧ s.rb.film.dwell = 0) →
    ∃ t, exec c s = .next t ∧ t.film.counter = s.film.counter + 1 ∧ t.film.magazine = s.film.magazine - 1 ∧
      (∀ y, s.film.cycle = some y →
        t.film.good = s.film.good + (if y.kind = .good then 1 else 0) ∧
        t.film.spoiled = s.film.spoiled + (if y.kind = .spoiled then 1 else 0) ∧
        t.film.leaders = s.film.leaders + (if y.kind = .leader then 1 else 0)) ∧
      (s.film.magazine - 1 = s.rb.film.lowThreshold → t.regs.causes.getLsbD 5 = true))

/-- The dwell end of a frame cycle in RUNNING. A failed perforation check (R120, R121, R22): the transport is FAULTED
and the run halts with REGISTRATION; the frame stays in CLOSING with no result, and for a spoiled cycle the entry is
written or dropped and SPOIL raised first, with no retake left pending. A passed one of a GOOD cycle (R15, R16, R17,
R56) finishes the card, EXPOSED at its first attempt and RETAKEN after more, with the context's fields, the context
empty and a cursor on one of its attempts parked; then the first that applies: a pending STOP or an ABORT ends the run,
the halt after cycle or a power-limit halt halts it, HOLD_AFTER holds it with HOLD raised, a pending PAUSE holds it, or
the next card is taken. -/
def Obligations.DwellEndJudgesTheFrame : Prop :=
  ∀ (s : State) (c : FrameCtx) (y : Cycle), s.film.state = .dwell → s.film.cycle = some y → y.forFrame = true →
    s.frame.ctx = some c → s.run.state = .running →
    (s.film.perfCount ≠ s.rb.film.perfs → ∃ t, exec .dwellEnd s = .next t ∧ t.film.state = .faulted ∧
      t.run.state = .halted ∧ t.run.haltCause = .registration ∧ t.power.gateOpen = false ∧
      t.deck.finishedCount = s.deck.finishedCount ∧ t.seq = s.seq ∧
      (y.kind = .good → t.frame = s.frame) ∧
      (y.kind = .spoiled → t.regs.causes.getLsbD 1 = true ∧
        t.frame.ctx = some { c with retakePending := false } ∧
        (s.frame.entriesWritten < s.rb.spoilCapacity →
          t.frame.entriesWritten = s.frame.entriesWritten + 1 ∧ t.frame.entriesDropped = s.frame.entriesDropped ∧
          ∃ post, t.bus = s.bus ++
            [.write (s.rb.spoilList + BitVec.ofNat 64 (32 * s.frame.entriesWritten)) (spoilEntryBytes c s.rb.runNumber)] ++
            post) ∧
        (s.rb.spoilCapacity ≤ s.frame.entriesWritten →
          t.frame.entriesWritten = s.frame.entriesWritten ∧ t.frame.entriesDropped = s.frame.entriesDropped + 1))) ∧
    (∀ d, s.film.perfCount = s.rb.film.perfs → y.kind = .good → s.power.darkHaltPending = false → s.deck.taken = some d →
      s.deck.finishedCount ≤ s.seq.current.index →
      ∃ u t, exec .dwellEnd s = .next t ∧
        cardFinishes s u d
          { outcome := if c.attemptsExposed = 1 then .exposed else .retaken, reason := .none, field := 0
            kind := .frame c.lastSpoil c.attemptsExposed c.powerLimited c.minOccupancy c.firstFilm c.position c.clamps }
          (s.film.counter + 1) true ∧
        u.film = { s.film with
          state := .still, cycle := none, counter := s.film.counter + 1, magazine := s.film.magazine - 1
          good := s.film.good + 1, dwellTimer := none } ∧
        u.frame = { s.frame with ctx := none } ∧
        u.ring = (if s.ring.cursor.owner.tag = c.card.tag ∧ s.ring.cursor.owner.serial = c.serial ∧
              s.ring.cursor.owner.index = c.index then
            { s.ring with cursor := { s.ring.cursor with state := .parked, crossedFrom := none } } else s.ring) ∧
        u.power = s.power ∧ u.scan = s.scan ∧ u.tables = s.tables ∧ u.dp = s.dp ∧
        (s.run.stopPending = true ∨ c.lastSpoil = .abort → t = u.endRun) ∧
        (s.run.stopPending = false → c.lastSpoil ≠ .abort →
          (c.haltAfter ≠ .none →
            t = u.halt (if c.haltAfter = .polygonLost then .polygonLost else .laserDark)) ∧
          (c.haltAfter = .none →
            (s.run.powerLimitPending = true →
              t = ({ u with run.powerLimitPending := false } : State).halt .powerLimit) ∧
            (s.run.powerLimitPending = false →
              (c.card.holdAfter = true →
                t.run = { s.run with state := .held, pausePending := false } ∧
                t.regs.causes = u.regs.causes ||| 4 ∧ t.frame = u.frame ∧ t.seq = u.seq ∧ t.film = u.film ∧
                t.ring = u.ring ∧ t.deck.taken = some d ∧ t.deck.finishedCount = s.deck.finishedCount + 1 ∧
                t.bus = u.bus ++ refreshWrites u 1 (snapshotBody t)) ∧
              (c.card.holdAfter = false →
                (s.run.pausePending = true → heldFrom u t) ∧ (s.run.pausePending = false → t = u.advance))))))

/-- A passed dwell end of a SPOILED cycle in RUNNING (R22, R23, R16): the spoil entry is written or dropped and SPOIL
raised (that PREPARING leaves no retake pending is log entry 22). With no retake pending the card finishes FAILED, and
the run ends for a pending STOP or an ABORT, halts with the halt after cycle, or halts with RETAKES_EXHAUSTED for
UNDERRUN, LINE_ERROR and LINE_TIMEOUT. With one pending, a halt after cycle halts the run with the attempt left
CLOSING and the film STILL; otherwise the attempt is prepared anew. -/
def Obligations.SpoiledCyclePasses : Prop :=
  ∀ (s : State) (c : FrameCtx) (y : Cycle), s.film.state = .dwell → s.film.cycle = some y → y.forFrame = true →
    y.kind = .spoiled → s.frame.ctx = some c → s.run.state = .running → s.film.perfCount = s.rb.film.perfs →
    s.power.darkHaltPending = false →
    ∃ t, exec .dwellEnd s = .next t ∧ t.regs.causes.getLsbD 1 = true ∧
      (s.frame.entriesWritten < s.rb.spoilCapacity → t.frame.entriesWritten = s.frame.entriesWritten + 1 ∧
        ∃ post, t.bus = s.bus ++
          [.write (s.rb.spoilList + BitVec.ofNat 64 (32 * s.frame.entriesWritten)) (spoilEntryBytes c s.rb.runNumber)] ++
          post) ∧
      (s.rb.spoilCapacity ≤ s.frame.entriesWritten → t.frame.entriesDropped = s.frame.entriesDropped + 1) ∧
      (c.retakePending = true → c.haltAfter ≠ .none →
        t.run.state = .halted ∧ t.run.haltCause = (if c.haltAfter = .polygonLost then .polygonLost else .laserDark) ∧
        t.frame.ctx = some c ∧ t.film.state = .still ∧ t.film.cycle = none ∧ t.power.gateOpen = false ∧
        t.deck.finishedCount = s.deck.finishedCount ∧ t.seq = s.seq ∧ t.tables = s.tables) ∧
      (c.retakePending = true → c.haltAfter = .none → s.film.magazine ≤ 1 →
        t.run.state = .halted ∧ t.run.haltCause = .filmOut ∧ t.tables = s.tables ∧
        t.frame.ctx = some { c with state := .preparing, retakePending := false, lockWait := .stopped }) ∧
      (c.retakePending = true → c.haltAfter = .none → 1 < s.film.magazine → s.power.state = .settled →
        s.tables.staged.drive.state ≠ .valid → (s.swapTables.tables.active.get (curveTarget c.card.stock)).valid = true →
        s.swapTables.tables.active.drive.valid = true →
        t.run = s.run ∧ t.film.state = .still ∧ t.tables = s.swapTables.tables ∧ t.frame.ctx = some { c with
          state := .preparing, retakePending := false, lockWait := .running (s.rb.lockTimeout * 10000000) }) ∧
      (∀ d, c.retakePending = false → s.deck.taken = some d → s.deck.finishedCount ≤ s.seq.current.index →
        s.run.stopPending = true ∨ c.lastSpoil = .abort ∨ c.haltAfter ≠ .none ∨ c.lastSpoil = .underrun ∨
          c.lastSpoil = .lineError ∨ c.lastSpoil = .lineTimeout →
        ∃ u, cardFinishes
          { s with bus := s.bus ++
              if s.frame.entriesWritten < s.rb.spoilCapacity then
                [.write (s.rb.spoilList + BitVec.ofNat 64 (32 * s.frame.entriesWritten)) (spoilEntryBytes c s.rb.runNumber)]
              else [] } u d
          { outcome := .failed, reason := .none, field := 0
            kind := .frame c.lastSpoil c.attemptsExposed c.powerLimited c.minOccupancy c.firstFilm none c.clamps }
          (s.film.counter + 1) true ∧ u.frame.ctx = none ∧ u.film.state = .still ∧
        (s.run.stopPending = true ∨ c.lastSpoil = .abort → t = u.endRun) ∧
        (s.run.stopPending = false → c.lastSpoil ≠ .abort →
          t = u.halt (if c.haltAfter = .polygonLost then .polygonLost
            else if c.haltAfter = .laserDark then .laserDark else .retakesExhausted)))

/-- The dwell end of a leader cycle in RUNNING (R120, R121, R125, R126): the cycle counts, passed or failed. A failed
check halts with REGISTRATION; a dark halt pending halts with LASER_DARK before the next cycle; below the count the
next cycle begins, an empty magazine halts with FILM_OUT, and a pending STOP ends the run, with a dark halt pending
too (log entry 14). At the count the card finishes DONE with its cycles, and the run goes on by the first that applies of
a pending STOP, a power-limit halt, a PAUSE and the next card; with a dark halt pending the run has halted before. -/
def Obligations.LeaderCycleEnds : Prop :=
  ∀ (s : State) (l : LeaderCard) (y : Cycle), s.film.state = .dwell → s.film.cycle = some y → y.forFrame = false →
    s.film.leader = some l → s.run.state = .running →
    ∃ t, exec .dwellEnd s = .next t ∧
      (s.film.perfCount ≠ s.rb.film.perfs →
        t.run.state = .halted ∧ t.run.haltCause = .registration ∧ t.film.state = .faulted ∧
        t.film.leader = some { l with completed := l.completed + 1 } ∧
        t.deck.finishedCount = s.deck.finishedCount ∧ t.seq = s.seq) ∧
      (s.film.perfCount = s.rb.film.perfs → l.completed + 1 < l.count →
        (s.run.stopPending = true → t.run.state = .idle ∧ t.deck.taken = none ∧ t.film.state = .still) ∧
        (s.run.stopPending = false → t.film.leader = some { l with completed := l.completed + 1 } ∧ t.seq = s.seq ∧
          t.deck.finishedCount = s.deck.finishedCount ∧ t.frame = s.frame ∧
          (s.power.darkHaltPending = true → t.run.state = .halted ∧ t.run.haltCause = .laserDark ∧
            t.power.dark = .all 0 ∧ t.power.darkHaltPending = false ∧ t.film.state = .still ∧ t.film.cycle = none) ∧
          (s.power.darkHaltPending = false → s.film.magazine ≤ 1 →
            t.run.state = .halted ∧ t.run.haltCause = .filmOut ∧ t.film.state = .still) ∧
          (s.power.darkHaltPending = false → 1 < s.film.magazine →
            t.run = s.run ∧ t.film.state = .catchup ∧ t.film.owed = s.film.owed + s.rb.film.ms ∧
            t.film.scanRequested = s.rb.film.ms ∧ t.film.scanIssued = 0 ∧ t.film.pullIssued = 0 ∧ t.film.perfCount = 0 ∧
            t.film.cycle = some { forFrame := false, kind := .leader, position := s.film.counter + 1,
                                  edgeOn := s.rb.film.edgeEnable == 1 && !l.noEdge }))) ∧
      (∀ d, s.film.perfCount = s.rb.film.perfs → l.count ≤ l.completed + 1 → s.deck.taken = some d →
        s.deck.finishedCount ≤ s.seq.current.index → ∀ result,
        result = ({ outcome := .done, reason := .none, field := 0, kind := .leader (l.completed + 1) } : CardResult) →
        (s.power.darkHaltPending = false → ∃ u,
          cardFinishes s u d result (s.film.counter + 1) true ∧ finishLeads u t ∧
          u.film = { s.film with
            state := .still, cycle := none, leader := none, counter := s.film.counter + 1
            magazine := s.film.magazine - 1, good := u.film.good, spoiled := u.film.spoiled, leaders := u.film.leaders
            dwellTimer := none } ∧
          (y.kind = .leader → u.film.leaders = s.film.leaders + 1 ∧ u.film.good = s.film.good ∧
            u.film.spoiled = s.film.spoiled) ∧
          u.frame = s.frame ∧ u.power = s.power ∧ u.scan = s.scan ∧ u.tables = s.tables ∧ u.ring = s.ring) ∧
        (s.power.darkHaltPending = true →
          ∃ (f : Film) (g : RegWindow) (h u : State),
            f = { s.film with
              state := .still, cycle := none, counter := s.film.counter + 1, magazine := s.film.magazine - 1
              good := f.good, spoiled := f.spoiled, leaders := f.leaders, dwellTimer := none } ∧
            h = ({ s with film := f, regs := g } : State).halt .laserDark ∧
            cardFinishes h u d result (s.film.counter + 1) true ∧ finishLeads u t ∧
            u.film = { f with leader := none } ∧ u.power = h.power ∧ u.frame = s.frame))

/-- A driver fault (R26, R100, R111, R124): with the transport FAULTED it changes only the level; in IDLE and ENDING the
transport becomes FAULTED without a halt; in any other run state the film stops, the run is HALTED with TRANSPORT and the
gate CLOSED, a settle under way ends UNSETTLED with PWR kept, a frame in the context has its ring flushed with the cursor
parked, and no position is counted. That the gate closes with the halt in the same step is the model's reading (log entry
26), and that the wait and the lock timeout of that settle end with it is log entry 21 (DEDUCED). -/
def Obligations.DriverFaultStopsTheFilm : Prop :=
  ∀ s : State, s.film.faultLevel = false →
    (s.film.state = .faulted →
      exec .driverFault s = .next { s with film.faultLevel := true, film.faultRun := 0 }) ∧
    (s.film.state ≠ .faulted → ∃ t, exec .driverFault s = .next t ∧
      t.film = { s.film with
        faultLevel := true, faultRun := 0, state := .faulted, cycle := none, owed := 0, stepTimer := none
        stepHigh := false, pulseTimer := none, settlingTimer := none, dwellTimer := none, led := false } ∧
      (s.run.state = .idle ∨ s.run.state = .ending → t = { s with film := t.film }) ∧
      (s.run.state ≠ .idle → s.run.state ≠ .ending →
        t.run.state = .halted ∧ t.run.haltCause = .transport ∧ t.regs.causes.getLsbD 3 = true ∧
        (GateLawful s → t.power.gateOpen = false) ∧ t.power.darkHaltPending = false ∧ t.frame = s.frame ∧
        t.power.pwr = s.power.pwr ∧ t.power.limited = s.power.limited ∧ t.power.dark = s.power.dark ∧
        (s.power.state ≠ .settling → t.power.state = s.power.state ∧ t.power.settle = s.power.settle ∧
          t.power.settleTimeout = s.power.settleTimeout) ∧
        (s.power.state = .settling → t.power.state = .unsettled ∧
          t.power.settle = { s.power.settle with waiting := false } ∧ t.power.settleTimeout = none) ∧
        t.seq = s.seq ∧ t.tables = s.tables ∧ t.scan = s.scan ∧
        (s.frame.ctx = none → t.ring = s.ring ∧ t.dp = s.dp) ∧
        (s.frame.ctx ≠ none → t.ring.slots = [] ∧ t.ring.cursor.state = .parked ∧ t.dp.pending = none)))
end

