-- ==== Sys2Proof/Laws/State.lean ====
section
/-! SUPPORT. One lemma per field per update of State: what an update sets, and what it leaves. -/

namespace Sys2Proof.Machine

variable (s : State)

@[simp] theorem State.setPending_pending (v : List Instr) : (s.setPending v).pending = v := rfl
@[simp] theorem State.setPending_regs (v : List Instr) : (s.setPending v).regs = s.regs := rfl
@[simp] theorem State.setPending_run (v : List Instr) : (s.setPending v).run = s.run := rfl
@[simp] theorem State.setPending_rb (v : List Instr) : (s.setPending v).rb = s.rb := rfl
@[simp] theorem State.setPending_deck (v : List Instr) : (s.setPending v).deck = s.deck := rfl
@[simp] theorem State.setPending_seq (v : List Instr) : (s.setPending v).seq = s.seq := rfl
@[simp] theorem State.setPending_frame (v : List Instr) : (s.setPending v).frame = s.frame := rfl
@[simp] theorem State.setPending_ring (v : List Instr) : (s.setPending v).ring = s.ring := rfl
@[simp] theorem State.setPending_dp (v : List Instr) : (s.setPending v).dp = s.dp := rfl
@[simp] theorem State.setPending_tables (v : List Instr) : (s.setPending v).tables = s.tables := rfl
@[simp] theorem State.setPending_scan (v : List Instr) : (s.setPending v).scan = s.scan := rfl
@[simp] theorem State.setPending_power (v : List Instr) : (s.setPending v).power = s.power := rfl
@[simp] theorem State.setPending_film (v : List Instr) : (s.setPending v).film = s.film := rfl
@[simp] theorem State.setPending_pins (v : List Instr) : (s.setPending v).pins = s.pins := rfl
@[simp] theorem State.setPending_bus (v : List Instr) : (s.setPending v).bus = s.bus := rfl
@[simp] theorem State.setPending_nextId (v : List Instr) : (s.setPending v).nextId = s.nextId := rfl

@[simp] theorem State.setRegs_pending (v : RegWindow) : (s.setRegs v).pending = s.pending := rfl
@[simp] theorem State.setRegs_regs (v : RegWindow) : (s.setRegs v).regs = v := rfl
@[simp] theorem State.setRegs_run (v : RegWindow) : (s.setRegs v).run = s.run := rfl
@[simp] theorem State.setRegs_rb (v : RegWindow) : (s.setRegs v).rb = s.rb := rfl
@[simp] theorem State.setRegs_deck (v : RegWindow) : (s.setRegs v).deck = s.deck := rfl
@[simp] theorem State.setRegs_seq (v : RegWindow) : (s.setRegs v).seq = s.seq := rfl
@[simp] theorem State.setRegs_frame (v : RegWindow) : (s.setRegs v).frame = s.frame := rfl
@[simp] theorem State.setRegs_ring (v : RegWindow) : (s.setRegs v).ring = s.ring := rfl
@[simp] theorem State.setRegs_dp (v : RegWindow) : (s.setRegs v).dp = s.dp := rfl
@[simp] theorem State.setRegs_tables (v : RegWindow) : (s.setRegs v).tables = s.tables := rfl
@[simp] theorem State.setRegs_scan (v : RegWindow) : (s.setRegs v).scan = s.scan := rfl
@[simp] theorem State.setRegs_power (v : RegWindow) : (s.setRegs v).power = s.power := rfl
@[simp] theorem State.setRegs_film (v : RegWindow) : (s.setRegs v).film = s.film := rfl
@[simp] theorem State.setRegs_pins (v : RegWindow) : (s.setRegs v).pins = s.pins := rfl
@[simp] theorem State.setRegs_bus (v : RegWindow) : (s.setRegs v).bus = s.bus := rfl
@[simp] theorem State.setRegs_nextId (v : RegWindow) : (s.setRegs v).nextId = s.nextId := rfl

@[simp] theorem State.setRun_pending (v : RunCtl) : (s.setRun v).pending = s.pending := rfl
@[simp] theorem State.setRun_regs (v : RunCtl) : (s.setRun v).regs = s.regs := rfl
@[simp] theorem State.setRun_run (v : RunCtl) : (s.setRun v).run = v := rfl
@[simp] theorem State.setRun_rb (v : RunCtl) : (s.setRun v).rb = s.rb := rfl
@[simp] theorem State.setRun_deck (v : RunCtl) : (s.setRun v).deck = s.deck := rfl
@[simp] theorem State.setRun_seq (v : RunCtl) : (s.setRun v).seq = s.seq := rfl
@[simp] theorem State.setRun_frame (v : RunCtl) : (s.setRun v).frame = s.frame := rfl
@[simp] theorem State.setRun_ring (v : RunCtl) : (s.setRun v).ring = s.ring := rfl
@[simp] theorem State.setRun_dp (v : RunCtl) : (s.setRun v).dp = s.dp := rfl
@[simp] theorem State.setRun_tables (v : RunCtl) : (s.setRun v).tables = s.tables := rfl
@[simp] theorem State.setRun_scan (v : RunCtl) : (s.setRun v).scan = s.scan := rfl
@[simp] theorem State.setRun_power (v : RunCtl) : (s.setRun v).power = s.power := rfl
@[simp] theorem State.setRun_film (v : RunCtl) : (s.setRun v).film = s.film := rfl
@[simp] theorem State.setRun_pins (v : RunCtl) : (s.setRun v).pins = s.pins := rfl
@[simp] theorem State.setRun_bus (v : RunCtl) : (s.setRun v).bus = s.bus := rfl
@[simp] theorem State.setRun_nextId (v : RunCtl) : (s.setRun v).nextId = s.nextId := rfl

@[simp] theorem State.setRb_pending (v : RunBlock) : (s.setRb v).pending = s.pending := rfl
@[simp] theorem State.setRb_regs (v : RunBlock) : (s.setRb v).regs = s.regs := rfl
@[simp] theorem State.setRb_run (v : RunBlock) : (s.setRb v).run = s.run := rfl
@[simp] theorem State.setRb_rb (v : RunBlock) : (s.setRb v).rb = v := rfl
@[simp] theorem State.setRb_deck (v : RunBlock) : (s.setRb v).deck = s.deck := rfl
@[simp] theorem State.setRb_seq (v : RunBlock) : (s.setRb v).seq = s.seq := rfl
@[simp] theorem State.setRb_frame (v : RunBlock) : (s.setRb v).frame = s.frame := rfl
@[simp] theorem State.setRb_ring (v : RunBlock) : (s.setRb v).ring = s.ring := rfl
@[simp] theorem State.setRb_dp (v : RunBlock) : (s.setRb v).dp = s.dp := rfl
@[simp] theorem State.setRb_tables (v : RunBlock) : (s.setRb v).tables = s.tables := rfl
@[simp] theorem State.setRb_scan (v : RunBlock) : (s.setRb v).scan = s.scan := rfl
@[simp] theorem State.setRb_power (v : RunBlock) : (s.setRb v).power = s.power := rfl
@[simp] theorem State.setRb_film (v : RunBlock) : (s.setRb v).film = s.film := rfl
@[simp] theorem State.setRb_pins (v : RunBlock) : (s.setRb v).pins = s.pins := rfl
@[simp] theorem State.setRb_bus (v : RunBlock) : (s.setRb v).bus = s.bus := rfl
@[simp] theorem State.setRb_nextId (v : RunBlock) : (s.setRb v).nextId = s.nextId := rfl

@[simp] theorem State.setDeck_pending (v : DeckReader) : (s.setDeck v).pending = s.pending := rfl
@[simp] theorem State.setDeck_regs (v : DeckReader) : (s.setDeck v).regs = s.regs := rfl
@[simp] theorem State.setDeck_run (v : DeckReader) : (s.setDeck v).run = s.run := rfl
@[simp] theorem State.setDeck_rb (v : DeckReader) : (s.setDeck v).rb = s.rb := rfl
@[simp] theorem State.setDeck_deck (v : DeckReader) : (s.setDeck v).deck = v := rfl
@[simp] theorem State.setDeck_seq (v : DeckReader) : (s.setDeck v).seq = s.seq := rfl
@[simp] theorem State.setDeck_frame (v : DeckReader) : (s.setDeck v).frame = s.frame := rfl
@[simp] theorem State.setDeck_ring (v : DeckReader) : (s.setDeck v).ring = s.ring := rfl
@[simp] theorem State.setDeck_dp (v : DeckReader) : (s.setDeck v).dp = s.dp := rfl
@[simp] theorem State.setDeck_tables (v : DeckReader) : (s.setDeck v).tables = s.tables := rfl
@[simp] theorem State.setDeck_scan (v : DeckReader) : (s.setDeck v).scan = s.scan := rfl
@[simp] theorem State.setDeck_power (v : DeckReader) : (s.setDeck v).power = s.power := rfl
@[simp] theorem State.setDeck_film (v : DeckReader) : (s.setDeck v).film = s.film := rfl
@[simp] theorem State.setDeck_pins (v : DeckReader) : (s.setDeck v).pins = s.pins := rfl
@[simp] theorem State.setDeck_bus (v : DeckReader) : (s.setDeck v).bus = s.bus := rfl
@[simp] theorem State.setDeck_nextId (v : DeckReader) : (s.setDeck v).nextId = s.nextId := rfl

@[simp] theorem State.setSeq_pending (v : Sequencer) : (s.setSeq v).pending = s.pending := rfl
@[simp] theorem State.setSeq_regs (v : Sequencer) : (s.setSeq v).regs = s.regs := rfl
@[simp] theorem State.setSeq_run (v : Sequencer) : (s.setSeq v).run = s.run := rfl
@[simp] theorem State.setSeq_rb (v : Sequencer) : (s.setSeq v).rb = s.rb := rfl
@[simp] theorem State.setSeq_deck (v : Sequencer) : (s.setSeq v).deck = s.deck := rfl
@[simp] theorem State.setSeq_seq (v : Sequencer) : (s.setSeq v).seq = v := rfl
@[simp] theorem State.setSeq_frame (v : Sequencer) : (s.setSeq v).frame = s.frame := rfl
@[simp] theorem State.setSeq_ring (v : Sequencer) : (s.setSeq v).ring = s.ring := rfl
@[simp] theorem State.setSeq_dp (v : Sequencer) : (s.setSeq v).dp = s.dp := rfl
@[simp] theorem State.setSeq_tables (v : Sequencer) : (s.setSeq v).tables = s.tables := rfl
@[simp] theorem State.setSeq_scan (v : Sequencer) : (s.setSeq v).scan = s.scan := rfl
@[simp] theorem State.setSeq_power (v : Sequencer) : (s.setSeq v).power = s.power := rfl
@[simp] theorem State.setSeq_film (v : Sequencer) : (s.setSeq v).film = s.film := rfl
@[simp] theorem State.setSeq_pins (v : Sequencer) : (s.setSeq v).pins = s.pins := rfl
@[simp] theorem State.setSeq_bus (v : Sequencer) : (s.setSeq v).bus = s.bus := rfl
@[simp] theorem State.setSeq_nextId (v : Sequencer) : (s.setSeq v).nextId = s.nextId := rfl

@[simp] theorem State.setFrame_pending (v : FrameExposure) : (s.setFrame v).pending = s.pending := rfl
@[simp] theorem State.setFrame_regs (v : FrameExposure) : (s.setFrame v).regs = s.regs := rfl
@[simp] theorem State.setFrame_run (v : FrameExposure) : (s.setFrame v).run = s.run := rfl
@[simp] theorem State.setFrame_rb (v : FrameExposure) : (s.setFrame v).rb = s.rb := rfl
@[simp] theorem State.setFrame_deck (v : FrameExposure) : (s.setFrame v).deck = s.deck := rfl
@[simp] theorem State.setFrame_seq (v : FrameExposure) : (s.setFrame v).seq = s.seq := rfl
@[simp] theorem State.setFrame_frame (v : FrameExposure) : (s.setFrame v).frame = v := rfl
@[simp] theorem State.setFrame_ring (v : FrameExposure) : (s.setFrame v).ring = s.ring := rfl
@[simp] theorem State.setFrame_dp (v : FrameExposure) : (s.setFrame v).dp = s.dp := rfl
@[simp] theorem State.setFrame_tables (v : FrameExposure) : (s.setFrame v).tables = s.tables := rfl
@[simp] theorem State.setFrame_scan (v : FrameExposure) : (s.setFrame v).scan = s.scan := rfl
@[simp] theorem State.setFrame_power (v : FrameExposure) : (s.setFrame v).power = s.power := rfl
@[simp] theorem State.setFrame_film (v : FrameExposure) : (s.setFrame v).film = s.film := rfl
@[simp] theorem State.setFrame_pins (v : FrameExposure) : (s.setFrame v).pins = s.pins := rfl
@[simp] theorem State.setFrame_bus (v : FrameExposure) : (s.setFrame v).bus = s.bus := rfl
@[simp] theorem State.setFrame_nextId (v : FrameExposure) : (s.setFrame v).nextId = s.nextId := rfl

@[simp] theorem State.setRing_pending (v : LineRing) : (s.setRing v).pending = s.pending := rfl
@[simp] theorem State.setRing_regs (v : LineRing) : (s.setRing v).regs = s.regs := rfl
@[simp] theorem State.setRing_run (v : LineRing) : (s.setRing v).run = s.run := rfl
@[simp] theorem State.setRing_rb (v : LineRing) : (s.setRing v).rb = s.rb := rfl
@[simp] theorem State.setRing_deck (v : LineRing) : (s.setRing v).deck = s.deck := rfl
@[simp] theorem State.setRing_seq (v : LineRing) : (s.setRing v).seq = s.seq := rfl
@[simp] theorem State.setRing_frame (v : LineRing) : (s.setRing v).frame = s.frame := rfl
@[simp] theorem State.setRing_ring (v : LineRing) : (s.setRing v).ring = v := rfl
@[simp] theorem State.setRing_dp (v : LineRing) : (s.setRing v).dp = s.dp := rfl
@[simp] theorem State.setRing_tables (v : LineRing) : (s.setRing v).tables = s.tables := rfl
@[simp] theorem State.setRing_scan (v : LineRing) : (s.setRing v).scan = s.scan := rfl
@[simp] theorem State.setRing_power (v : LineRing) : (s.setRing v).power = s.power := rfl
@[simp] theorem State.setRing_film (v : LineRing) : (s.setRing v).film = s.film := rfl
@[simp] theorem State.setRing_pins (v : LineRing) : (s.setRing v).pins = s.pins := rfl
@[simp] theorem State.setRing_bus (v : LineRing) : (s.setRing v).bus = s.bus := rfl
@[simp] theorem State.setRing_nextId (v : LineRing) : (s.setRing v).nextId = s.nextId := rfl

@[simp] theorem State.setDp_pending (v : Datapath) : (s.setDp v).pending = s.pending := rfl
@[simp] theorem State.setDp_regs (v : Datapath) : (s.setDp v).regs = s.regs := rfl
@[simp] theorem State.setDp_run (v : Datapath) : (s.setDp v).run = s.run := rfl
@[simp] theorem State.setDp_rb (v : Datapath) : (s.setDp v).rb = s.rb := rfl
@[simp] theorem State.setDp_deck (v : Datapath) : (s.setDp v).deck = s.deck := rfl
@[simp] theorem State.setDp_seq (v : Datapath) : (s.setDp v).seq = s.seq := rfl
@[simp] theorem State.setDp_frame (v : Datapath) : (s.setDp v).frame = s.frame := rfl
@[simp] theorem State.setDp_ring (v : Datapath) : (s.setDp v).ring = s.ring := rfl
@[simp] theorem State.setDp_dp (v : Datapath) : (s.setDp v).dp = v := rfl
@[simp] theorem State.setDp_tables (v : Datapath) : (s.setDp v).tables = s.tables := rfl
@[simp] theorem State.setDp_scan (v : Datapath) : (s.setDp v).scan = s.scan := rfl
@[simp] theorem State.setDp_power (v : Datapath) : (s.setDp v).power = s.power := rfl
@[simp] theorem State.setDp_film (v : Datapath) : (s.setDp v).film = s.film := rfl
@[simp] theorem State.setDp_pins (v : Datapath) : (s.setDp v).pins = s.pins := rfl
@[simp] theorem State.setDp_bus (v : Datapath) : (s.setDp v).bus = s.bus := rfl
@[simp] theorem State.setDp_nextId (v : Datapath) : (s.setDp v).nextId = s.nextId := rfl

@[simp] theorem State.setTables_pending (v : TableStore) : (s.setTables v).pending = s.pending := rfl
@[simp] theorem State.setTables_regs (v : TableStore) : (s.setTables v).regs = s.regs := rfl
@[simp] theorem State.setTables_run (v : TableStore) : (s.setTables v).run = s.run := rfl
@[simp] theorem State.setTables_rb (v : TableStore) : (s.setTables v).rb = s.rb := rfl
@[simp] theorem State.setTables_deck (v : TableStore) : (s.setTables v).deck = s.deck := rfl
@[simp] theorem State.setTables_seq (v : TableStore) : (s.setTables v).seq = s.seq := rfl
@[simp] theorem State.setTables_frame (v : TableStore) : (s.setTables v).frame = s.frame := rfl
@[simp] theorem State.setTables_ring (v : TableStore) : (s.setTables v).ring = s.ring := rfl
@[simp] theorem State.setTables_dp (v : TableStore) : (s.setTables v).dp = s.dp := rfl
@[simp] theorem State.setTables_tables (v : TableStore) : (s.setTables v).tables = v := rfl
@[simp] theorem State.setTables_scan (v : TableStore) : (s.setTables v).scan = s.scan := rfl
@[simp] theorem State.setTables_power (v : TableStore) : (s.setTables v).power = s.power := rfl
@[simp] theorem State.setTables_film (v : TableStore) : (s.setTables v).film = s.film := rfl
@[simp] theorem State.setTables_pins (v : TableStore) : (s.setTables v).pins = s.pins := rfl
@[simp] theorem State.setTables_bus (v : TableStore) : (s.setTables v).bus = s.bus := rfl
@[simp] theorem State.setTables_nextId (v : TableStore) : (s.setTables v).nextId = s.nextId := rfl

@[simp] theorem State.setScan_pending (v : ScanTiming) : (s.setScan v).pending = s.pending := rfl
@[simp] theorem State.setScan_regs (v : ScanTiming) : (s.setScan v).regs = s.regs := rfl
@[simp] theorem State.setScan_run (v : ScanTiming) : (s.setScan v).run = s.run := rfl
@[simp] theorem State.setScan_rb (v : ScanTiming) : (s.setScan v).rb = s.rb := rfl
@[simp] theorem State.setScan_deck (v : ScanTiming) : (s.setScan v).deck = s.deck := rfl
@[simp] theorem State.setScan_seq (v : ScanTiming) : (s.setScan v).seq = s.seq := rfl
@[simp] theorem State.setScan_frame (v : ScanTiming) : (s.setScan v).frame = s.frame := rfl
@[simp] theorem State.setScan_ring (v : ScanTiming) : (s.setScan v).ring = s.ring := rfl
@[simp] theorem State.setScan_dp (v : ScanTiming) : (s.setScan v).dp = s.dp := rfl
@[simp] theorem State.setScan_tables (v : ScanTiming) : (s.setScan v).tables = s.tables := rfl
@[simp] theorem State.setScan_scan (v : ScanTiming) : (s.setScan v).scan = v := rfl
@[simp] theorem State.setScan_power (v : ScanTiming) : (s.setScan v).power = s.power := rfl
@[simp] theorem State.setScan_film (v : ScanTiming) : (s.setScan v).film = s.film := rfl
@[simp] theorem State.setScan_pins (v : ScanTiming) : (s.setScan v).pins = s.pins := rfl
@[simp] theorem State.setScan_bus (v : ScanTiming) : (s.setScan v).bus = s.bus := rfl
@[simp] theorem State.setScan_nextId (v : ScanTiming) : (s.setScan v).nextId = s.nextId := rfl

@[simp] theorem State.setPower_pending (v : Power) : (s.setPower v).pending = s.pending := rfl
@[simp] theorem State.setPower_regs (v : Power) : (s.setPower v).regs = s.regs := rfl
@[simp] theorem State.setPower_run (v : Power) : (s.setPower v).run = s.run := rfl
@[simp] theorem State.setPower_rb (v : Power) : (s.setPower v).rb = s.rb := rfl
@[simp] theorem State.setPower_deck (v : Power) : (s.setPower v).deck = s.deck := rfl
@[simp] theorem State.setPower_seq (v : Power) : (s.setPower v).seq = s.seq := rfl
@[simp] theorem State.setPower_frame (v : Power) : (s.setPower v).frame = s.frame := rfl
@[simp] theorem State.setPower_ring (v : Power) : (s.setPower v).ring = s.ring := rfl
@[simp] theorem State.setPower_dp (v : Power) : (s.setPower v).dp = s.dp := rfl
@[simp] theorem State.setPower_tables (v : Power) : (s.setPower v).tables = s.tables := rfl
@[simp] theorem State.setPower_scan (v : Power) : (s.setPower v).scan = s.scan := rfl
@[simp] theorem State.setPower_power (v : Power) : (s.setPower v).power = v := rfl
@[simp] theorem State.setPower_film (v : Power) : (s.setPower v).film = s.film := rfl
@[simp] theorem State.setPower_pins (v : Power) : (s.setPower v).pins = s.pins := rfl
@[simp] theorem State.setPower_bus (v : Power) : (s.setPower v).bus = s.bus := rfl
@[simp] theorem State.setPower_nextId (v : Power) : (s.setPower v).nextId = s.nextId := rfl

@[simp] theorem State.setFilm_pending (v : Film) : (s.setFilm v).pending = s.pending := rfl
@[simp] theorem State.setFilm_regs (v : Film) : (s.setFilm v).regs = s.regs := rfl
@[simp] theorem State.setFilm_run (v : Film) : (s.setFilm v).run = s.run := rfl
@[simp] theorem State.setFilm_rb (v : Film) : (s.setFilm v).rb = s.rb := rfl
@[simp] theorem State.setFilm_deck (v : Film) : (s.setFilm v).deck = s.deck := rfl
@[simp] theorem State.setFilm_seq (v : Film) : (s.setFilm v).seq = s.seq := rfl
@[simp] theorem State.setFilm_frame (v : Film) : (s.setFilm v).frame = s.frame := rfl
@[simp] theorem State.setFilm_ring (v : Film) : (s.setFilm v).ring = s.ring := rfl
@[simp] theorem State.setFilm_dp (v : Film) : (s.setFilm v).dp = s.dp := rfl
@[simp] theorem State.setFilm_tables (v : Film) : (s.setFilm v).tables = s.tables := rfl
@[simp] theorem State.setFilm_scan (v : Film) : (s.setFilm v).scan = s.scan := rfl
@[simp] theorem State.setFilm_power (v : Film) : (s.setFilm v).power = s.power := rfl
@[simp] theorem State.setFilm_film (v : Film) : (s.setFilm v).film = v := rfl
@[simp] theorem State.setFilm_pins (v : Film) : (s.setFilm v).pins = s.pins := rfl
@[simp] theorem State.setFilm_bus (v : Film) : (s.setFilm v).bus = s.bus := rfl
@[simp] theorem State.setFilm_nextId (v : Film) : (s.setFilm v).nextId = s.nextId := rfl

@[simp] theorem State.setPins_pending (v : Pins) : (s.setPins v).pending = s.pending := rfl
@[simp] theorem State.setPins_regs (v : Pins) : (s.setPins v).regs = s.regs := rfl
@[simp] theorem State.setPins_run (v : Pins) : (s.setPins v).run = s.run := rfl
@[simp] theorem State.setPins_rb (v : Pins) : (s.setPins v).rb = s.rb := rfl
@[simp] theorem State.setPins_deck (v : Pins) : (s.setPins v).deck = s.deck := rfl
@[simp] theorem State.setPins_seq (v : Pins) : (s.setPins v).seq = s.seq := rfl
@[simp] theorem State.setPins_frame (v : Pins) : (s.setPins v).frame = s.frame := rfl
@[simp] theorem State.setPins_ring (v : Pins) : (s.setPins v).ring = s.ring := rfl
@[simp] theorem State.setPins_dp (v : Pins) : (s.setPins v).dp = s.dp := rfl
@[simp] theorem State.setPins_tables (v : Pins) : (s.setPins v).tables = s.tables := rfl
@[simp] theorem State.setPins_scan (v : Pins) : (s.setPins v).scan = s.scan := rfl
@[simp] theorem State.setPins_power (v : Pins) : (s.setPins v).power = s.power := rfl
@[simp] theorem State.setPins_film (v : Pins) : (s.setPins v).film = s.film := rfl
@[simp] theorem State.setPins_pins (v : Pins) : (s.setPins v).pins = v := rfl
@[simp] theorem State.setPins_bus (v : Pins) : (s.setPins v).bus = s.bus := rfl
@[simp] theorem State.setPins_nextId (v : Pins) : (s.setPins v).nextId = s.nextId := rfl

@[simp] theorem State.setBus_pending (v : List BusOp) : (s.setBus v).pending = s.pending := rfl
@[simp] theorem State.setBus_regs (v : List BusOp) : (s.setBus v).regs = s.regs := rfl
@[simp] theorem State.setBus_run (v : List BusOp) : (s.setBus v).run = s.run := rfl
@[simp] theorem State.setBus_rb (v : List BusOp) : (s.setBus v).rb = s.rb := rfl
@[simp] theorem State.setBus_deck (v : List BusOp) : (s.setBus v).deck = s.deck := rfl
@[simp] theorem State.setBus_seq (v : List BusOp) : (s.setBus v).seq = s.seq := rfl
@[simp] theorem State.setBus_frame (v : List BusOp) : (s.setBus v).frame = s.frame := rfl
@[simp] theorem State.setBus_ring (v : List BusOp) : (s.setBus v).ring = s.ring := rfl
@[simp] theorem State.setBus_dp (v : List BusOp) : (s.setBus v).dp = s.dp := rfl
@[simp] theorem State.setBus_tables (v : List BusOp) : (s.setBus v).tables = s.tables := rfl
@[simp] theorem State.setBus_scan (v : List BusOp) : (s.setBus v).scan = s.scan := rfl
@[simp] theorem State.setBus_power (v : List BusOp) : (s.setBus v).power = s.power := rfl
@[simp] theorem State.setBus_film (v : List BusOp) : (s.setBus v).film = s.film := rfl
@[simp] theorem State.setBus_pins (v : List BusOp) : (s.setBus v).pins = s.pins := rfl
@[simp] theorem State.setBus_bus (v : List BusOp) : (s.setBus v).bus = v := rfl
@[simp] theorem State.setBus_nextId (v : List BusOp) : (s.setBus v).nextId = s.nextId := rfl

@[simp] theorem State.setNextId_pending (v : Nat) : (s.setNextId v).pending = s.pending := rfl
@[simp] theorem State.setNextId_regs (v : Nat) : (s.setNextId v).regs = s.regs := rfl
@[simp] theorem State.setNextId_run (v : Nat) : (s.setNextId v).run = s.run := rfl
@[simp] theorem State.setNextId_rb (v : Nat) : (s.setNextId v).rb = s.rb := rfl
@[simp] theorem State.setNextId_deck (v : Nat) : (s.setNextId v).deck = s.deck := rfl
@[simp] theorem State.setNextId_seq (v : Nat) : (s.setNextId v).seq = s.seq := rfl
@[simp] theorem State.setNextId_frame (v : Nat) : (s.setNextId v).frame = s.frame := rfl
@[simp] theorem State.setNextId_ring (v : Nat) : (s.setNextId v).ring = s.ring := rfl
@[simp] theorem State.setNextId_dp (v : Nat) : (s.setNextId v).dp = s.dp := rfl
@[simp] theorem State.setNextId_tables (v : Nat) : (s.setNextId v).tables = s.tables := rfl
@[simp] theorem State.setNextId_scan (v : Nat) : (s.setNextId v).scan = s.scan := rfl
@[simp] theorem State.setNextId_power (v : Nat) : (s.setNextId v).power = s.power := rfl
@[simp] theorem State.setNextId_film (v : Nat) : (s.setNextId v).film = s.film := rfl
@[simp] theorem State.setNextId_pins (v : Nat) : (s.setNextId v).pins = s.pins := rfl
@[simp] theorem State.setNextId_bus (v : Nat) : (s.setNextId v).bus = s.bus := rfl
@[simp] theorem State.setNextId_nextId (v : Nat) : (s.setNextId v).nextId = v := rfl

end Sys2Proof.Machine
end

