-- ==== Sys2Proof/Laws/Flags.lean ====
section
/-! SUPPORT. What raising a cause leaves as it was: one lemma per operation and block of State. -/

namespace Sys2Proof.Machine

@[simp] theorem State.raise_pending (s : State) (c : Cause) : (s.raise c).pending = s.pending := by simp [State.raise]
@[simp] theorem State.raise_run (s : State) (c : Cause) : (s.raise c).run = s.run := by simp [State.raise]
@[simp] theorem State.raise_rb (s : State) (c : Cause) : (s.raise c).rb = s.rb := by simp [State.raise]
@[simp] theorem State.raise_deck (s : State) (c : Cause) : (s.raise c).deck = s.deck := by simp [State.raise]
@[simp] theorem State.raise_seq (s : State) (c : Cause) : (s.raise c).seq = s.seq := by simp [State.raise]
@[simp] theorem State.raise_frame (s : State) (c : Cause) : (s.raise c).frame = s.frame := by simp [State.raise]
@[simp] theorem State.raise_ring (s : State) (c : Cause) : (s.raise c).ring = s.ring := by simp [State.raise]
@[simp] theorem State.raise_dp (s : State) (c : Cause) : (s.raise c).dp = s.dp := by simp [State.raise]
@[simp] theorem State.raise_tables (s : State) (c : Cause) : (s.raise c).tables = s.tables := by simp [State.raise]
@[simp] theorem State.raise_scan (s : State) (c : Cause) : (s.raise c).scan = s.scan := by simp [State.raise]
@[simp] theorem State.raise_power (s : State) (c : Cause) : (s.raise c).power = s.power := by simp [State.raise]
@[simp] theorem State.raise_film (s : State) (c : Cause) : (s.raise c).film = s.film := by simp [State.raise]
@[simp] theorem State.raise_pins (s : State) (c : Cause) : (s.raise c).pins = s.pins := by simp [State.raise]
@[simp] theorem State.raise_bus (s : State) (c : Cause) : (s.raise c).bus = s.bus := by simp [State.raise]
@[simp] theorem State.raise_nextId (s : State) (c : Cause) : (s.raise c).nextId = s.nextId := by simp [State.raise]

end Sys2Proof.Machine
end

