-- ==== Sys2Proof/Laws/Ops.lean ====
section
/-! SUPPORT. What the shared operations leave as it was: one lemma per operation and block of State. -/

namespace Sys2Proof.Machine

@[simp] theorem State.busWrite_pending (s : State) (addr : Addr) (data : List Byte) : (s.busWrite addr data).pending = s.pending :=
  by simp [State.busWrite]
@[simp] theorem State.busWrite_regs (s : State) (addr : Addr) (data : List Byte) : (s.busWrite addr data).regs = s.regs :=
  by simp [State.busWrite]
@[simp] theorem State.busWrite_run (s : State) (addr : Addr) (data : List Byte) : (s.busWrite addr data).run = s.run :=
  by simp [State.busWrite]
@[simp] theorem State.busWrite_rb (s : State) (addr : Addr) (data : List Byte) : (s.busWrite addr data).rb = s.rb :=
  by simp [State.busWrite]
@[simp] theorem State.busWrite_deck (s : State) (addr : Addr) (data : List Byte) : (s.busWrite addr data).deck = s.deck :=
  by simp [State.busWrite]
@[simp] theorem State.busWrite_seq (s : State) (addr : Addr) (data : List Byte) : (s.busWrite addr data).seq = s.seq :=
  by simp [State.busWrite]
@[simp] theorem State.busWrite_frame (s : State) (addr : Addr) (data : List Byte) : (s.busWrite addr data).frame = s.frame :=
  by simp [State.busWrite]
@[simp] theorem State.busWrite_ring (s : State) (addr : Addr) (data : List Byte) : (s.busWrite addr data).ring = s.ring :=
  by simp [State.busWrite]
@[simp] theorem State.busWrite_dp (s : State) (addr : Addr) (data : List Byte) : (s.busWrite addr data).dp = s.dp :=
  by simp [State.busWrite]
@[simp] theorem State.busWrite_tables (s : State) (addr : Addr) (data : List Byte) : (s.busWrite addr data).tables = s.tables :=
  by simp [State.busWrite]
@[simp] theorem State.busWrite_scan (s : State) (addr : Addr) (data : List Byte) : (s.busWrite addr data).scan = s.scan :=
  by simp [State.busWrite]
@[simp] theorem State.busWrite_power (s : State) (addr : Addr) (data : List Byte) : (s.busWrite addr data).power = s.power :=
  by simp [State.busWrite]
@[simp] theorem State.busWrite_film (s : State) (addr : Addr) (data : List Byte) : (s.busWrite addr data).film = s.film :=
  by simp [State.busWrite]
@[simp] theorem State.busWrite_pins (s : State) (addr : Addr) (data : List Byte) : (s.busWrite addr data).pins = s.pins :=
  by simp [State.busWrite]
@[simp] theorem State.busWrite_nextId (s : State) (addr : Addr) (data : List Byte) : (s.busWrite addr data).nextId = s.nextId :=
  by simp [State.busWrite]

@[simp] theorem State.busRead_pending (s : State) (addr : Addr) (bytes : Nat) : (s.busRead addr bytes).pending = s.pending :=
  by simp [State.busRead]
@[simp] theorem State.busRead_regs (s : State) (addr : Addr) (bytes : Nat) : (s.busRead addr bytes).regs = s.regs :=
  by simp [State.busRead]
@[simp] theorem State.busRead_run (s : State) (addr : Addr) (bytes : Nat) : (s.busRead addr bytes).run = s.run :=
  by simp [State.busRead]
@[simp] theorem State.busRead_rb (s : State) (addr : Addr) (bytes : Nat) : (s.busRead addr bytes).rb = s.rb :=
  by simp [State.busRead]
@[simp] theorem State.busRead_deck (s : State) (addr : Addr) (bytes : Nat) : (s.busRead addr bytes).deck = s.deck :=
  by simp [State.busRead]
@[simp] theorem State.busRead_seq (s : State) (addr : Addr) (bytes : Nat) : (s.busRead addr bytes).seq = s.seq :=
  by simp [State.busRead]
@[simp] theorem State.busRead_frame (s : State) (addr : Addr) (bytes : Nat) : (s.busRead addr bytes).frame = s.frame :=
  by simp [State.busRead]
@[simp] theorem State.busRead_ring (s : State) (addr : Addr) (bytes : Nat) : (s.busRead addr bytes).ring = s.ring :=
  by simp [State.busRead]
@[simp] theorem State.busRead_dp (s : State) (addr : Addr) (bytes : Nat) : (s.busRead addr bytes).dp = s.dp :=
  by simp [State.busRead]
@[simp] theorem State.busRead_tables (s : State) (addr : Addr) (bytes : Nat) : (s.busRead addr bytes).tables = s.tables :=
  by simp [State.busRead]
@[simp] theorem State.busRead_scan (s : State) (addr : Addr) (bytes : Nat) : (s.busRead addr bytes).scan = s.scan :=
  by simp [State.busRead]
@[simp] theorem State.busRead_power (s : State) (addr : Addr) (bytes : Nat) : (s.busRead addr bytes).power = s.power :=
  by simp [State.busRead]
@[simp] theorem State.busRead_film (s : State) (addr : Addr) (bytes : Nat) : (s.busRead addr bytes).film = s.film :=
  by simp [State.busRead]
@[simp] theorem State.busRead_pins (s : State) (addr : Addr) (bytes : Nat) : (s.busRead addr bytes).pins = s.pins :=
  by simp [State.busRead]

@[simp] theorem State.refresh_pending (s : State) : s.refresh.pending = s.pending :=
  by unfold State.refresh; split <;> simp
@[simp] theorem State.refresh_regs (s : State) : s.refresh.regs = s.regs := by unfold State.refresh; split <;> simp
@[simp] theorem State.refresh_run (s : State) : s.refresh.run = s.run := by unfold State.refresh; split <;> simp
@[simp] theorem State.refresh_rb (s : State) : s.refresh.rb = s.rb := by unfold State.refresh; split <;> simp
@[simp] theorem State.refresh_seq (s : State) : s.refresh.seq = s.seq := by unfold State.refresh; split <;> simp
@[simp] theorem State.refresh_frame (s : State) : s.refresh.frame = s.frame := by unfold State.refresh; split <;> simp
@[simp] theorem State.refresh_ring (s : State) : s.refresh.ring = s.ring := by unfold State.refresh; split <;> simp
@[simp] theorem State.refresh_dp (s : State) : s.refresh.dp = s.dp := by unfold State.refresh; split <;> simp
@[simp] theorem State.refresh_tables (s : State) : s.refresh.tables = s.tables :=
  by unfold State.refresh; split <;> simp
@[simp] theorem State.refresh_scan (s : State) : s.refresh.scan = s.scan := by unfold State.refresh; split <;> simp
@[simp] theorem State.refresh_power (s : State) : s.refresh.power = s.power := by unfold State.refresh; split <;> simp
@[simp] theorem State.refresh_film (s : State) : s.refresh.film = s.film := by unfold State.refresh; split <;> simp
@[simp] theorem State.refresh_pins (s : State) : s.refresh.pins = s.pins := by unfold State.refresh; split <;> simp
@[simp] theorem State.refresh_nextId (s : State) : s.refresh.nextId = s.nextId :=
  by unfold State.refresh; split <;> simp

@[simp] theorem State.updateGate_pending (s : State) : s.updateGate.pending = s.pending :=
  by unfold State.updateGate; simp only []; (repeat' split) <;> simp_all []
@[simp] theorem State.updateGate_regs (s : State) : s.updateGate.regs = s.regs :=
  by unfold State.updateGate; simp only []; (repeat' split) <;> simp_all []
@[simp] theorem State.updateGate_run (s : State) : s.updateGate.run = s.run :=
  by unfold State.updateGate; simp only []; (repeat' split) <;> simp_all []
@[simp] theorem State.updateGate_rb (s : State) : s.updateGate.rb = s.rb :=
  by unfold State.updateGate; simp only []; (repeat' split) <;> simp_all []
@[simp] theorem State.updateGate_deck (s : State) : s.updateGate.deck = s.deck :=
  by unfold State.updateGate; simp only []; (repeat' split) <;> simp_all []
@[simp] theorem State.updateGate_seq (s : State) : s.updateGate.seq = s.seq :=
  by unfold State.updateGate; simp only []; (repeat' split) <;> simp_all []
@[simp] theorem State.updateGate_frame (s : State) : s.updateGate.frame = s.frame :=
  by unfold State.updateGate; simp only []; (repeat' split) <;> simp_all []
@[simp] theorem State.updateGate_ring (s : State) : s.updateGate.ring = s.ring :=
  by unfold State.updateGate; simp only []; (repeat' split) <;> simp_all []
@[simp] theorem State.updateGate_dp (s : State) : s.updateGate.dp = s.dp :=
  by unfold State.updateGate; simp only []; (repeat' split) <;> simp_all []
@[simp] theorem State.updateGate_tables (s : State) : s.updateGate.tables = s.tables :=
  by unfold State.updateGate; simp only []; (repeat' split) <;> simp_all []
@[simp] theorem State.updateGate_scan (s : State) : s.updateGate.scan = s.scan :=
  by unfold State.updateGate; simp only []; (repeat' split) <;> simp_all []
@[simp] theorem State.updateGate_film (s : State) : s.updateGate.film = s.film :=
  by unfold State.updateGate; simp only []; (repeat' split) <;> simp_all []
@[simp] theorem State.updateGate_pins (s : State) : s.updateGate.pins = s.pins :=
  by unfold State.updateGate; simp only []; (repeat' split) <;> simp_all []
@[simp] theorem State.updateGate_bus (s : State) : s.updateGate.bus = s.bus :=
  by unfold State.updateGate; simp only []; (repeat' split) <;> simp_all []
@[simp] theorem State.updateGate_nextId (s : State) : s.updateGate.nextId = s.nextId :=
  by unfold State.updateGate; simp only []; (repeat' split) <;> simp_all []

@[simp] theorem State.enterRunState_pending (s : State) (r : RunState) : (s.enterRunState r).pending = s.pending :=
  by simp [State.enterRunState]
@[simp] theorem State.enterRunState_regs (s : State) (r : RunState) : (s.enterRunState r).regs = s.regs :=
  by simp [State.enterRunState]
@[simp] theorem State.enterRunState_rb (s : State) (r : RunState) : (s.enterRunState r).rb = s.rb :=
  by simp [State.enterRunState]
@[simp] theorem State.enterRunState_deck (s : State) (r : RunState) : (s.enterRunState r).deck = s.deck :=
  by simp [State.enterRunState]
@[simp] theorem State.enterRunState_seq (s : State) (r : RunState) : (s.enterRunState r).seq = s.seq :=
  by simp [State.enterRunState]
@[simp] theorem State.enterRunState_frame (s : State) (r : RunState) : (s.enterRunState r).frame = s.frame :=
  by simp [State.enterRunState]
@[simp] theorem State.enterRunState_ring (s : State) (r : RunState) : (s.enterRunState r).ring = s.ring :=
  by simp [State.enterRunState]
@[simp] theorem State.enterRunState_dp (s : State) (r : RunState) : (s.enterRunState r).dp = s.dp :=
  by simp [State.enterRunState]
@[simp] theorem State.enterRunState_tables (s : State) (r : RunState) : (s.enterRunState r).tables = s.tables :=
  by simp [State.enterRunState]
@[simp] theorem State.enterRunState_scan (s : State) (r : RunState) : (s.enterRunState r).scan = s.scan :=
  by simp [State.enterRunState]
@[simp] theorem State.enterRunState_film (s : State) (r : RunState) : (s.enterRunState r).film = s.film :=
  by simp [State.enterRunState]
@[simp] theorem State.enterRunState_pins (s : State) (r : RunState) : (s.enterRunState r).pins = s.pins :=
  by simp [State.enterRunState]
@[simp] theorem State.enterRunState_bus (s : State) (r : RunState) : (s.enterRunState r).bus = s.bus :=
  by simp [State.enterRunState]
@[simp] theorem State.enterRunState_nextId (s : State) (r : RunState) : (s.enterRunState r).nextId = s.nextId :=
  by simp [State.enterRunState]

@[simp] theorem State.changeRunState_pending (s : State) (r : RunState) : (s.changeRunState r).pending = s.pending :=
  by simp [State.changeRunState]
@[simp] theorem State.changeRunState_regs (s : State) (r : RunState) : (s.changeRunState r).regs = s.regs :=
  by simp [State.changeRunState]
@[simp] theorem State.changeRunState_rb (s : State) (r : RunState) : (s.changeRunState r).rb = s.rb :=
  by simp [State.changeRunState]
@[simp] theorem State.changeRunState_seq (s : State) (r : RunState) : (s.changeRunState r).seq = s.seq :=
  by simp [State.changeRunState]
@[simp] theorem State.changeRunState_frame (s : State) (r : RunState) : (s.changeRunState r).frame = s.frame :=
  by simp [State.changeRunState]
@[simp] theorem State.changeRunState_ring (s : State) (r : RunState) : (s.changeRunState r).ring = s.ring :=
  by simp [State.changeRunState]
@[simp] theorem State.changeRunState_dp (s : State) (r : RunState) : (s.changeRunState r).dp = s.dp :=
  by simp [State.changeRunState]
@[simp] theorem State.changeRunState_tables (s : State) (r : RunState) : (s.changeRunState r).tables = s.tables :=
  by simp [State.changeRunState]
@[simp] theorem State.changeRunState_scan (s : State) (r : RunState) : (s.changeRunState r).scan = s.scan :=
  by simp [State.changeRunState]
@[simp] theorem State.changeRunState_film (s : State) (r : RunState) : (s.changeRunState r).film = s.film :=
  by simp [State.changeRunState]
@[simp] theorem State.changeRunState_pins (s : State) (r : RunState) : (s.changeRunState r).pins = s.pins :=
  by simp [State.changeRunState]
@[simp] theorem State.changeRunState_nextId (s : State) (r : RunState) : (s.changeRunState r).nextId = s.nextId :=
  by simp [State.changeRunState]

@[simp] theorem State.stopSeekOfWaiting_pending (s : State) : s.stopSeekOfWaiting.pending = s.pending :=
  by unfold State.stopSeekOfWaiting; split <;> simp
@[simp] theorem State.stopSeekOfWaiting_regs (s : State) : s.stopSeekOfWaiting.regs = s.regs :=
  by unfold State.stopSeekOfWaiting; split <;> simp
@[simp] theorem State.stopSeekOfWaiting_run (s : State) : s.stopSeekOfWaiting.run = s.run :=
  by unfold State.stopSeekOfWaiting; split <;> simp
@[simp] theorem State.stopSeekOfWaiting_rb (s : State) : s.stopSeekOfWaiting.rb = s.rb :=
  by unfold State.stopSeekOfWaiting; split <;> simp
@[simp] theorem State.stopSeekOfWaiting_seq (s : State) : s.stopSeekOfWaiting.seq = s.seq :=
  by unfold State.stopSeekOfWaiting; split <;> simp
@[simp] theorem State.stopSeekOfWaiting_frame (s : State) : s.stopSeekOfWaiting.frame = s.frame :=
  by unfold State.stopSeekOfWaiting; split <;> simp
@[simp] theorem State.stopSeekOfWaiting_ring (s : State) : s.stopSeekOfWaiting.ring = s.ring :=
  by unfold State.stopSeekOfWaiting; split <;> simp
@[simp] theorem State.stopSeekOfWaiting_dp (s : State) : s.stopSeekOfWaiting.dp = s.dp :=
  by unfold State.stopSeekOfWaiting; split <;> simp
@[simp] theorem State.stopSeekOfWaiting_tables (s : State) : s.stopSeekOfWaiting.tables = s.tables :=
  by unfold State.stopSeekOfWaiting; split <;> simp
@[simp] theorem State.stopSeekOfWaiting_scan (s : State) : s.stopSeekOfWaiting.scan = s.scan :=
  by unfold State.stopSeekOfWaiting; split <;> simp
@[simp] theorem State.stopSeekOfWaiting_power (s : State) : s.stopSeekOfWaiting.power = s.power :=
  by unfold State.stopSeekOfWaiting; split <;> simp
@[simp] theorem State.stopSeekOfWaiting_film (s : State) : s.stopSeekOfWaiting.film = s.film :=
  by unfold State.stopSeekOfWaiting; split <;> simp
@[simp] theorem State.stopSeekOfWaiting_pins (s : State) : s.stopSeekOfWaiting.pins = s.pins :=
  by unfold State.stopSeekOfWaiting; split <;> simp
@[simp] theorem State.stopSeekOfWaiting_bus (s : State) : s.stopSeekOfWaiting.bus = s.bus :=
  by unfold State.stopSeekOfWaiting; split <;> simp
@[simp] theorem State.stopSeekOfWaiting_nextId (s : State) : s.stopSeekOfWaiting.nextId = s.nextId :=
  by unfold State.stopSeekOfWaiting; split <;> simp

@[simp] theorem State.halt_pending (s : State) (c : HaltCause) : (s.halt c).pending = s.pending :=
  by unfold State.halt; (repeat' split) <;> simp
@[simp] theorem State.halt_rb (s : State) (c : HaltCause) : (s.halt c).rb = s.rb :=
  by unfold State.halt; (repeat' split) <;> simp
@[simp] theorem State.halt_seq (s : State) (c : HaltCause) : (s.halt c).seq = s.seq :=
  by unfold State.halt; (repeat' split) <;> simp
@[simp] theorem State.halt_frame (s : State) (c : HaltCause) : (s.halt c).frame = s.frame :=
  by unfold State.halt; (repeat' split) <;> simp
@[simp] theorem State.halt_ring (s : State) (c : HaltCause) : (s.halt c).ring = s.ring :=
  by unfold State.halt; (repeat' split) <;> simp
@[simp] theorem State.halt_dp (s : State) (c : HaltCause) : (s.halt c).dp = s.dp :=
  by unfold State.halt; (repeat' split) <;> simp
@[simp] theorem State.halt_tables (s : State) (c : HaltCause) : (s.halt c).tables = s.tables :=
  by unfold State.halt; (repeat' split) <;> simp
@[simp] theorem State.halt_scan (s : State) (c : HaltCause) : (s.halt c).scan = s.scan :=
  by unfold State.halt; (repeat' split) <;> simp
@[simp] theorem State.halt_film (s : State) (c : HaltCause) : (s.halt c).film = s.film :=
  by unfold State.halt; (repeat' split) <;> simp
@[simp] theorem State.halt_pins (s : State) (c : HaltCause) : (s.halt c).pins = s.pins :=
  by unfold State.halt; (repeat' split) <;> simp
@[simp] theorem State.halt_nextId (s : State) (c : HaltCause) : (s.halt c).nextId = s.nextId :=
  by unfold State.halt; (repeat' split) <;> simp

@[simp] theorem State.enterHeld_pending (s : State) (mark : Bool) : (s.enterHeld mark).pending = s.pending :=
  by unfold State.enterHeld; split <;> simp
@[simp] theorem State.enterHeld_rb (s : State) (mark : Bool) : (s.enterHeld mark).rb = s.rb :=
  by unfold State.enterHeld; split <;> simp
@[simp] theorem State.enterHeld_seq (s : State) (mark : Bool) : (s.enterHeld mark).seq = s.seq :=
  by unfold State.enterHeld; split <;> simp
@[simp] theorem State.enterHeld_frame (s : State) (mark : Bool) : (s.enterHeld mark).frame = s.frame :=
  by unfold State.enterHeld; split <;> simp
@[simp] theorem State.enterHeld_ring (s : State) (mark : Bool) : (s.enterHeld mark).ring = s.ring :=
  by unfold State.enterHeld; split <;> simp
@[simp] theorem State.enterHeld_dp (s : State) (mark : Bool) : (s.enterHeld mark).dp = s.dp :=
  by unfold State.enterHeld; split <;> simp
@[simp] theorem State.enterHeld_tables (s : State) (mark : Bool) : (s.enterHeld mark).tables = s.tables :=
  by unfold State.enterHeld; split <;> simp
@[simp] theorem State.enterHeld_scan (s : State) (mark : Bool) : (s.enterHeld mark).scan = s.scan :=
  by unfold State.enterHeld; split <;> simp
@[simp] theorem State.enterHeld_film (s : State) (mark : Bool) : (s.enterHeld mark).film = s.film :=
  by unfold State.enterHeld; split <;> simp
@[simp] theorem State.enterHeld_pins (s : State) (mark : Bool) : (s.enterHeld mark).pins = s.pins :=
  by unfold State.enterHeld; split <;> simp
@[simp] theorem State.enterHeld_nextId (s : State) (mark : Bool) : (s.enterHeld mark).nextId = s.nextId :=
  by unfold State.enterHeld; split <;> simp

@[simp] theorem State.answer_pending (s : State) (o : CommandOutcome) : (s.answer o).pending = s.pending :=
  by simp [State.answer]
@[simp] theorem State.answer_regs (s : State) (o : CommandOutcome) : (s.answer o).regs = s.regs :=
  by simp [State.answer]
@[simp] theorem State.answer_rb (s : State) (o : CommandOutcome) : (s.answer o).rb = s.rb := by simp [State.answer]
@[simp] theorem State.answer_deck (s : State) (o : CommandOutcome) : (s.answer o).deck = s.deck :=
  by simp [State.answer]
@[simp] theorem State.answer_seq (s : State) (o : CommandOutcome) : (s.answer o).seq = s.seq := by simp [State.answer]
@[simp] theorem State.answer_frame (s : State) (o : CommandOutcome) : (s.answer o).frame = s.frame :=
  by simp [State.answer]
@[simp] theorem State.answer_ring (s : State) (o : CommandOutcome) : (s.answer o).ring = s.ring :=
  by simp [State.answer]
@[simp] theorem State.answer_dp (s : State) (o : CommandOutcome) : (s.answer o).dp = s.dp := by simp [State.answer]
@[simp] theorem State.answer_tables (s : State) (o : CommandOutcome) : (s.answer o).tables = s.tables :=
  by simp [State.answer]
@[simp] theorem State.answer_scan (s : State) (o : CommandOutcome) : (s.answer o).scan = s.scan :=
  by simp [State.answer]
@[simp] theorem State.answer_power (s : State) (o : CommandOutcome) : (s.answer o).power = s.power :=
  by simp [State.answer]
@[simp] theorem State.answer_film (s : State) (o : CommandOutcome) : (s.answer o).film = s.film :=
  by simp [State.answer]
@[simp] theorem State.answer_pins (s : State) (o : CommandOutcome) : (s.answer o).pins = s.pins :=
  by simp [State.answer]
@[simp] theorem State.answer_bus (s : State) (o : CommandOutcome) : (s.answer o).bus = s.bus := by simp [State.answer]
@[simp] theorem State.answer_nextId (s : State) (o : CommandOutcome) : (s.answer o).nextId = s.nextId :=
  by simp [State.answer]

@[simp] theorem State.writeResult_pending (s : State) (index : Nat) (r : CardResult) : (s.writeResult index r).pending = s.pending :=
  by unfold State.writeResult; (repeat' split) <;> simp
@[simp] theorem State.writeResult_regs (s : State) (index : Nat) (r : CardResult) : (s.writeResult index r).regs = s.regs :=
  by unfold State.writeResult; (repeat' split) <;> simp
@[simp] theorem State.writeResult_run (s : State) (index : Nat) (r : CardResult) : (s.writeResult index r).run = s.run :=
  by unfold State.writeResult; (repeat' split) <;> simp
@[simp] theorem State.writeResult_rb (s : State) (index : Nat) (r : CardResult) : (s.writeResult index r).rb = s.rb :=
  by unfold State.writeResult; (repeat' split) <;> simp
@[simp] theorem State.writeResult_seq (s : State) (index : Nat) (r : CardResult) : (s.writeResult index r).seq = s.seq :=
  by unfold State.writeResult; (repeat' split) <;> simp
@[simp] theorem State.writeResult_frame (s : State) (index : Nat) (r : CardResult) : (s.writeResult index r).frame = s.frame :=
  by unfold State.writeResult; (repeat' split) <;> simp
@[simp] theorem State.writeResult_ring (s : State) (index : Nat) (r : CardResult) : (s.writeResult index r).ring = s.ring :=
  by unfold State.writeResult; (repeat' split) <;> simp
@[simp] theorem State.writeResult_dp (s : State) (index : Nat) (r : CardResult) : (s.writeResult index r).dp = s.dp :=
  by unfold State.writeResult; (repeat' split) <;> simp
@[simp] theorem State.writeResult_tables (s : State) (index : Nat) (r : CardResult) : (s.writeResult index r).tables = s.tables :=
  by unfold State.writeResult; (repeat' split) <;> simp
@[simp] theorem State.writeResult_scan (s : State) (index : Nat) (r : CardResult) : (s.writeResult index r).scan = s.scan :=
  by unfold State.writeResult; (repeat' split) <;> simp
@[simp] theorem State.writeResult_power (s : State) (index : Nat) (r : CardResult) : (s.writeResult index r).power = s.power :=
  by unfold State.writeResult; (repeat' split) <;> simp
@[simp] theorem State.writeResult_film (s : State) (index : Nat) (r : CardResult) : (s.writeResult index r).film = s.film :=
  by unfold State.writeResult; (repeat' split) <;> simp
@[simp] theorem State.writeResult_pins (s : State) (index : Nat) (r : CardResult) : (s.writeResult index r).pins = s.pins :=
  by unfold State.writeResult; (repeat' split) <;> simp
@[simp] theorem State.writeResult_nextId (s : State) (index : Nat) (r : CardResult) : (s.writeResult index r).nextId = s.nextId :=
  by unfold State.writeResult; (repeat' split) <;> simp

@[simp] theorem State.handResult_pending (s : State) (r : CardResult) : (s.handResult r).pending = s.pending :=
  by simp [State.handResult]
@[simp] theorem State.handResult_regs (s : State) (r : CardResult) : (s.handResult r).regs = s.regs :=
  by simp [State.handResult]
@[simp] theorem State.handResult_run (s : State) (r : CardResult) : (s.handResult r).run = s.run :=
  by simp [State.handResult]
@[simp] theorem State.handResult_rb (s : State) (r : CardResult) : (s.handResult r).rb = s.rb :=
  by simp [State.handResult]
@[simp] theorem State.handResult_frame (s : State) (r : CardResult) : (s.handResult r).frame = s.frame :=
  by simp [State.handResult]
@[simp] theorem State.handResult_ring (s : State) (r : CardResult) : (s.handResult r).ring = s.ring :=
  by simp [State.handResult]
@[simp] theorem State.handResult_dp (s : State) (r : CardResult) : (s.handResult r).dp = s.dp :=
  by simp [State.handResult]
@[simp] theorem State.handResult_tables (s : State) (r : CardResult) : (s.handResult r).tables = s.tables :=
  by simp [State.handResult]
@[simp] theorem State.handResult_scan (s : State) (r : CardResult) : (s.handResult r).scan = s.scan :=
  by simp [State.handResult]
@[simp] theorem State.handResult_power (s : State) (r : CardResult) : (s.handResult r).power = s.power :=
  by simp [State.handResult]
@[simp] theorem State.handResult_film (s : State) (r : CardResult) : (s.handResult r).film = s.film :=
  by simp [State.handResult]
@[simp] theorem State.handResult_pins (s : State) (r : CardResult) : (s.handResult r).pins = s.pins :=
  by simp [State.handResult]
@[simp] theorem State.handResult_nextId (s : State) (r : CardResult) : (s.handResult r).nextId = s.nextId :=
  by simp [State.handResult]

@[simp] theorem State.seekDeck_pending (s : State) : s.seekDeck.pending = s.pending := by simp [State.seekDeck]
@[simp] theorem State.seekDeck_regs (s : State) : s.seekDeck.regs = s.regs := by simp [State.seekDeck]
@[simp] theorem State.seekDeck_run (s : State) : s.seekDeck.run = s.run := by simp [State.seekDeck]
@[simp] theorem State.seekDeck_rb (s : State) : s.seekDeck.rb = s.rb := by simp [State.seekDeck]
@[simp] theorem State.seekDeck_seq (s : State) : s.seekDeck.seq = s.seq := by simp [State.seekDeck]
@[simp] theorem State.seekDeck_frame (s : State) : s.seekDeck.frame = s.frame := by simp [State.seekDeck]
@[simp] theorem State.seekDeck_ring (s : State) : s.seekDeck.ring = s.ring := by simp [State.seekDeck]
@[simp] theorem State.seekDeck_dp (s : State) : s.seekDeck.dp = s.dp := by simp [State.seekDeck]
@[simp] theorem State.seekDeck_tables (s : State) : s.seekDeck.tables = s.tables := by simp [State.seekDeck]
@[simp] theorem State.seekDeck_scan (s : State) : s.seekDeck.scan = s.scan := by simp [State.seekDeck]
@[simp] theorem State.seekDeck_power (s : State) : s.seekDeck.power = s.power := by simp [State.seekDeck]
@[simp] theorem State.seekDeck_film (s : State) : s.seekDeck.film = s.film := by simp [State.seekDeck]
@[simp] theorem State.seekDeck_pins (s : State) : s.seekDeck.pins = s.pins := by simp [State.seekDeck]

@[simp] theorem State.returnDeck_pending (s : State) : s.returnDeck.pending = s.pending :=
  by unfold State.returnDeck; split <;> simp
@[simp] theorem State.returnDeck_run (s : State) : s.returnDeck.run = s.run :=
  by unfold State.returnDeck; split <;> simp
@[simp] theorem State.returnDeck_rb (s : State) : s.returnDeck.rb = s.rb := by unfold State.returnDeck; split <;> simp
@[simp] theorem State.returnDeck_seq (s : State) : s.returnDeck.seq = s.seq :=
  by unfold State.returnDeck; split <;> simp
@[simp] theorem State.returnDeck_frame (s : State) : s.returnDeck.frame = s.frame :=
  by unfold State.returnDeck; split <;> simp
@[simp] theorem State.returnDeck_ring (s : State) : s.returnDeck.ring = s.ring :=
  by unfold State.returnDeck; split <;> simp
@[simp] theorem State.returnDeck_dp (s : State) : s.returnDeck.dp = s.dp := by unfold State.returnDeck; split <;> simp
@[simp] theorem State.returnDeck_tables (s : State) : s.returnDeck.tables = s.tables :=
  by unfold State.returnDeck; split <;> simp
@[simp] theorem State.returnDeck_scan (s : State) : s.returnDeck.scan = s.scan :=
  by unfold State.returnDeck; split <;> simp
@[simp] theorem State.returnDeck_power (s : State) : s.returnDeck.power = s.power :=
  by unfold State.returnDeck; split <;> simp
@[simp] theorem State.returnDeck_film (s : State) : s.returnDeck.film = s.film :=
  by unfold State.returnDeck; split <;> simp
@[simp] theorem State.returnDeck_pins (s : State) : s.returnDeck.pins = s.pins :=
  by unfold State.returnDeck; split <;> simp
@[simp] theorem State.returnDeck_nextId (s : State) : s.returnDeck.nextId = s.nextId :=
  by unfold State.returnDeck; split <;> simp

end Sys2Proof.Machine
end

