-- ==== Sys2Proof/Laws/Ring.lean ====
section
/-! SUPPORT. What the Line Ring and the fetch engine leave as it was: one lemma per operation and block of State. -/

namespace Sys2Proof.Machine

@[simp] theorem State.tryCross_pending (s : State) : s.tryCross.pending = s.pending :=
  by unfold State.tryCross; split <;> simp
@[simp] theorem State.tryCross_regs (s : State) : s.tryCross.regs = s.regs := by unfold State.tryCross; split <;> simp
@[simp] theorem State.tryCross_run (s : State) : s.tryCross.run = s.run := by unfold State.tryCross; split <;> simp
@[simp] theorem State.tryCross_rb (s : State) : s.tryCross.rb = s.rb := by unfold State.tryCross; split <;> simp
@[simp] theorem State.tryCross_deck (s : State) : s.tryCross.deck = s.deck := by unfold State.tryCross; split <;> simp
@[simp] theorem State.tryCross_seq (s : State) : s.tryCross.seq = s.seq := by unfold State.tryCross; split <;> simp
@[simp] theorem State.tryCross_frame (s : State) : s.tryCross.frame = s.frame :=
  by unfold State.tryCross; split <;> simp
@[simp] theorem State.tryCross_dp (s : State) : s.tryCross.dp = s.dp := by unfold State.tryCross; split <;> simp
@[simp] theorem State.tryCross_tables (s : State) : s.tryCross.tables = s.tables :=
  by unfold State.tryCross; split <;> simp
@[simp] theorem State.tryCross_scan (s : State) : s.tryCross.scan = s.scan := by unfold State.tryCross; split <;> simp
@[simp] theorem State.tryCross_power (s : State) : s.tryCross.power = s.power :=
  by unfold State.tryCross; split <;> simp
@[simp] theorem State.tryCross_film (s : State) : s.tryCross.film = s.film := by unfold State.tryCross; split <;> simp
@[simp] theorem State.tryCross_pins (s : State) : s.tryCross.pins = s.pins := by unfold State.tryCross; split <;> simp
@[simp] theorem State.tryCross_bus (s : State) : s.tryCross.bus = s.bus := by unfold State.tryCross; split <;> simp
@[simp] theorem State.tryCross_nextId (s : State) : s.tryCross.nextId = s.nextId :=
  by unfold State.tryCross; split <;> simp

@[simp] theorem State.fetchOne_pending (s : State) : s.fetchOne.pending = s.pending :=
  by unfold State.fetchOne; split <;> simp
@[simp] theorem State.fetchOne_regs (s : State) : s.fetchOne.regs = s.regs := by unfold State.fetchOne; split <;> simp
@[simp] theorem State.fetchOne_run (s : State) : s.fetchOne.run = s.run := by unfold State.fetchOne; split <;> simp
@[simp] theorem State.fetchOne_rb (s : State) : s.fetchOne.rb = s.rb := by unfold State.fetchOne; split <;> simp
@[simp] theorem State.fetchOne_deck (s : State) : s.fetchOne.deck = s.deck := by unfold State.fetchOne; split <;> simp
@[simp] theorem State.fetchOne_seq (s : State) : s.fetchOne.seq = s.seq := by unfold State.fetchOne; split <;> simp
@[simp] theorem State.fetchOne_frame (s : State) : s.fetchOne.frame = s.frame :=
  by unfold State.fetchOne; split <;> simp
@[simp] theorem State.fetchOne_dp (s : State) : s.fetchOne.dp = s.dp := by unfold State.fetchOne; split <;> simp
@[simp] theorem State.fetchOne_tables (s : State) : s.fetchOne.tables = s.tables :=
  by unfold State.fetchOne; split <;> simp
@[simp] theorem State.fetchOne_scan (s : State) : s.fetchOne.scan = s.scan := by unfold State.fetchOne; split <;> simp
@[simp] theorem State.fetchOne_power (s : State) : s.fetchOne.power = s.power :=
  by unfold State.fetchOne; split <;> simp
@[simp] theorem State.fetchOne_film (s : State) : s.fetchOne.film = s.film := by unfold State.fetchOne; split <;> simp
@[simp] theorem State.fetchOne_pins (s : State) : s.fetchOne.pins = s.pins := by unfold State.fetchOne; split <;> simp

@[simp] theorem State.fetch_pending (s : State) : s.fetch.pending = s.pending := by simp [State.fetch]
@[simp] theorem State.fetch_regs (s : State) : s.fetch.regs = s.regs := by simp [State.fetch]
@[simp] theorem State.fetch_run (s : State) : s.fetch.run = s.run := by simp [State.fetch]
@[simp] theorem State.fetch_rb (s : State) : s.fetch.rb = s.rb := by simp [State.fetch]
@[simp] theorem State.fetch_deck (s : State) : s.fetch.deck = s.deck := by simp [State.fetch]
@[simp] theorem State.fetch_seq (s : State) : s.fetch.seq = s.seq := by simp [State.fetch]
@[simp] theorem State.fetch_frame (s : State) : s.fetch.frame = s.frame := by simp [State.fetch]
@[simp] theorem State.fetch_dp (s : State) : s.fetch.dp = s.dp := by simp [State.fetch]
@[simp] theorem State.fetch_tables (s : State) : s.fetch.tables = s.tables := by simp [State.fetch]
@[simp] theorem State.fetch_scan (s : State) : s.fetch.scan = s.scan := by simp [State.fetch]
@[simp] theorem State.fetch_power (s : State) : s.fetch.power = s.power := by simp [State.fetch]
@[simp] theorem State.fetch_film (s : State) : s.fetch.film = s.film := by simp [State.fetch]
@[simp] theorem State.fetch_pins (s : State) : s.fetch.pins = s.pins := by simp [State.fetch]

@[simp] theorem State.flushParked_pending (s : State) : s.flushParked.pending = s.pending :=
  by simp [State.flushParked]
@[simp] theorem State.flushParked_regs (s : State) : s.flushParked.regs = s.regs := by simp [State.flushParked]
@[simp] theorem State.flushParked_run (s : State) : s.flushParked.run = s.run := by simp [State.flushParked]
@[simp] theorem State.flushParked_rb (s : State) : s.flushParked.rb = s.rb := by simp [State.flushParked]
@[simp] theorem State.flushParked_deck (s : State) : s.flushParked.deck = s.deck := by simp [State.flushParked]
@[simp] theorem State.flushParked_seq (s : State) : s.flushParked.seq = s.seq := by simp [State.flushParked]
@[simp] theorem State.flushParked_frame (s : State) : s.flushParked.frame = s.frame := by simp [State.flushParked]
@[simp] theorem State.flushParked_dp (s : State) : s.flushParked.dp = s.dp := by simp [State.flushParked]
@[simp] theorem State.flushParked_tables (s : State) : s.flushParked.tables = s.tables := by simp [State.flushParked]
@[simp] theorem State.flushParked_scan (s : State) : s.flushParked.scan = s.scan := by simp [State.flushParked]
@[simp] theorem State.flushParked_power (s : State) : s.flushParked.power = s.power := by simp [State.flushParked]
@[simp] theorem State.flushParked_film (s : State) : s.flushParked.film = s.film := by simp [State.flushParked]
@[simp] theorem State.flushParked_pins (s : State) : s.flushParked.pins = s.pins := by simp [State.flushParked]

@[simp] theorem State.flushToAttempt_pending (s : State) (c : FrameCtx) : (s.flushToAttempt c).pending = s.pending :=
  by simp [State.flushToAttempt]
@[simp] theorem State.flushToAttempt_regs (s : State) (c : FrameCtx) : (s.flushToAttempt c).regs = s.regs :=
  by simp [State.flushToAttempt]
@[simp] theorem State.flushToAttempt_run (s : State) (c : FrameCtx) : (s.flushToAttempt c).run = s.run :=
  by simp [State.flushToAttempt]
@[simp] theorem State.flushToAttempt_rb (s : State) (c : FrameCtx) : (s.flushToAttempt c).rb = s.rb :=
  by simp [State.flushToAttempt]
@[simp] theorem State.flushToAttempt_deck (s : State) (c : FrameCtx) : (s.flushToAttempt c).deck = s.deck :=
  by simp [State.flushToAttempt]
@[simp] theorem State.flushToAttempt_seq (s : State) (c : FrameCtx) : (s.flushToAttempt c).seq = s.seq :=
  by simp [State.flushToAttempt]
@[simp] theorem State.flushToAttempt_frame (s : State) (c : FrameCtx) : (s.flushToAttempt c).frame = s.frame :=
  by simp [State.flushToAttempt]
@[simp] theorem State.flushToAttempt_dp (s : State) (c : FrameCtx) : (s.flushToAttempt c).dp = s.dp :=
  by simp [State.flushToAttempt]
@[simp] theorem State.flushToAttempt_tables (s : State) (c : FrameCtx) : (s.flushToAttempt c).tables = s.tables :=
  by simp [State.flushToAttempt]
@[simp] theorem State.flushToAttempt_scan (s : State) (c : FrameCtx) : (s.flushToAttempt c).scan = s.scan :=
  by simp [State.flushToAttempt]
@[simp] theorem State.flushToAttempt_power (s : State) (c : FrameCtx) : (s.flushToAttempt c).power = s.power :=
  by simp [State.flushToAttempt]
@[simp] theorem State.flushToAttempt_film (s : State) (c : FrameCtx) : (s.flushToAttempt c).film = s.film :=
  by simp [State.flushToAttempt]
@[simp] theorem State.flushToAttempt_pins (s : State) (c : FrameCtx) : (s.flushToAttempt c).pins = s.pins :=
  by simp [State.flushToAttempt]

@[simp] theorem State.parkCursor_pending (s : State) : s.parkCursor.pending = s.pending := by simp [State.parkCursor]
@[simp] theorem State.parkCursor_regs (s : State) : s.parkCursor.regs = s.regs := by simp [State.parkCursor]
@[simp] theorem State.parkCursor_run (s : State) : s.parkCursor.run = s.run := by simp [State.parkCursor]
@[simp] theorem State.parkCursor_rb (s : State) : s.parkCursor.rb = s.rb := by simp [State.parkCursor]
@[simp] theorem State.parkCursor_deck (s : State) : s.parkCursor.deck = s.deck := by simp [State.parkCursor]
@[simp] theorem State.parkCursor_seq (s : State) : s.parkCursor.seq = s.seq := by simp [State.parkCursor]
@[simp] theorem State.parkCursor_frame (s : State) : s.parkCursor.frame = s.frame := by simp [State.parkCursor]
@[simp] theorem State.parkCursor_dp (s : State) : s.parkCursor.dp = s.dp := by simp [State.parkCursor]
@[simp] theorem State.parkCursor_tables (s : State) : s.parkCursor.tables = s.tables := by simp [State.parkCursor]
@[simp] theorem State.parkCursor_scan (s : State) : s.parkCursor.scan = s.scan := by simp [State.parkCursor]
@[simp] theorem State.parkCursor_power (s : State) : s.parkCursor.power = s.power := by simp [State.parkCursor]
@[simp] theorem State.parkCursor_film (s : State) : s.parkCursor.film = s.film := by simp [State.parkCursor]
@[simp] theorem State.parkCursor_pins (s : State) : s.parkCursor.pins = s.pins := by simp [State.parkCursor]
@[simp] theorem State.parkCursor_bus (s : State) : s.parkCursor.bus = s.bus := by simp [State.parkCursor]
@[simp] theorem State.parkCursor_nextId (s : State) : s.parkCursor.nextId = s.nextId := by simp [State.parkCursor]

@[simp] theorem State.pointCursor_pending (s : State) (c : FrameCtx) : (s.pointCursor c).pending = s.pending :=
  by unfold State.pointCursor; (repeat' split) <;> simp
@[simp] theorem State.pointCursor_regs (s : State) (c : FrameCtx) : (s.pointCursor c).regs = s.regs :=
  by unfold State.pointCursor; (repeat' split) <;> simp
@[simp] theorem State.pointCursor_run (s : State) (c : FrameCtx) : (s.pointCursor c).run = s.run :=
  by unfold State.pointCursor; (repeat' split) <;> simp
@[simp] theorem State.pointCursor_rb (s : State) (c : FrameCtx) : (s.pointCursor c).rb = s.rb :=
  by unfold State.pointCursor; (repeat' split) <;> simp
@[simp] theorem State.pointCursor_deck (s : State) (c : FrameCtx) : (s.pointCursor c).deck = s.deck :=
  by unfold State.pointCursor; (repeat' split) <;> simp
@[simp] theorem State.pointCursor_seq (s : State) (c : FrameCtx) : (s.pointCursor c).seq = s.seq :=
  by unfold State.pointCursor; (repeat' split) <;> simp
@[simp] theorem State.pointCursor_frame (s : State) (c : FrameCtx) : (s.pointCursor c).frame = s.frame :=
  by unfold State.pointCursor; (repeat' split) <;> simp
@[simp] theorem State.pointCursor_dp (s : State) (c : FrameCtx) : (s.pointCursor c).dp = s.dp :=
  by unfold State.pointCursor; (repeat' split) <;> simp
@[simp] theorem State.pointCursor_tables (s : State) (c : FrameCtx) : (s.pointCursor c).tables = s.tables :=
  by unfold State.pointCursor; (repeat' split) <;> simp
@[simp] theorem State.pointCursor_scan (s : State) (c : FrameCtx) : (s.pointCursor c).scan = s.scan :=
  by unfold State.pointCursor; (repeat' split) <;> simp
@[simp] theorem State.pointCursor_power (s : State) (c : FrameCtx) : (s.pointCursor c).power = s.power :=
  by unfold State.pointCursor; (repeat' split) <;> simp
@[simp] theorem State.pointCursor_film (s : State) (c : FrameCtx) : (s.pointCursor c).film = s.film :=
  by unfold State.pointCursor; (repeat' split) <;> simp
@[simp] theorem State.pointCursor_pins (s : State) (c : FrameCtx) : (s.pointCursor c).pins = s.pins :=
  by unfold State.pointCursor; (repeat' split) <;> simp

@[simp] theorem State.parkAtFinish_pending (s : State) (c : FrameCtx) : (s.parkAtFinish c).pending = s.pending :=
  by unfold State.parkAtFinish; split <;> simp
@[simp] theorem State.parkAtFinish_regs (s : State) (c : FrameCtx) : (s.parkAtFinish c).regs = s.regs :=
  by unfold State.parkAtFinish; split <;> simp
@[simp] theorem State.parkAtFinish_run (s : State) (c : FrameCtx) : (s.parkAtFinish c).run = s.run :=
  by unfold State.parkAtFinish; split <;> simp
@[simp] theorem State.parkAtFinish_rb (s : State) (c : FrameCtx) : (s.parkAtFinish c).rb = s.rb :=
  by unfold State.parkAtFinish; split <;> simp
@[simp] theorem State.parkAtFinish_deck (s : State) (c : FrameCtx) : (s.parkAtFinish c).deck = s.deck :=
  by unfold State.parkAtFinish; split <;> simp
@[simp] theorem State.parkAtFinish_seq (s : State) (c : FrameCtx) : (s.parkAtFinish c).seq = s.seq :=
  by unfold State.parkAtFinish; split <;> simp
@[simp] theorem State.parkAtFinish_frame (s : State) (c : FrameCtx) : (s.parkAtFinish c).frame = s.frame :=
  by unfold State.parkAtFinish; split <;> simp
@[simp] theorem State.parkAtFinish_dp (s : State) (c : FrameCtx) : (s.parkAtFinish c).dp = s.dp :=
  by unfold State.parkAtFinish; split <;> simp
@[simp] theorem State.parkAtFinish_tables (s : State) (c : FrameCtx) : (s.parkAtFinish c).tables = s.tables :=
  by unfold State.parkAtFinish; split <;> simp
@[simp] theorem State.parkAtFinish_scan (s : State) (c : FrameCtx) : (s.parkAtFinish c).scan = s.scan :=
  by unfold State.parkAtFinish; split <;> simp
@[simp] theorem State.parkAtFinish_power (s : State) (c : FrameCtx) : (s.parkAtFinish c).power = s.power :=
  by unfold State.parkAtFinish; split <;> simp
@[simp] theorem State.parkAtFinish_film (s : State) (c : FrameCtx) : (s.parkAtFinish c).film = s.film :=
  by unfold State.parkAtFinish; split <;> simp
@[simp] theorem State.parkAtFinish_pins (s : State) (c : FrameCtx) : (s.parkAtFinish c).pins = s.pins :=
  by unfold State.parkAtFinish; split <;> simp
@[simp] theorem State.parkAtFinish_bus (s : State) (c : FrameCtx) : (s.parkAtFinish c).bus = s.bus :=
  by unfold State.parkAtFinish; split <;> simp
@[simp] theorem State.parkAtFinish_nextId (s : State) (c : FrameCtx) : (s.parkAtFinish c).nextId = s.nextId :=
  by unfold State.parkAtFinish; split <;> simp

@[simp] theorem State.returnSlot_pending (s : State) (id : Nat) : (s.returnSlot id).pending = s.pending :=
  by simp [State.returnSlot]
@[simp] theorem State.returnSlot_regs (s : State) (id : Nat) : (s.returnSlot id).regs = s.regs :=
  by simp [State.returnSlot]
@[simp] theorem State.returnSlot_run (s : State) (id : Nat) : (s.returnSlot id).run = s.run :=
  by simp [State.returnSlot]
@[simp] theorem State.returnSlot_rb (s : State) (id : Nat) : (s.returnSlot id).rb = s.rb := by simp [State.returnSlot]
@[simp] theorem State.returnSlot_deck (s : State) (id : Nat) : (s.returnSlot id).deck = s.deck :=
  by simp [State.returnSlot]
@[simp] theorem State.returnSlot_seq (s : State) (id : Nat) : (s.returnSlot id).seq = s.seq :=
  by simp [State.returnSlot]
@[simp] theorem State.returnSlot_frame (s : State) (id : Nat) : (s.returnSlot id).frame = s.frame :=
  by simp [State.returnSlot]
@[simp] theorem State.returnSlot_dp (s : State) (id : Nat) : (s.returnSlot id).dp = s.dp := by simp [State.returnSlot]
@[simp] theorem State.returnSlot_tables (s : State) (id : Nat) : (s.returnSlot id).tables = s.tables :=
  by simp [State.returnSlot]
@[simp] theorem State.returnSlot_scan (s : State) (id : Nat) : (s.returnSlot id).scan = s.scan :=
  by simp [State.returnSlot]
@[simp] theorem State.returnSlot_power (s : State) (id : Nat) : (s.returnSlot id).power = s.power :=
  by simp [State.returnSlot]
@[simp] theorem State.returnSlot_film (s : State) (id : Nat) : (s.returnSlot id).film = s.film :=
  by simp [State.returnSlot]
@[simp] theorem State.returnSlot_pins (s : State) (id : Nat) : (s.returnSlot id).pins = s.pins :=
  by simp [State.returnSlot]

@[simp] theorem State.endLineRead_pending (s : State) (e : LineRead) (f : Slot → Slot) : (s.endLineRead e f).pending = s.pending :=
  by simp [State.endLineRead]
@[simp] theorem State.endLineRead_regs (s : State) (e : LineRead) (f : Slot → Slot) : (s.endLineRead e f).regs = s.regs :=
  by simp [State.endLineRead]
@[simp] theorem State.endLineRead_run (s : State) (e : LineRead) (f : Slot → Slot) : (s.endLineRead e f).run = s.run :=
  by simp [State.endLineRead]
@[simp] theorem State.endLineRead_rb (s : State) (e : LineRead) (f : Slot → Slot) : (s.endLineRead e f).rb = s.rb :=
  by simp [State.endLineRead]
@[simp] theorem State.endLineRead_deck (s : State) (e : LineRead) (f : Slot → Slot) : (s.endLineRead e f).deck = s.deck :=
  by simp [State.endLineRead]
@[simp] theorem State.endLineRead_seq (s : State) (e : LineRead) (f : Slot → Slot) : (s.endLineRead e f).seq = s.seq :=
  by simp [State.endLineRead]
@[simp] theorem State.endLineRead_frame (s : State) (e : LineRead) (f : Slot → Slot) : (s.endLineRead e f).frame = s.frame :=
  by simp [State.endLineRead]
@[simp] theorem State.endLineRead_dp (s : State) (e : LineRead) (f : Slot → Slot) : (s.endLineRead e f).dp = s.dp :=
  by simp [State.endLineRead]
@[simp] theorem State.endLineRead_tables (s : State) (e : LineRead) (f : Slot → Slot) : (s.endLineRead e f).tables = s.tables :=
  by simp [State.endLineRead]
@[simp] theorem State.endLineRead_scan (s : State) (e : LineRead) (f : Slot → Slot) : (s.endLineRead e f).scan = s.scan :=
  by simp [State.endLineRead]
@[simp] theorem State.endLineRead_power (s : State) (e : LineRead) (f : Slot → Slot) : (s.endLineRead e f).power = s.power :=
  by simp [State.endLineRead]
@[simp] theorem State.endLineRead_film (s : State) (e : LineRead) (f : Slot → Slot) : (s.endLineRead e f).film = s.film :=
  by simp [State.endLineRead]
@[simp] theorem State.endLineRead_pins (s : State) (e : LineRead) (f : Slot → Slot) : (s.endLineRead e f).pins = s.pins :=
  by simp [State.endLineRead]

end Sys2Proof.Machine
end

