-- ==== Sys2Proof/Laws/Datapath.lean ====
section
/-! SUPPORT. What the zero order leaves as it was: one lemma per operation and block of State. -/

namespace Sys2Proof.Machine

@[simp] theorem State.zeroOrder_pending (s : State) : s.zeroOrder.pending = s.pending := by simp [State.zeroOrder]
@[simp] theorem State.zeroOrder_regs (s : State) : s.zeroOrder.regs = s.regs := by simp [State.zeroOrder]
@[simp] theorem State.zeroOrder_run (s : State) : s.zeroOrder.run = s.run := by simp [State.zeroOrder]
@[simp] theorem State.zeroOrder_rb (s : State) : s.zeroOrder.rb = s.rb := by simp [State.zeroOrder]
@[simp] theorem State.zeroOrder_deck (s : State) : s.zeroOrder.deck = s.deck := by simp [State.zeroOrder]
@[simp] theorem State.zeroOrder_seq (s : State) : s.zeroOrder.seq = s.seq := by simp [State.zeroOrder]
@[simp] theorem State.zeroOrder_frame (s : State) : s.zeroOrder.frame = s.frame := by simp [State.zeroOrder]
@[simp] theorem State.zeroOrder_ring (s : State) : s.zeroOrder.ring = s.ring := by simp [State.zeroOrder]
@[simp] theorem State.zeroOrder_tables (s : State) : s.zeroOrder.tables = s.tables := by simp [State.zeroOrder]
@[simp] theorem State.zeroOrder_scan (s : State) : s.zeroOrder.scan = s.scan := by simp [State.zeroOrder]
@[simp] theorem State.zeroOrder_power (s : State) : s.zeroOrder.power = s.power := by simp [State.zeroOrder]
@[simp] theorem State.zeroOrder_film (s : State) : s.zeroOrder.film = s.film := by simp [State.zeroOrder]
@[simp] theorem State.zeroOrder_pins (s : State) : s.zeroOrder.pins = s.pins := by simp [State.zeroOrder]
@[simp] theorem State.zeroOrder_bus (s : State) : s.zeroOrder.bus = s.bus := by simp [State.zeroOrder]
@[simp] theorem State.zeroOrder_nextId (s : State) : s.zeroOrder.nextId = s.nextId := by simp [State.zeroOrder]

end Sys2Proof.Machine
end

