-- ==== Sys2Proof/Laws/Regulator.lean ====
section
/-! SUPPORT. What the Power Regulator's operations leave as it was: one lemma per operation and block of State. -/

namespace Sys2Proof.Machine

@[simp] theorem State.beginSettle_pending (s : State) : s.beginSettle.pending = s.pending :=
  by simp [State.beginSettle]
@[simp] theorem State.beginSettle_regs (s : State) : s.beginSettle.regs = s.regs := by simp [State.beginSettle]
@[simp] theorem State.beginSettle_run (s : State) : s.beginSettle.run = s.run := by simp [State.beginSettle]
@[simp] theorem State.beginSettle_rb (s : State) : s.beginSettle.rb = s.rb := by simp [State.beginSettle]
@[simp] theorem State.beginSettle_deck (s : State) : s.beginSettle.deck = s.deck := by simp [State.beginSettle]
@[simp] theorem State.beginSettle_seq (s : State) : s.beginSettle.seq = s.seq := by simp [State.beginSettle]
@[simp] theorem State.beginSettle_frame (s : State) : s.beginSettle.frame = s.frame := by simp [State.beginSettle]
@[simp] theorem State.beginSettle_ring (s : State) : s.beginSettle.ring = s.ring := by simp [State.beginSettle]
@[simp] theorem State.beginSettle_dp (s : State) : s.beginSettle.dp = s.dp := by simp [State.beginSettle]
@[simp] theorem State.beginSettle_tables (s : State) : s.beginSettle.tables = s.tables := by simp [State.beginSettle]
@[simp] theorem State.beginSettle_scan (s : State) : s.beginSettle.scan = s.scan := by simp [State.beginSettle]
@[simp] theorem State.beginSettle_film (s : State) : s.beginSettle.film = s.film := by simp [State.beginSettle]
@[simp] theorem State.beginSettle_pins (s : State) : s.beginSettle.pins = s.pins := by simp [State.beginSettle]
@[simp] theorem State.beginSettle_bus (s : State) : s.beginSettle.bus = s.bus := by simp [State.beginSettle]
@[simp] theorem State.beginSettle_nextId (s : State) : s.beginSettle.nextId = s.nextId := by simp [State.beginSettle]

@[simp] theorem State.endSettle_pending (s : State) : s.endSettle.pending = s.pending := by simp [State.endSettle]
@[simp] theorem State.endSettle_regs (s : State) : s.endSettle.regs = s.regs := by simp [State.endSettle]
@[simp] theorem State.endSettle_run (s : State) : s.endSettle.run = s.run := by simp [State.endSettle]
@[simp] theorem State.endSettle_rb (s : State) : s.endSettle.rb = s.rb := by simp [State.endSettle]
@[simp] theorem State.endSettle_deck (s : State) : s.endSettle.deck = s.deck := by simp [State.endSettle]
@[simp] theorem State.endSettle_seq (s : State) : s.endSettle.seq = s.seq := by simp [State.endSettle]
@[simp] theorem State.endSettle_frame (s : State) : s.endSettle.frame = s.frame := by simp [State.endSettle]
@[simp] theorem State.endSettle_ring (s : State) : s.endSettle.ring = s.ring := by simp [State.endSettle]
@[simp] theorem State.endSettle_dp (s : State) : s.endSettle.dp = s.dp := by simp [State.endSettle]
@[simp] theorem State.endSettle_tables (s : State) : s.endSettle.tables = s.tables := by simp [State.endSettle]
@[simp] theorem State.endSettle_scan (s : State) : s.endSettle.scan = s.scan := by simp [State.endSettle]
@[simp] theorem State.endSettle_film (s : State) : s.endSettle.film = s.film := by simp [State.endSettle]
@[simp] theorem State.endSettle_pins (s : State) : s.endSettle.pins = s.pins := by simp [State.endSettle]
@[simp] theorem State.endSettle_bus (s : State) : s.endSettle.bus = s.bus := by simp [State.endSettle]
@[simp] theorem State.endSettle_nextId (s : State) : s.endSettle.nextId = s.nextId := by simp [State.endSettle]

@[simp] theorem State.resumeSettleWait_pending (s : State) : s.resumeSettleWait.pending = s.pending :=
  by simp [State.resumeSettleWait]
@[simp] theorem State.resumeSettleWait_regs (s : State) : s.resumeSettleWait.regs = s.regs :=
  by simp [State.resumeSettleWait]
@[simp] theorem State.resumeSettleWait_run (s : State) : s.resumeSettleWait.run = s.run :=
  by simp [State.resumeSettleWait]
@[simp] theorem State.resumeSettleWait_rb (s : State) : s.resumeSettleWait.rb = s.rb :=
  by simp [State.resumeSettleWait]
@[simp] theorem State.resumeSettleWait_deck (s : State) : s.resumeSettleWait.deck = s.deck :=
  by simp [State.resumeSettleWait]
@[simp] theorem State.resumeSettleWait_seq (s : State) : s.resumeSettleWait.seq = s.seq :=
  by simp [State.resumeSettleWait]
@[simp] theorem State.resumeSettleWait_frame (s : State) : s.resumeSettleWait.frame = s.frame :=
  by simp [State.resumeSettleWait]
@[simp] theorem State.resumeSettleWait_ring (s : State) : s.resumeSettleWait.ring = s.ring :=
  by simp [State.resumeSettleWait]
@[simp] theorem State.resumeSettleWait_dp (s : State) : s.resumeSettleWait.dp = s.dp :=
  by simp [State.resumeSettleWait]
@[simp] theorem State.resumeSettleWait_tables (s : State) : s.resumeSettleWait.tables = s.tables :=
  by simp [State.resumeSettleWait]
@[simp] theorem State.resumeSettleWait_scan (s : State) : s.resumeSettleWait.scan = s.scan :=
  by simp [State.resumeSettleWait]
@[simp] theorem State.resumeSettleWait_film (s : State) : s.resumeSettleWait.film = s.film :=
  by simp [State.resumeSettleWait]
@[simp] theorem State.resumeSettleWait_pins (s : State) : s.resumeSettleWait.pins = s.pins :=
  by simp [State.resumeSettleWait]
@[simp] theorem State.resumeSettleWait_bus (s : State) : s.resumeSettleWait.bus = s.bus :=
  by simp [State.resumeSettleWait]
@[simp] theorem State.resumeSettleWait_nextId (s : State) : s.resumeSettleWait.nextId = s.nextId :=
  by simp [State.resumeSettleWait]

@[simp] theorem State.settleLockLost_pending (s : State) : s.settleLockLost.pending = s.pending :=
  by unfold State.settleLockLost; split <;> simp
@[simp] theorem State.settleLockLost_regs (s : State) : s.settleLockLost.regs = s.regs :=
  by unfold State.settleLockLost; split <;> simp
@[simp] theorem State.settleLockLost_run (s : State) : s.settleLockLost.run = s.run :=
  by unfold State.settleLockLost; split <;> simp
@[simp] theorem State.settleLockLost_rb (s : State) : s.settleLockLost.rb = s.rb :=
  by unfold State.settleLockLost; split <;> simp
@[simp] theorem State.settleLockLost_deck (s : State) : s.settleLockLost.deck = s.deck :=
  by unfold State.settleLockLost; split <;> simp
@[simp] theorem State.settleLockLost_seq (s : State) : s.settleLockLost.seq = s.seq :=
  by unfold State.settleLockLost; split <;> simp
@[simp] theorem State.settleLockLost_frame (s : State) : s.settleLockLost.frame = s.frame :=
  by unfold State.settleLockLost; split <;> simp
@[simp] theorem State.settleLockLost_ring (s : State) : s.settleLockLost.ring = s.ring :=
  by unfold State.settleLockLost; split <;> simp
@[simp] theorem State.settleLockLost_dp (s : State) : s.settleLockLost.dp = s.dp :=
  by unfold State.settleLockLost; split <;> simp
@[simp] theorem State.settleLockLost_tables (s : State) : s.settleLockLost.tables = s.tables :=
  by unfold State.settleLockLost; split <;> simp
@[simp] theorem State.settleLockLost_scan (s : State) : s.settleLockLost.scan = s.scan :=
  by unfold State.settleLockLost; split <;> simp
@[simp] theorem State.settleLockLost_film (s : State) : s.settleLockLost.film = s.film :=
  by unfold State.settleLockLost; split <;> simp
@[simp] theorem State.settleLockLost_pins (s : State) : s.settleLockLost.pins = s.pins :=
  by unfold State.settleLockLost; split <;> simp
@[simp] theorem State.settleLockLost_bus (s : State) : s.settleLockLost.bus = s.bus :=
  by unfold State.settleLockLost; split <;> simp
@[simp] theorem State.settleLockLost_nextId (s : State) : s.settleLockLost.nextId = s.nextId :=
  by unfold State.settleLockLost; split <;> simp

@[simp] theorem State.settleLockGained_pending (s : State) : s.settleLockGained.pending = s.pending :=
  by unfold State.settleLockGained; split <;> simp
@[simp] theorem State.settleLockGained_regs (s : State) : s.settleLockGained.regs = s.regs :=
  by unfold State.settleLockGained; split <;> simp
@[simp] theorem State.settleLockGained_run (s : State) : s.settleLockGained.run = s.run :=
  by unfold State.settleLockGained; split <;> simp
@[simp] theorem State.settleLockGained_rb (s : State) : s.settleLockGained.rb = s.rb :=
  by unfold State.settleLockGained; split <;> simp
@[simp] theorem State.settleLockGained_deck (s : State) : s.settleLockGained.deck = s.deck :=
  by unfold State.settleLockGained; split <;> simp
@[simp] theorem State.settleLockGained_seq (s : State) : s.settleLockGained.seq = s.seq :=
  by unfold State.settleLockGained; split <;> simp
@[simp] theorem State.settleLockGained_frame (s : State) : s.settleLockGained.frame = s.frame :=
  by unfold State.settleLockGained; split <;> simp
@[simp] theorem State.settleLockGained_ring (s : State) : s.settleLockGained.ring = s.ring :=
  by unfold State.settleLockGained; split <;> simp
@[simp] theorem State.settleLockGained_dp (s : State) : s.settleLockGained.dp = s.dp :=
  by unfold State.settleLockGained; split <;> simp
@[simp] theorem State.settleLockGained_tables (s : State) : s.settleLockGained.tables = s.tables :=
  by unfold State.settleLockGained; split <;> simp
@[simp] theorem State.settleLockGained_scan (s : State) : s.settleLockGained.scan = s.scan :=
  by unfold State.settleLockGained; split <;> simp
@[simp] theorem State.settleLockGained_film (s : State) : s.settleLockGained.film = s.film :=
  by unfold State.settleLockGained; split <;> simp
@[simp] theorem State.settleLockGained_pins (s : State) : s.settleLockGained.pins = s.pins :=
  by unfold State.settleLockGained; split <;> simp
@[simp] theorem State.settleLockGained_bus (s : State) : s.settleLockGained.bus = s.bus :=
  by unfold State.settleLockGained; split <;> simp
@[simp] theorem State.settleLockGained_nextId (s : State) : s.settleLockGained.nextId = s.nextId :=
  by unfold State.settleLockGained; split <;> simp

@[simp] theorem State.markLine_pending (s : State) (ch : Channel) (p : Purpose) : (s.markLine ch p).pending = s.pending :=
  by simp [State.markLine]
@[simp] theorem State.markLine_regs (s : State) (ch : Channel) (p : Purpose) : (s.markLine ch p).regs = s.regs :=
  by simp [State.markLine]
@[simp] theorem State.markLine_run (s : State) (ch : Channel) (p : Purpose) : (s.markLine ch p).run = s.run :=
  by simp [State.markLine]
@[simp] theorem State.markLine_rb (s : State) (ch : Channel) (p : Purpose) : (s.markLine ch p).rb = s.rb :=
  by simp [State.markLine]
@[simp] theorem State.markLine_deck (s : State) (ch : Channel) (p : Purpose) : (s.markLine ch p).deck = s.deck :=
  by simp [State.markLine]
@[simp] theorem State.markLine_seq (s : State) (ch : Channel) (p : Purpose) : (s.markLine ch p).seq = s.seq :=
  by simp [State.markLine]
@[simp] theorem State.markLine_frame (s : State) (ch : Channel) (p : Purpose) : (s.markLine ch p).frame = s.frame :=
  by simp [State.markLine]
@[simp] theorem State.markLine_ring (s : State) (ch : Channel) (p : Purpose) : (s.markLine ch p).ring = s.ring :=
  by simp [State.markLine]
@[simp] theorem State.markLine_tables (s : State) (ch : Channel) (p : Purpose) : (s.markLine ch p).tables = s.tables :=
  by simp [State.markLine]
@[simp] theorem State.markLine_scan (s : State) (ch : Channel) (p : Purpose) : (s.markLine ch p).scan = s.scan :=
  by simp [State.markLine]
@[simp] theorem State.markLine_film (s : State) (ch : Channel) (p : Purpose) : (s.markLine ch p).film = s.film :=
  by simp [State.markLine]
@[simp] theorem State.markLine_pins (s : State) (ch : Channel) (p : Purpose) : (s.markLine ch p).pins = s.pins :=
  by simp [State.markLine]
@[simp] theorem State.markLine_bus (s : State) (ch : Channel) (p : Purpose) : (s.markLine ch p).bus = s.bus :=
  by simp [State.markLine]
@[simp] theorem State.markLine_nextId (s : State) (ch : Channel) (p : Purpose) : (s.markLine ch p).nextId = s.nextId :=
  by simp [State.markLine]

@[simp] theorem State.regulateLine_pending (s : State) : (s.regulateLine).1.pending = s.pending :=
  by unfold State.regulateLine; split <;> simp
@[simp] theorem State.regulateLine_regs (s : State) : (s.regulateLine).1.regs = s.regs :=
  by unfold State.regulateLine; split <;> simp
@[simp] theorem State.regulateLine_run (s : State) : (s.regulateLine).1.run = s.run :=
  by unfold State.regulateLine; split <;> simp
@[simp] theorem State.regulateLine_rb (s : State) : (s.regulateLine).1.rb = s.rb :=
  by unfold State.regulateLine; split <;> simp
@[simp] theorem State.regulateLine_deck (s : State) : (s.regulateLine).1.deck = s.deck :=
  by unfold State.regulateLine; split <;> simp
@[simp] theorem State.regulateLine_seq (s : State) : (s.regulateLine).1.seq = s.seq :=
  by unfold State.regulateLine; split <;> simp
@[simp] theorem State.regulateLine_frame (s : State) : (s.regulateLine).1.frame = s.frame :=
  by unfold State.regulateLine; split <;> simp
@[simp] theorem State.regulateLine_ring (s : State) : (s.regulateLine).1.ring = s.ring :=
  by unfold State.regulateLine; split <;> simp
@[simp] theorem State.regulateLine_tables (s : State) : (s.regulateLine).1.tables = s.tables :=
  by unfold State.regulateLine; split <;> simp
@[simp] theorem State.regulateLine_scan (s : State) : (s.regulateLine).1.scan = s.scan :=
  by unfold State.regulateLine; split <;> simp
@[simp] theorem State.regulateLine_film (s : State) : (s.regulateLine).1.film = s.film :=
  by unfold State.regulateLine; split <;> simp
@[simp] theorem State.regulateLine_pins (s : State) : (s.regulateLine).1.pins = s.pins :=
  by unfold State.regulateLine; split <;> simp
@[simp] theorem State.regulateLine_bus (s : State) : (s.regulateLine).1.bus = s.bus :=
  by unfold State.regulateLine; split <;> simp
@[simp] theorem State.regulateLine_nextId (s : State) : (s.regulateLine).1.nextId = s.nextId :=
  by unfold State.regulateLine; split <;> simp

@[simp] theorem State.regulatorLine_pending (s : State) : (s.regulatorLine).1.pending = s.pending :=
  by unfold State.regulatorLine; (repeat' split) <;> simp
@[simp] theorem State.regulatorLine_regs (s : State) : (s.regulatorLine).1.regs = s.regs :=
  by unfold State.regulatorLine; (repeat' split) <;> simp
@[simp] theorem State.regulatorLine_run (s : State) : (s.regulatorLine).1.run = s.run :=
  by unfold State.regulatorLine; (repeat' split) <;> simp
@[simp] theorem State.regulatorLine_rb (s : State) : (s.regulatorLine).1.rb = s.rb :=
  by unfold State.regulatorLine; (repeat' split) <;> simp
@[simp] theorem State.regulatorLine_deck (s : State) : (s.regulatorLine).1.deck = s.deck :=
  by unfold State.regulatorLine; (repeat' split) <;> simp
@[simp] theorem State.regulatorLine_seq (s : State) : (s.regulatorLine).1.seq = s.seq :=
  by unfold State.regulatorLine; (repeat' split) <;> simp
@[simp] theorem State.regulatorLine_frame (s : State) : (s.regulatorLine).1.frame = s.frame :=
  by unfold State.regulatorLine; (repeat' split) <;> simp
@[simp] theorem State.regulatorLine_ring (s : State) : (s.regulatorLine).1.ring = s.ring :=
  by unfold State.regulatorLine; (repeat' split) <;> simp
@[simp] theorem State.regulatorLine_tables (s : State) : (s.regulatorLine).1.tables = s.tables :=
  by unfold State.regulatorLine; (repeat' split) <;> simp
@[simp] theorem State.regulatorLine_scan (s : State) : (s.regulatorLine).1.scan = s.scan :=
  by unfold State.regulatorLine; (repeat' split) <;> simp
@[simp] theorem State.regulatorLine_film (s : State) : (s.regulatorLine).1.film = s.film :=
  by unfold State.regulatorLine; (repeat' split) <;> simp
@[simp] theorem State.regulatorLine_pins (s : State) : (s.regulatorLine).1.pins = s.pins :=
  by unfold State.regulatorLine; (repeat' split) <;> simp
@[simp] theorem State.regulatorLine_bus (s : State) : (s.regulatorLine).1.bus = s.bus :=
  by unfold State.regulatorLine; (repeat' split) <;> simp
@[simp] theorem State.regulatorLine_nextId (s : State) : (s.regulatorLine).1.nextId = s.nextId :=
  by unfold State.regulatorLine; (repeat' split) <;> simp

@[simp] theorem State.dropMarked_pending (s : State) : s.dropMarked.pending = s.pending := by simp [State.dropMarked]
@[simp] theorem State.dropMarked_regs (s : State) : s.dropMarked.regs = s.regs := by simp [State.dropMarked]
@[simp] theorem State.dropMarked_run (s : State) : s.dropMarked.run = s.run := by simp [State.dropMarked]
@[simp] theorem State.dropMarked_rb (s : State) : s.dropMarked.rb = s.rb := by simp [State.dropMarked]
@[simp] theorem State.dropMarked_deck (s : State) : s.dropMarked.deck = s.deck := by simp [State.dropMarked]
@[simp] theorem State.dropMarked_seq (s : State) : s.dropMarked.seq = s.seq := by simp [State.dropMarked]
@[simp] theorem State.dropMarked_frame (s : State) : s.dropMarked.frame = s.frame := by simp [State.dropMarked]
@[simp] theorem State.dropMarked_ring (s : State) : s.dropMarked.ring = s.ring := by simp [State.dropMarked]
@[simp] theorem State.dropMarked_dp (s : State) : s.dropMarked.dp = s.dp := by simp [State.dropMarked]
@[simp] theorem State.dropMarked_tables (s : State) : s.dropMarked.tables = s.tables := by simp [State.dropMarked]
@[simp] theorem State.dropMarked_scan (s : State) : s.dropMarked.scan = s.scan := by simp [State.dropMarked]
@[simp] theorem State.dropMarked_film (s : State) : s.dropMarked.film = s.film := by simp [State.dropMarked]
@[simp] theorem State.dropMarked_pins (s : State) : s.dropMarked.pins = s.pins := by simp [State.dropMarked]
@[simp] theorem State.dropMarked_bus (s : State) : s.dropMarked.bus = s.bus := by simp [State.dropMarked]
@[simp] theorem State.dropMarked_nextId (s : State) : s.dropMarked.nextId = s.nextId := by simp [State.dropMarked]

@[simp] theorem State.limitRise_pending (s : State) : s.limitRise.pending = s.pending :=
  by unfold State.limitRise; split <;> simp
@[simp] theorem State.limitRise_rb (s : State) : s.limitRise.rb = s.rb := by unfold State.limitRise; split <;> simp
@[simp] theorem State.limitRise_deck (s : State) : s.limitRise.deck = s.deck :=
  by unfold State.limitRise; split <;> simp
@[simp] theorem State.limitRise_seq (s : State) : s.limitRise.seq = s.seq := by unfold State.limitRise; split <;> simp
@[simp] theorem State.limitRise_ring (s : State) : s.limitRise.ring = s.ring :=
  by unfold State.limitRise; split <;> simp
@[simp] theorem State.limitRise_dp (s : State) : s.limitRise.dp = s.dp := by unfold State.limitRise; split <;> simp
@[simp] theorem State.limitRise_tables (s : State) : s.limitRise.tables = s.tables :=
  by unfold State.limitRise; split <;> simp
@[simp] theorem State.limitRise_scan (s : State) : s.limitRise.scan = s.scan :=
  by unfold State.limitRise; split <;> simp
@[simp] theorem State.limitRise_power (s : State) : s.limitRise.power = s.power :=
  by unfold State.limitRise; split <;> simp
@[simp] theorem State.limitRise_film (s : State) : s.limitRise.film = s.film :=
  by unfold State.limitRise; split <;> simp
@[simp] theorem State.limitRise_pins (s : State) : s.limitRise.pins = s.pins :=
  by unfold State.limitRise; split <;> simp
@[simp] theorem State.limitRise_bus (s : State) : s.limitRise.bus = s.bus := by unfold State.limitRise; split <;> simp
@[simp] theorem State.limitRise_nextId (s : State) : s.limitRise.nextId = s.nextId :=
  by unfold State.limitRise; split <;> simp

@[simp] theorem State.regulate_pending (s : State) (ch : Channel) (m : Nat) : (s.regulate ch m).pending = s.pending :=
  by unfold State.regulate; split <;> simp
@[simp] theorem State.regulate_rb (s : State) (ch : Channel) (m : Nat) : (s.regulate ch m).rb = s.rb :=
  by unfold State.regulate; split <;> simp
@[simp] theorem State.regulate_deck (s : State) (ch : Channel) (m : Nat) : (s.regulate ch m).deck = s.deck :=
  by unfold State.regulate; split <;> simp
@[simp] theorem State.regulate_seq (s : State) (ch : Channel) (m : Nat) : (s.regulate ch m).seq = s.seq :=
  by unfold State.regulate; split <;> simp
@[simp] theorem State.regulate_ring (s : State) (ch : Channel) (m : Nat) : (s.regulate ch m).ring = s.ring :=
  by unfold State.regulate; split <;> simp
@[simp] theorem State.regulate_dp (s : State) (ch : Channel) (m : Nat) : (s.regulate ch m).dp = s.dp :=
  by unfold State.regulate; split <;> simp
@[simp] theorem State.regulate_tables (s : State) (ch : Channel) (m : Nat) : (s.regulate ch m).tables = s.tables :=
  by unfold State.regulate; split <;> simp
@[simp] theorem State.regulate_scan (s : State) (ch : Channel) (m : Nat) : (s.regulate ch m).scan = s.scan :=
  by unfold State.regulate; split <;> simp
@[simp] theorem State.regulate_film (s : State) (ch : Channel) (m : Nat) : (s.regulate ch m).film = s.film :=
  by unfold State.regulate; split <;> simp
@[simp] theorem State.regulate_pins (s : State) (ch : Channel) (m : Nat) : (s.regulate ch m).pins = s.pins :=
  by unfold State.regulate; split <;> simp
@[simp] theorem State.regulate_bus (s : State) (ch : Channel) (m : Nat) : (s.regulate ch m).bus = s.bus :=
  by unfold State.regulate; split <;> simp
@[simp] theorem State.regulate_nextId (s : State) (ch : Channel) (m : Nat) : (s.regulate ch m).nextId = s.nextId :=
  by unfold State.regulate; split <;> simp

end Sys2Proof.Machine
end

