-- ==== Sys2Proof/Laws/Tables.lean ====
section
/-! SUPPORT. What the Table Store's operations leave as it was: one lemma per operation and block of State. -/

namespace Sys2Proof.Machine

@[simp] theorem State.swapTables_pending (s : State) : s.swapTables.pending = s.pending :=
  by unfold State.swapTables; split <;> simp
@[simp] theorem State.swapTables_regs (s : State) : s.swapTables.regs = s.regs :=
  by unfold State.swapTables; split <;> simp
@[simp] theorem State.swapTables_run (s : State) : s.swapTables.run = s.run :=
  by unfold State.swapTables; split <;> simp
@[simp] theorem State.swapTables_rb (s : State) : s.swapTables.rb = s.rb := by unfold State.swapTables; split <;> simp
@[simp] theorem State.swapTables_deck (s : State) : s.swapTables.deck = s.deck :=
  by unfold State.swapTables; split <;> simp
@[simp] theorem State.swapTables_seq (s : State) : s.swapTables.seq = s.seq :=
  by unfold State.swapTables; split <;> simp
@[simp] theorem State.swapTables_frame (s : State) : s.swapTables.frame = s.frame :=
  by unfold State.swapTables; split <;> simp
@[simp] theorem State.swapTables_ring (s : State) : s.swapTables.ring = s.ring :=
  by unfold State.swapTables; split <;> simp
@[simp] theorem State.swapTables_dp (s : State) : s.swapTables.dp = s.dp := by unfold State.swapTables; split <;> simp
@[simp] theorem State.swapTables_scan (s : State) : s.swapTables.scan = s.scan :=
  by unfold State.swapTables; split <;> simp
@[simp] theorem State.swapTables_film (s : State) : s.swapTables.film = s.film :=
  by unfold State.swapTables; split <;> simp
@[simp] theorem State.swapTables_pins (s : State) : s.swapTables.pins = s.pins :=
  by unfold State.swapTables; split <;> simp
@[simp] theorem State.swapTables_bus (s : State) : s.swapTables.bus = s.bus :=
  by unfold State.swapTables; split <;> simp
@[simp] theorem State.swapTables_nextId (s : State) : s.swapTables.nextId = s.nextId :=
  by unfold State.swapTables; split <;> simp

@[simp] theorem State.loadOne_pending (s : State) : s.loadOne.pending = s.pending :=
  by unfold State.loadOne; (repeat' split) <;> simp
@[simp] theorem State.loadOne_regs (s : State) : s.loadOne.regs = s.regs :=
  by unfold State.loadOne; (repeat' split) <;> simp
@[simp] theorem State.loadOne_run (s : State) : s.loadOne.run = s.run :=
  by unfold State.loadOne; (repeat' split) <;> simp
@[simp] theorem State.loadOne_rb (s : State) : s.loadOne.rb = s.rb :=
  by unfold State.loadOne; (repeat' split) <;> simp
@[simp] theorem State.loadOne_deck (s : State) : s.loadOne.deck = s.deck :=
  by unfold State.loadOne; (repeat' split) <;> simp
@[simp] theorem State.loadOne_seq (s : State) : s.loadOne.seq = s.seq :=
  by unfold State.loadOne; (repeat' split) <;> simp
@[simp] theorem State.loadOne_frame (s : State) : s.loadOne.frame = s.frame :=
  by unfold State.loadOne; (repeat' split) <;> simp
@[simp] theorem State.loadOne_ring (s : State) : s.loadOne.ring = s.ring :=
  by unfold State.loadOne; (repeat' split) <;> simp
@[simp] theorem State.loadOne_dp (s : State) : s.loadOne.dp = s.dp :=
  by unfold State.loadOne; (repeat' split) <;> simp
@[simp] theorem State.loadOne_scan (s : State) : s.loadOne.scan = s.scan :=
  by unfold State.loadOne; (repeat' split) <;> simp
@[simp] theorem State.loadOne_power (s : State) : s.loadOne.power = s.power :=
  by unfold State.loadOne; (repeat' split) <;> simp
@[simp] theorem State.loadOne_film (s : State) : s.loadOne.film = s.film :=
  by unfold State.loadOne; (repeat' split) <;> simp
@[simp] theorem State.loadOne_pins (s : State) : s.loadOne.pins = s.pins :=
  by unfold State.loadOne; (repeat' split) <;> simp

@[simp] theorem State.loadMore_pending (s : State) : s.loadMore.pending = s.pending := by simp [State.loadMore]
@[simp] theorem State.loadMore_regs (s : State) : s.loadMore.regs = s.regs := by simp [State.loadMore]
@[simp] theorem State.loadMore_run (s : State) : s.loadMore.run = s.run := by simp [State.loadMore]
@[simp] theorem State.loadMore_rb (s : State) : s.loadMore.rb = s.rb := by simp [State.loadMore]
@[simp] theorem State.loadMore_deck (s : State) : s.loadMore.deck = s.deck := by simp [State.loadMore]
@[simp] theorem State.loadMore_seq (s : State) : s.loadMore.seq = s.seq := by simp [State.loadMore]
@[simp] theorem State.loadMore_frame (s : State) : s.loadMore.frame = s.frame := by simp [State.loadMore]
@[simp] theorem State.loadMore_ring (s : State) : s.loadMore.ring = s.ring := by simp [State.loadMore]
@[simp] theorem State.loadMore_dp (s : State) : s.loadMore.dp = s.dp := by simp [State.loadMore]
@[simp] theorem State.loadMore_scan (s : State) : s.loadMore.scan = s.scan := by simp [State.loadMore]
@[simp] theorem State.loadMore_power (s : State) : s.loadMore.power = s.power := by simp [State.loadMore]
@[simp] theorem State.loadMore_film (s : State) : s.loadMore.film = s.film := by simp [State.loadMore]
@[simp] theorem State.loadMore_pins (s : State) : s.loadMore.pins = s.pins := by simp [State.loadMore]

@[simp] theorem State.openLoad_pending (s : State) (t : Target) (source : Addr) (sum : Nat) : (s.openLoad t source sum).pending = s.pending :=
  by simp [State.openLoad]
@[simp] theorem State.openLoad_regs (s : State) (t : Target) (source : Addr) (sum : Nat) : (s.openLoad t source sum).regs = s.regs :=
  by simp [State.openLoad]
@[simp] theorem State.openLoad_run (s : State) (t : Target) (source : Addr) (sum : Nat) : (s.openLoad t source sum).run = s.run :=
  by simp [State.openLoad]
@[simp] theorem State.openLoad_rb (s : State) (t : Target) (source : Addr) (sum : Nat) : (s.openLoad t source sum).rb = s.rb :=
  by simp [State.openLoad]
@[simp] theorem State.openLoad_deck (s : State) (t : Target) (source : Addr) (sum : Nat) : (s.openLoad t source sum).deck = s.deck :=
  by simp [State.openLoad]
@[simp] theorem State.openLoad_seq (s : State) (t : Target) (source : Addr) (sum : Nat) : (s.openLoad t source sum).seq = s.seq :=
  by simp [State.openLoad]
@[simp] theorem State.openLoad_frame (s : State) (t : Target) (source : Addr) (sum : Nat) : (s.openLoad t source sum).frame = s.frame :=
  by simp [State.openLoad]
@[simp] theorem State.openLoad_ring (s : State) (t : Target) (source : Addr) (sum : Nat) : (s.openLoad t source sum).ring = s.ring :=
  by simp [State.openLoad]
@[simp] theorem State.openLoad_dp (s : State) (t : Target) (source : Addr) (sum : Nat) : (s.openLoad t source sum).dp = s.dp :=
  by simp [State.openLoad]
@[simp] theorem State.openLoad_scan (s : State) (t : Target) (source : Addr) (sum : Nat) : (s.openLoad t source sum).scan = s.scan :=
  by simp [State.openLoad]
@[simp] theorem State.openLoad_power (s : State) (t : Target) (source : Addr) (sum : Nat) : (s.openLoad t source sum).power = s.power :=
  by simp [State.openLoad]
@[simp] theorem State.openLoad_film (s : State) (t : Target) (source : Addr) (sum : Nat) : (s.openLoad t source sum).film = s.film :=
  by simp [State.openLoad]
@[simp] theorem State.openLoad_pins (s : State) (t : Target) (source : Addr) (sum : Nat) : (s.openLoad t source sum).pins = s.pins :=
  by simp [State.openLoad]

@[simp] theorem State.abandonLoad_pending (s : State) : s.abandonLoad.pending = s.pending :=
  by simp [State.abandonLoad]
@[simp] theorem State.abandonLoad_regs (s : State) : s.abandonLoad.regs = s.regs := by simp [State.abandonLoad]
@[simp] theorem State.abandonLoad_run (s : State) : s.abandonLoad.run = s.run := by simp [State.abandonLoad]
@[simp] theorem State.abandonLoad_rb (s : State) : s.abandonLoad.rb = s.rb := by simp [State.abandonLoad]
@[simp] theorem State.abandonLoad_deck (s : State) : s.abandonLoad.deck = s.deck := by simp [State.abandonLoad]
@[simp] theorem State.abandonLoad_seq (s : State) : s.abandonLoad.seq = s.seq := by simp [State.abandonLoad]
@[simp] theorem State.abandonLoad_frame (s : State) : s.abandonLoad.frame = s.frame := by simp [State.abandonLoad]
@[simp] theorem State.abandonLoad_ring (s : State) : s.abandonLoad.ring = s.ring := by simp [State.abandonLoad]
@[simp] theorem State.abandonLoad_dp (s : State) : s.abandonLoad.dp = s.dp := by simp [State.abandonLoad]
@[simp] theorem State.abandonLoad_scan (s : State) : s.abandonLoad.scan = s.scan := by simp [State.abandonLoad]
@[simp] theorem State.abandonLoad_power (s : State) : s.abandonLoad.power = s.power := by simp [State.abandonLoad]
@[simp] theorem State.abandonLoad_film (s : State) : s.abandonLoad.film = s.film := by simp [State.abandonLoad]
@[simp] theorem State.abandonLoad_pins (s : State) : s.abandonLoad.pins = s.pins := by simp [State.abandonLoad]
@[simp] theorem State.abandonLoad_bus (s : State) : s.abandonLoad.bus = s.bus := by simp [State.abandonLoad]
@[simp] theorem State.abandonLoad_nextId (s : State) : s.abandonLoad.nextId = s.nextId := by simp [State.abandonLoad]

@[simp] theorem State.openDump_pending (s : State) (t : Target) (dest : Addr) : (s.openDump t dest).pending = s.pending :=
  by simp [State.openDump]
@[simp] theorem State.openDump_regs (s : State) (t : Target) (dest : Addr) : (s.openDump t dest).regs = s.regs :=
  by simp [State.openDump]
@[simp] theorem State.openDump_run (s : State) (t : Target) (dest : Addr) : (s.openDump t dest).run = s.run :=
  by simp [State.openDump]
@[simp] theorem State.openDump_rb (s : State) (t : Target) (dest : Addr) : (s.openDump t dest).rb = s.rb :=
  by simp [State.openDump]
@[simp] theorem State.openDump_deck (s : State) (t : Target) (dest : Addr) : (s.openDump t dest).deck = s.deck :=
  by simp [State.openDump]
@[simp] theorem State.openDump_seq (s : State) (t : Target) (dest : Addr) : (s.openDump t dest).seq = s.seq :=
  by simp [State.openDump]
@[simp] theorem State.openDump_frame (s : State) (t : Target) (dest : Addr) : (s.openDump t dest).frame = s.frame :=
  by simp [State.openDump]
@[simp] theorem State.openDump_ring (s : State) (t : Target) (dest : Addr) : (s.openDump t dest).ring = s.ring :=
  by simp [State.openDump]
@[simp] theorem State.openDump_dp (s : State) (t : Target) (dest : Addr) : (s.openDump t dest).dp = s.dp :=
  by simp [State.openDump]
@[simp] theorem State.openDump_scan (s : State) (t : Target) (dest : Addr) : (s.openDump t dest).scan = s.scan :=
  by simp [State.openDump]
@[simp] theorem State.openDump_power (s : State) (t : Target) (dest : Addr) : (s.openDump t dest).power = s.power :=
  by simp [State.openDump]
@[simp] theorem State.openDump_film (s : State) (t : Target) (dest : Addr) : (s.openDump t dest).film = s.film :=
  by simp [State.openDump]
@[simp] theorem State.openDump_pins (s : State) (t : Target) (dest : Addr) : (s.openDump t dest).pins = s.pins :=
  by simp [State.openDump]
@[simp] theorem State.openDump_bus (s : State) (t : Target) (dest : Addr) : (s.openDump t dest).bus = s.bus :=
  by simp [State.openDump]
@[simp] theorem State.openDump_nextId (s : State) (t : Target) (dest : Addr) : (s.openDump t dest).nextId = s.nextId :=
  by simp [State.openDump]

@[simp] theorem State.dumpWrite_pending (s : State) (d : Dump) : (s.dumpWrite d).pending = s.pending :=
  by simp [State.dumpWrite]
@[simp] theorem State.dumpWrite_regs (s : State) (d : Dump) : (s.dumpWrite d).regs = s.regs :=
  by simp [State.dumpWrite]
@[simp] theorem State.dumpWrite_run (s : State) (d : Dump) : (s.dumpWrite d).run = s.run := by simp [State.dumpWrite]
@[simp] theorem State.dumpWrite_rb (s : State) (d : Dump) : (s.dumpWrite d).rb = s.rb := by simp [State.dumpWrite]
@[simp] theorem State.dumpWrite_deck (s : State) (d : Dump) : (s.dumpWrite d).deck = s.deck :=
  by simp [State.dumpWrite]
@[simp] theorem State.dumpWrite_seq (s : State) (d : Dump) : (s.dumpWrite d).seq = s.seq := by simp [State.dumpWrite]
@[simp] theorem State.dumpWrite_frame (s : State) (d : Dump) : (s.dumpWrite d).frame = s.frame :=
  by simp [State.dumpWrite]
@[simp] theorem State.dumpWrite_ring (s : State) (d : Dump) : (s.dumpWrite d).ring = s.ring :=
  by simp [State.dumpWrite]
@[simp] theorem State.dumpWrite_dp (s : State) (d : Dump) : (s.dumpWrite d).dp = s.dp := by simp [State.dumpWrite]
@[simp] theorem State.dumpWrite_scan (s : State) (d : Dump) : (s.dumpWrite d).scan = s.scan :=
  by simp [State.dumpWrite]
@[simp] theorem State.dumpWrite_power (s : State) (d : Dump) : (s.dumpWrite d).power = s.power :=
  by simp [State.dumpWrite]
@[simp] theorem State.dumpWrite_film (s : State) (d : Dump) : (s.dumpWrite d).film = s.film :=
  by simp [State.dumpWrite]
@[simp] theorem State.dumpWrite_pins (s : State) (d : Dump) : (s.dumpWrite d).pins = s.pins :=
  by simp [State.dumpWrite]
@[simp] theorem State.dumpWrite_nextId (s : State) (d : Dump) : (s.dumpWrite d).nextId = s.nextId :=
  by simp [State.dumpWrite]

end Sys2Proof.Machine
end

