-- ==== Sys2Proof/Laws/Transport.lean ====
section
/-! SUPPORT. What the transport's operations leave as it was: one lemma per operation and block of State. -/

namespace Sys2Proof.Machine

@[simp] theorem State.leaderCycle_pending (s : State) : s.leaderCycle.pending = s.pending :=
  by unfold State.leaderCycle; (repeat' split) <;> simp
@[simp] theorem State.leaderCycle_rb (s : State) : s.leaderCycle.rb = s.rb :=
  by unfold State.leaderCycle; (repeat' split) <;> simp
@[simp] theorem State.leaderCycle_seq (s : State) : s.leaderCycle.seq = s.seq :=
  by unfold State.leaderCycle; (repeat' split) <;> simp
@[simp] theorem State.leaderCycle_frame (s : State) : s.leaderCycle.frame = s.frame :=
  by unfold State.leaderCycle; (repeat' split) <;> simp
@[simp] theorem State.leaderCycle_ring (s : State) : s.leaderCycle.ring = s.ring :=
  by unfold State.leaderCycle; (repeat' split) <;> simp
@[simp] theorem State.leaderCycle_dp (s : State) : s.leaderCycle.dp = s.dp :=
  by unfold State.leaderCycle; (repeat' split) <;> simp
@[simp] theorem State.leaderCycle_tables (s : State) : s.leaderCycle.tables = s.tables :=
  by unfold State.leaderCycle; (repeat' split) <;> simp
@[simp] theorem State.leaderCycle_scan (s : State) : s.leaderCycle.scan = s.scan :=
  by unfold State.leaderCycle; (repeat' split) <;> simp
@[simp] theorem State.leaderCycle_pins (s : State) : s.leaderCycle.pins = s.pins :=
  by unfold State.leaderCycle; (repeat' split) <;> simp
@[simp] theorem State.leaderCycle_nextId (s : State) : s.leaderCycle.nextId = s.nextId :=
  by unfold State.leaderCycle; (repeat' split) <;> simp

end Sys2Proof.Machine
end

