-- ==== Sys2Proof/Laws/Frame.lean ====
section
/-! SUPPORT. What Frame Exposure's operations leave as it was: one lemma per operation and block of State. -/

namespace Sys2Proof.Machine

@[simp] theorem State.setCtx_pending (s : State) (c : FrameCtx) : (s.setCtx c).pending = s.pending :=
  by simp [State.setCtx]
@[simp] theorem State.setCtx_regs (s : State) (c : FrameCtx) : (s.setCtx c).regs = s.regs := by simp [State.setCtx]
@[simp] theorem State.setCtx_run (s : State) (c : FrameCtx) : (s.setCtx c).run = s.run := by simp [State.setCtx]
@[simp] theorem State.setCtx_rb (s : State) (c : FrameCtx) : (s.setCtx c).rb = s.rb := by simp [State.setCtx]
@[simp] theorem State.setCtx_deck (s : State) (c : FrameCtx) : (s.setCtx c).deck = s.deck := by simp [State.setCtx]
@[simp] theorem State.setCtx_seq (s : State) (c : FrameCtx) : (s.setCtx c).seq = s.seq := by simp [State.setCtx]
@[simp] theorem State.setCtx_ring (s : State) (c : FrameCtx) : (s.setCtx c).ring = s.ring := by simp [State.setCtx]
@[simp] theorem State.setCtx_dp (s : State) (c : FrameCtx) : (s.setCtx c).dp = s.dp := by simp [State.setCtx]
@[simp] theorem State.setCtx_tables (s : State) (c : FrameCtx) : (s.setCtx c).tables = s.tables :=
  by simp [State.setCtx]
@[simp] theorem State.setCtx_scan (s : State) (c : FrameCtx) : (s.setCtx c).scan = s.scan := by simp [State.setCtx]
@[simp] theorem State.setCtx_power (s : State) (c : FrameCtx) : (s.setCtx c).power = s.power := by simp [State.setCtx]
@[simp] theorem State.setCtx_film (s : State) (c : FrameCtx) : (s.setCtx c).film = s.film := by simp [State.setCtx]
@[simp] theorem State.setCtx_pins (s : State) (c : FrameCtx) : (s.setCtx c).pins = s.pins := by simp [State.setCtx]
@[simp] theorem State.setCtx_bus (s : State) (c : FrameCtx) : (s.setCtx c).bus = s.bus := by simp [State.setCtx]
@[simp] theorem State.setCtx_nextId (s : State) (c : FrameCtx) : (s.setCtx c).nextId = s.nextId :=
  by simp [State.setCtx]

@[simp] theorem State.emptyCtx_pending (s : State) : s.emptyCtx.pending = s.pending := by simp [State.emptyCtx]
@[simp] theorem State.emptyCtx_regs (s : State) : s.emptyCtx.regs = s.regs := by simp [State.emptyCtx]
@[simp] theorem State.emptyCtx_run (s : State) : s.emptyCtx.run = s.run := by simp [State.emptyCtx]
@[simp] theorem State.emptyCtx_rb (s : State) : s.emptyCtx.rb = s.rb := by simp [State.emptyCtx]
@[simp] theorem State.emptyCtx_deck (s : State) : s.emptyCtx.deck = s.deck := by simp [State.emptyCtx]
@[simp] theorem State.emptyCtx_seq (s : State) : s.emptyCtx.seq = s.seq := by simp [State.emptyCtx]
@[simp] theorem State.emptyCtx_ring (s : State) : s.emptyCtx.ring = s.ring := by simp [State.emptyCtx]
@[simp] theorem State.emptyCtx_dp (s : State) : s.emptyCtx.dp = s.dp := by simp [State.emptyCtx]
@[simp] theorem State.emptyCtx_tables (s : State) : s.emptyCtx.tables = s.tables := by simp [State.emptyCtx]
@[simp] theorem State.emptyCtx_scan (s : State) : s.emptyCtx.scan = s.scan := by simp [State.emptyCtx]
@[simp] theorem State.emptyCtx_power (s : State) : s.emptyCtx.power = s.power := by simp [State.emptyCtx]
@[simp] theorem State.emptyCtx_film (s : State) : s.emptyCtx.film = s.film := by simp [State.emptyCtx]
@[simp] theorem State.emptyCtx_pins (s : State) : s.emptyCtx.pins = s.pins := by simp [State.emptyCtx]
@[simp] theorem State.emptyCtx_bus (s : State) : s.emptyCtx.bus = s.bus := by simp [State.emptyCtx]
@[simp] theorem State.emptyCtx_nextId (s : State) : s.emptyCtx.nextId = s.nextId := by simp [State.emptyCtx]

@[simp] theorem State.refuseFrame_pending (s : State) (c : FrameCtx) (why : Reason) : (s.refuseFrame c why).pending = s.pending :=
  by simp [State.refuseFrame]
@[simp] theorem State.refuseFrame_rb (s : State) (c : FrameCtx) (why : Reason) : (s.refuseFrame c why).rb = s.rb :=
  by simp [State.refuseFrame]
@[simp] theorem State.refuseFrame_tables (s : State) (c : FrameCtx) (why : Reason) : (s.refuseFrame c why).tables = s.tables :=
  by simp [State.refuseFrame]
@[simp] theorem State.refuseFrame_scan (s : State) (c : FrameCtx) (why : Reason) : (s.refuseFrame c why).scan = s.scan :=
  by simp [State.refuseFrame]
@[simp] theorem State.refuseFrame_film (s : State) (c : FrameCtx) (why : Reason) : (s.refuseFrame c why).film = s.film :=
  by simp [State.refuseFrame]
@[simp] theorem State.refuseFrame_pins (s : State) (c : FrameCtx) (why : Reason) : (s.refuseFrame c why).pins = s.pins :=
  by simp [State.refuseFrame]

@[simp] theorem State.beginFrameWait_pending (s : State) (c : FrameCtx) : (s.beginFrameWait c).pending = s.pending :=
  by simp [State.beginFrameWait]
@[simp] theorem State.beginFrameWait_regs (s : State) (c : FrameCtx) : (s.beginFrameWait c).regs = s.regs :=
  by simp [State.beginFrameWait]
@[simp] theorem State.beginFrameWait_run (s : State) (c : FrameCtx) : (s.beginFrameWait c).run = s.run :=
  by simp [State.beginFrameWait]
@[simp] theorem State.beginFrameWait_rb (s : State) (c : FrameCtx) : (s.beginFrameWait c).rb = s.rb :=
  by simp [State.beginFrameWait]
@[simp] theorem State.beginFrameWait_deck (s : State) (c : FrameCtx) : (s.beginFrameWait c).deck = s.deck :=
  by simp [State.beginFrameWait]
@[simp] theorem State.beginFrameWait_seq (s : State) (c : FrameCtx) : (s.beginFrameWait c).seq = s.seq :=
  by simp [State.beginFrameWait]
@[simp] theorem State.beginFrameWait_dp (s : State) (c : FrameCtx) : (s.beginFrameWait c).dp = s.dp :=
  by simp [State.beginFrameWait]
@[simp] theorem State.beginFrameWait_tables (s : State) (c : FrameCtx) : (s.beginFrameWait c).tables = s.tables :=
  by simp [State.beginFrameWait]
@[simp] theorem State.beginFrameWait_scan (s : State) (c : FrameCtx) : (s.beginFrameWait c).scan = s.scan :=
  by simp [State.beginFrameWait]
@[simp] theorem State.beginFrameWait_power (s : State) (c : FrameCtx) : (s.beginFrameWait c).power = s.power :=
  by simp [State.beginFrameWait]
@[simp] theorem State.beginFrameWait_film (s : State) (c : FrameCtx) : (s.beginFrameWait c).film = s.film :=
  by simp [State.beginFrameWait]
@[simp] theorem State.beginFrameWait_pins (s : State) (c : FrameCtx) : (s.beginFrameWait c).pins = s.pins :=
  by simp [State.beginFrameWait]

@[simp] theorem State.enterPreparing_pending (s : State) (c0 : FrameCtx) : (s.enterPreparing c0).pending = s.pending :=
  by unfold State.enterPreparing; simp only []; (repeat' split) <;> simp_all []
@[simp] theorem State.enterPreparing_rb (s : State) (c0 : FrameCtx) : (s.enterPreparing c0).rb = s.rb :=
  by unfold State.enterPreparing; simp only []; (repeat' split) <;> simp_all []
@[simp] theorem State.enterPreparing_scan (s : State) (c0 : FrameCtx) : (s.enterPreparing c0).scan = s.scan :=
  by unfold State.enterPreparing; simp only []; (repeat' split) <;> simp_all []
@[simp] theorem State.enterPreparing_film (s : State) (c0 : FrameCtx) : (s.enterPreparing c0).film = s.film :=
  by unfold State.enterPreparing; simp only []; (repeat' split) <;> simp_all []
@[simp] theorem State.enterPreparing_pins (s : State) (c0 : FrameCtx) : (s.enterPreparing c0).pins = s.pins :=
  by unfold State.enterPreparing; simp only []; (repeat' split) <;> simp_all []

@[simp] theorem State.spoil_pending (s : State) (c : FrameCtx) (cause : SpoilCause) : (s.spoil c cause).pending = s.pending :=
  by unfold State.spoil; simp only []; (repeat' split) <;> simp_all []
@[simp] theorem State.spoil_regs (s : State) (c : FrameCtx) (cause : SpoilCause) : (s.spoil c cause).regs = s.regs :=
  by unfold State.spoil; simp only []; (repeat' split) <;> simp_all []
@[simp] theorem State.spoil_run (s : State) (c : FrameCtx) (cause : SpoilCause) : (s.spoil c cause).run = s.run :=
  by unfold State.spoil; simp only []; (repeat' split) <;> simp_all []
@[simp] theorem State.spoil_rb (s : State) (c : FrameCtx) (cause : SpoilCause) : (s.spoil c cause).rb = s.rb :=
  by unfold State.spoil; simp only []; (repeat' split) <;> simp_all []
@[simp] theorem State.spoil_deck (s : State) (c : FrameCtx) (cause : SpoilCause) : (s.spoil c cause).deck = s.deck :=
  by unfold State.spoil; simp only []; (repeat' split) <;> simp_all []
@[simp] theorem State.spoil_seq (s : State) (c : FrameCtx) (cause : SpoilCause) : (s.spoil c cause).seq = s.seq :=
  by unfold State.spoil; simp only []; (repeat' split) <;> simp_all []
@[simp] theorem State.spoil_tables (s : State) (c : FrameCtx) (cause : SpoilCause) : (s.spoil c cause).tables = s.tables :=
  by unfold State.spoil; simp only []; (repeat' split) <;> simp_all []
@[simp] theorem State.spoil_scan (s : State) (c : FrameCtx) (cause : SpoilCause) : (s.spoil c cause).scan = s.scan :=
  by unfold State.spoil; simp only []; (repeat' split) <;> simp_all []
@[simp] theorem State.spoil_power (s : State) (c : FrameCtx) (cause : SpoilCause) : (s.spoil c cause).power = s.power :=
  by unfold State.spoil; simp only []; (repeat' split) <;> simp_all []
@[simp] theorem State.spoil_pins (s : State) (c : FrameCtx) (cause : SpoilCause) : (s.spoil c cause).pins = s.pins :=
  by unfold State.spoil; simp only []; (repeat' split) <;> simp_all []

@[simp] theorem State.dropRetake_pending (s : State) (c : FrameCtx) : (s.dropRetake c).pending = s.pending :=
  by simp [State.dropRetake]
@[simp] theorem State.dropRetake_regs (s : State) (c : FrameCtx) : (s.dropRetake c).regs = s.regs :=
  by simp [State.dropRetake]
@[simp] theorem State.dropRetake_run (s : State) (c : FrameCtx) : (s.dropRetake c).run = s.run :=
  by simp [State.dropRetake]
@[simp] theorem State.dropRetake_rb (s : State) (c : FrameCtx) : (s.dropRetake c).rb = s.rb :=
  by simp [State.dropRetake]
@[simp] theorem State.dropRetake_deck (s : State) (c : FrameCtx) : (s.dropRetake c).deck = s.deck :=
  by simp [State.dropRetake]
@[simp] theorem State.dropRetake_seq (s : State) (c : FrameCtx) : (s.dropRetake c).seq = s.seq :=
  by simp [State.dropRetake]
@[simp] theorem State.dropRetake_dp (s : State) (c : FrameCtx) : (s.dropRetake c).dp = s.dp :=
  by simp [State.dropRetake]
@[simp] theorem State.dropRetake_tables (s : State) (c : FrameCtx) : (s.dropRetake c).tables = s.tables :=
  by simp [State.dropRetake]
@[simp] theorem State.dropRetake_scan (s : State) (c : FrameCtx) : (s.dropRetake c).scan = s.scan :=
  by simp [State.dropRetake]
@[simp] theorem State.dropRetake_power (s : State) (c : FrameCtx) : (s.dropRetake c).power = s.power :=
  by simp [State.dropRetake]
@[simp] theorem State.dropRetake_film (s : State) (c : FrameCtx) : (s.dropRetake c).film = s.film :=
  by simp [State.dropRetake]
@[simp] theorem State.dropRetake_pins (s : State) (c : FrameCtx) : (s.dropRetake c).pins = s.pins :=
  by simp [State.dropRetake]
@[simp] theorem State.dropRetake_bus (s : State) (c : FrameCtx) : (s.dropRetake c).bus = s.bus :=
  by simp [State.dropRetake]
@[simp] theorem State.dropRetake_nextId (s : State) (c : FrameCtx) : (s.dropRetake c).nextId = s.nextId :=
  by simp [State.dropRetake]

@[simp] theorem State.frameLockLost_pending (s : State) : s.frameLockLost.pending = s.pending :=
  by unfold State.frameLockLost; (repeat' split) <;> simp
@[simp] theorem State.frameLockLost_rb (s : State) : s.frameLockLost.rb = s.rb :=
  by unfold State.frameLockLost; (repeat' split) <;> simp
@[simp] theorem State.frameLockLost_seq (s : State) : s.frameLockLost.seq = s.seq :=
  by unfold State.frameLockLost; (repeat' split) <;> simp
@[simp] theorem State.frameLockLost_tables (s : State) : s.frameLockLost.tables = s.tables :=
  by unfold State.frameLockLost; (repeat' split) <;> simp
@[simp] theorem State.frameLockLost_scan (s : State) : s.frameLockLost.scan = s.scan :=
  by unfold State.frameLockLost; (repeat' split) <;> simp
@[simp] theorem State.frameLockLost_pins (s : State) : s.frameLockLost.pins = s.pins :=
  by unfold State.frameLockLost; (repeat' split) <;> simp

@[simp] theorem State.laserDark_pending (s : State) : s.laserDark.pending = s.pending :=
  by unfold State.laserDark; (repeat' split) <;> simp
@[simp] theorem State.laserDark_rb (s : State) : s.laserDark.rb = s.rb :=
  by unfold State.laserDark; (repeat' split) <;> simp
@[simp] theorem State.laserDark_seq (s : State) : s.laserDark.seq = s.seq :=
  by unfold State.laserDark; (repeat' split) <;> simp
@[simp] theorem State.laserDark_tables (s : State) : s.laserDark.tables = s.tables :=
  by unfold State.laserDark; (repeat' split) <;> simp
@[simp] theorem State.laserDark_scan (s : State) : s.laserDark.scan = s.scan :=
  by unfold State.laserDark; (repeat' split) <;> simp
@[simp] theorem State.laserDark_pins (s : State) : s.laserDark.pins = s.pins :=
  by unfold State.laserDark; (repeat' split) <;> simp

@[simp] theorem State.beginRasterLine_pending (s : State) (c : FrameCtx) (src : LineSource) : (s.beginRasterLine c src).pending = s.pending :=
  by simp [State.beginRasterLine]
@[simp] theorem State.beginRasterLine_regs (s : State) (c : FrameCtx) (src : LineSource) : (s.beginRasterLine c src).regs = s.regs :=
  by simp [State.beginRasterLine]
@[simp] theorem State.beginRasterLine_run (s : State) (c : FrameCtx) (src : LineSource) : (s.beginRasterLine c src).run = s.run :=
  by simp [State.beginRasterLine]
@[simp] theorem State.beginRasterLine_rb (s : State) (c : FrameCtx) (src : LineSource) : (s.beginRasterLine c src).rb = s.rb :=
  by simp [State.beginRasterLine]
@[simp] theorem State.beginRasterLine_deck (s : State) (c : FrameCtx) (src : LineSource) : (s.beginRasterLine c src).deck = s.deck :=
  by simp [State.beginRasterLine]
@[simp] theorem State.beginRasterLine_seq (s : State) (c : FrameCtx) (src : LineSource) : (s.beginRasterLine c src).seq = s.seq :=
  by simp [State.beginRasterLine]
@[simp] theorem State.beginRasterLine_ring (s : State) (c : FrameCtx) (src : LineSource) : (s.beginRasterLine c src).ring = s.ring :=
  by simp [State.beginRasterLine]
@[simp] theorem State.beginRasterLine_tables (s : State) (c : FrameCtx) (src : LineSource) : (s.beginRasterLine c src).tables = s.tables :=
  by simp [State.beginRasterLine]
@[simp] theorem State.beginRasterLine_scan (s : State) (c : FrameCtx) (src : LineSource) : (s.beginRasterLine c src).scan = s.scan :=
  by simp [State.beginRasterLine]
@[simp] theorem State.beginRasterLine_power (s : State) (c : FrameCtx) (src : LineSource) : (s.beginRasterLine c src).power = s.power :=
  by simp [State.beginRasterLine]
@[simp] theorem State.beginRasterLine_pins (s : State) (c : FrameCtx) (src : LineSource) : (s.beginRasterLine c src).pins = s.pins :=
  by simp [State.beginRasterLine]
@[simp] theorem State.beginRasterLine_bus (s : State) (c : FrameCtx) (src : LineSource) : (s.beginRasterLine c src).bus = s.bus :=
  by simp [State.beginRasterLine]
@[simp] theorem State.beginRasterLine_nextId (s : State) (c : FrameCtx) (src : LineSource) : (s.beginRasterLine c src).nextId = s.nextId :=
  by simp [State.beginRasterLine]

@[simp] theorem State.exposeLine_pending (s : State) (c0 : FrameCtx) : (s.exposeLine c0).pending = s.pending :=
  by unfold State.exposeLine; simp only []; (repeat' split) <;> simp_all []
@[simp] theorem State.exposeLine_regs (s : State) (c0 : FrameCtx) : (s.exposeLine c0).regs = s.regs :=
  by unfold State.exposeLine; simp only []; (repeat' split) <;> simp_all []
@[simp] theorem State.exposeLine_run (s : State) (c0 : FrameCtx) : (s.exposeLine c0).run = s.run :=
  by unfold State.exposeLine; simp only []; (repeat' split) <;> simp_all []
@[simp] theorem State.exposeLine_rb (s : State) (c0 : FrameCtx) : (s.exposeLine c0).rb = s.rb :=
  by unfold State.exposeLine; simp only []; (repeat' split) <;> simp_all []
@[simp] theorem State.exposeLine_deck (s : State) (c0 : FrameCtx) : (s.exposeLine c0).deck = s.deck :=
  by unfold State.exposeLine; simp only []; (repeat' split) <;> simp_all []
@[simp] theorem State.exposeLine_seq (s : State) (c0 : FrameCtx) : (s.exposeLine c0).seq = s.seq :=
  by unfold State.exposeLine; simp only []; (repeat' split) <;> simp_all []
@[simp] theorem State.exposeLine_tables (s : State) (c0 : FrameCtx) : (s.exposeLine c0).tables = s.tables :=
  by unfold State.exposeLine; simp only []; (repeat' split) <;> simp_all []
@[simp] theorem State.exposeLine_scan (s : State) (c0 : FrameCtx) : (s.exposeLine c0).scan = s.scan :=
  by unfold State.exposeLine; simp only []; (repeat' split) <;> simp_all []
@[simp] theorem State.exposeLine_power (s : State) (c0 : FrameCtx) : (s.exposeLine c0).power = s.power :=
  by unfold State.exposeLine; simp only []; (repeat' split) <;> simp_all []
@[simp] theorem State.exposeLine_pins (s : State) (c0 : FrameCtx) : (s.exposeLine c0).pins = s.pins :=
  by unfold State.exposeLine; simp only []; (repeat' split) <;> simp_all []

@[simp] theorem State.frameLine_pending (s : State) : s.frameLine.pending = s.pending :=
  by unfold State.frameLine; (repeat' split) <;> simp
@[simp] theorem State.frameLine_regs (s : State) : s.frameLine.regs = s.regs :=
  by unfold State.frameLine; (repeat' split) <;> simp
@[simp] theorem State.frameLine_run (s : State) : s.frameLine.run = s.run :=
  by unfold State.frameLine; (repeat' split) <;> simp
@[simp] theorem State.frameLine_rb (s : State) : s.frameLine.rb = s.rb :=
  by unfold State.frameLine; (repeat' split) <;> simp
@[simp] theorem State.frameLine_deck (s : State) : s.frameLine.deck = s.deck :=
  by unfold State.frameLine; (repeat' split) <;> simp
@[simp] theorem State.frameLine_seq (s : State) : s.frameLine.seq = s.seq :=
  by unfold State.frameLine; (repeat' split) <;> simp
@[simp] theorem State.frameLine_tables (s : State) : s.frameLine.tables = s.tables :=
  by unfold State.frameLine; (repeat' split) <;> simp
@[simp] theorem State.frameLine_scan (s : State) : s.frameLine.scan = s.scan :=
  by unfold State.frameLine; (repeat' split) <;> simp
@[simp] theorem State.frameLine_power (s : State) : s.frameLine.power = s.power :=
  by unfold State.frameLine; (repeat' split) <;> simp
@[simp] theorem State.frameLine_pins (s : State) : s.frameLine.pins = s.pins :=
  by unfold State.frameLine; (repeat' split) <;> simp

@[simp] theorem State.closeIfLast_pending (s : State) : s.closeIfLast.pending = s.pending :=
  by unfold State.closeIfLast; (repeat' split) <;> simp
@[simp] theorem State.closeIfLast_regs (s : State) : s.closeIfLast.regs = s.regs :=
  by unfold State.closeIfLast; (repeat' split) <;> simp
@[simp] theorem State.closeIfLast_run (s : State) : s.closeIfLast.run = s.run :=
  by unfold State.closeIfLast; (repeat' split) <;> simp
@[simp] theorem State.closeIfLast_rb (s : State) : s.closeIfLast.rb = s.rb :=
  by unfold State.closeIfLast; (repeat' split) <;> simp
@[simp] theorem State.closeIfLast_deck (s : State) : s.closeIfLast.deck = s.deck :=
  by unfold State.closeIfLast; (repeat' split) <;> simp
@[simp] theorem State.closeIfLast_seq (s : State) : s.closeIfLast.seq = s.seq :=
  by unfold State.closeIfLast; (repeat' split) <;> simp
@[simp] theorem State.closeIfLast_ring (s : State) : s.closeIfLast.ring = s.ring :=
  by unfold State.closeIfLast; (repeat' split) <;> simp
@[simp] theorem State.closeIfLast_dp (s : State) : s.closeIfLast.dp = s.dp :=
  by unfold State.closeIfLast; (repeat' split) <;> simp
@[simp] theorem State.closeIfLast_tables (s : State) : s.closeIfLast.tables = s.tables :=
  by unfold State.closeIfLast; (repeat' split) <;> simp
@[simp] theorem State.closeIfLast_scan (s : State) : s.closeIfLast.scan = s.scan :=
  by unfold State.closeIfLast; (repeat' split) <;> simp
@[simp] theorem State.closeIfLast_power (s : State) : s.closeIfLast.power = s.power :=
  by unfold State.closeIfLast; (repeat' split) <;> simp
@[simp] theorem State.closeIfLast_pins (s : State) : s.closeIfLast.pins = s.pins :=
  by unfold State.closeIfLast; (repeat' split) <;> simp
@[simp] theorem State.closeIfLast_bus (s : State) : s.closeIfLast.bus = s.bus :=
  by unfold State.closeIfLast; (repeat' split) <;> simp
@[simp] theorem State.closeIfLast_nextId (s : State) : s.closeIfLast.nextId = s.nextId :=
  by unfold State.closeIfLast; (repeat' split) <;> simp

@[simp] theorem State.imageLineEnded_pending (s : State) (slot : Nat) (k : Tri Clamp) : (s.imageLineEnded slot k).pending = s.pending :=
  by simp [State.imageLineEnded]
@[simp] theorem State.imageLineEnded_regs (s : State) (slot : Nat) (k : Tri Clamp) : (s.imageLineEnded slot k).regs = s.regs :=
  by simp [State.imageLineEnded]
@[simp] theorem State.imageLineEnded_run (s : State) (slot : Nat) (k : Tri Clamp) : (s.imageLineEnded slot k).run = s.run :=
  by simp [State.imageLineEnded]
@[simp] theorem State.imageLineEnded_rb (s : State) (slot : Nat) (k : Tri Clamp) : (s.imageLineEnded slot k).rb = s.rb :=
  by simp [State.imageLineEnded]
@[simp] theorem State.imageLineEnded_deck (s : State) (slot : Nat) (k : Tri Clamp) : (s.imageLineEnded slot k).deck = s.deck :=
  by simp [State.imageLineEnded]
@[simp] theorem State.imageLineEnded_seq (s : State) (slot : Nat) (k : Tri Clamp) : (s.imageLineEnded slot k).seq = s.seq :=
  by simp [State.imageLineEnded]
@[simp] theorem State.imageLineEnded_dp (s : State) (slot : Nat) (k : Tri Clamp) : (s.imageLineEnded slot k).dp = s.dp :=
  by simp [State.imageLineEnded]
@[simp] theorem State.imageLineEnded_tables (s : State) (slot : Nat) (k : Tri Clamp) : (s.imageLineEnded slot k).tables = s.tables :=
  by simp [State.imageLineEnded]
@[simp] theorem State.imageLineEnded_scan (s : State) (slot : Nat) (k : Tri Clamp) : (s.imageLineEnded slot k).scan = s.scan :=
  by simp [State.imageLineEnded]
@[simp] theorem State.imageLineEnded_power (s : State) (slot : Nat) (k : Tri Clamp) : (s.imageLineEnded slot k).power = s.power :=
  by simp [State.imageLineEnded]
@[simp] theorem State.imageLineEnded_film (s : State) (slot : Nat) (k : Tri Clamp) : (s.imageLineEnded slot k).film = s.film :=
  by simp [State.imageLineEnded]
@[simp] theorem State.imageLineEnded_pins (s : State) (slot : Nat) (k : Tri Clamp) : (s.imageLineEnded slot k).pins = s.pins :=
  by simp [State.imageLineEnded]

@[simp] theorem State.recordSpoil_pending (s : State) (c : FrameCtx) : (s.recordSpoil c).pending = s.pending :=
  by unfold State.recordSpoil; split <;> simp
@[simp] theorem State.recordSpoil_regs (s : State) (c : FrameCtx) : (s.recordSpoil c).regs = s.regs :=
  by unfold State.recordSpoil; split <;> simp
@[simp] theorem State.recordSpoil_run (s : State) (c : FrameCtx) : (s.recordSpoil c).run = s.run :=
  by unfold State.recordSpoil; split <;> simp
@[simp] theorem State.recordSpoil_rb (s : State) (c : FrameCtx) : (s.recordSpoil c).rb = s.rb :=
  by unfold State.recordSpoil; split <;> simp
@[simp] theorem State.recordSpoil_deck (s : State) (c : FrameCtx) : (s.recordSpoil c).deck = s.deck :=
  by unfold State.recordSpoil; split <;> simp
@[simp] theorem State.recordSpoil_seq (s : State) (c : FrameCtx) : (s.recordSpoil c).seq = s.seq :=
  by unfold State.recordSpoil; split <;> simp
@[simp] theorem State.recordSpoil_ring (s : State) (c : FrameCtx) : (s.recordSpoil c).ring = s.ring :=
  by unfold State.recordSpoil; split <;> simp
@[simp] theorem State.recordSpoil_dp (s : State) (c : FrameCtx) : (s.recordSpoil c).dp = s.dp :=
  by unfold State.recordSpoil; split <;> simp
@[simp] theorem State.recordSpoil_tables (s : State) (c : FrameCtx) : (s.recordSpoil c).tables = s.tables :=
  by unfold State.recordSpoil; split <;> simp
@[simp] theorem State.recordSpoil_scan (s : State) (c : FrameCtx) : (s.recordSpoil c).scan = s.scan :=
  by unfold State.recordSpoil; split <;> simp
@[simp] theorem State.recordSpoil_power (s : State) (c : FrameCtx) : (s.recordSpoil c).power = s.power :=
  by unfold State.recordSpoil; split <;> simp
@[simp] theorem State.recordSpoil_film (s : State) (c : FrameCtx) : (s.recordSpoil c).film = s.film :=
  by unfold State.recordSpoil; split <;> simp
@[simp] theorem State.recordSpoil_pins (s : State) (c : FrameCtx) : (s.recordSpoil c).pins = s.pins :=
  by unfold State.recordSpoil; split <;> simp
@[simp] theorem State.recordSpoil_nextId (s : State) (c : FrameCtx) : (s.recordSpoil c).nextId = s.nextId :=
  by unfold State.recordSpoil; split <;> simp

@[simp] theorem State.frameFault_pending (s : State) : s.frameFault.pending = s.pending :=
  by unfold State.frameFault; split <;> simp
@[simp] theorem State.frameFault_regs (s : State) : s.frameFault.regs = s.regs :=
  by unfold State.frameFault; split <;> simp
@[simp] theorem State.frameFault_run (s : State) : s.frameFault.run = s.run :=
  by unfold State.frameFault; split <;> simp
@[simp] theorem State.frameFault_rb (s : State) : s.frameFault.rb = s.rb := by unfold State.frameFault; split <;> simp
@[simp] theorem State.frameFault_deck (s : State) : s.frameFault.deck = s.deck :=
  by unfold State.frameFault; split <;> simp
@[simp] theorem State.frameFault_seq (s : State) : s.frameFault.seq = s.seq :=
  by unfold State.frameFault; split <;> simp
@[simp] theorem State.frameFault_frame (s : State) : s.frameFault.frame = s.frame :=
  by unfold State.frameFault; split <;> simp
@[simp] theorem State.frameFault_tables (s : State) : s.frameFault.tables = s.tables :=
  by unfold State.frameFault; split <;> simp
@[simp] theorem State.frameFault_scan (s : State) : s.frameFault.scan = s.scan :=
  by unfold State.frameFault; split <;> simp
@[simp] theorem State.frameFault_power (s : State) : s.frameFault.power = s.power :=
  by unfold State.frameFault; split <;> simp
@[simp] theorem State.frameFault_film (s : State) : s.frameFault.film = s.film :=
  by unfold State.frameFault; split <;> simp
@[simp] theorem State.frameFault_pins (s : State) : s.frameFault.pins = s.pins :=
  by unfold State.frameFault; split <;> simp

end Sys2Proof.Machine
end

