-- ==== Sys2Proof/Laws/Ending.lean ====
section
/-! SUPPORT. What the close of a run leaves as it was: one lemma per operation and block of State. -/

namespace Sys2Proof.Machine

@[simp] theorem State.skipCards_pending (n i : Nat) (s : State) : (State.skipCards n i s).pending = s.pending := by
  induction n generalizing i s with
  | zero => rfl
  | succ n ih => simp [State.skipCards, ih]

@[simp] theorem State.skipCards_regs (n i : Nat) (s : State) : (State.skipCards n i s).regs = s.regs := by
  induction n generalizing i s with
  | zero => rfl
  | succ n ih => simp [State.skipCards, ih]

@[simp] theorem State.skipCards_run (n i : Nat) (s : State) : (State.skipCards n i s).run = s.run := by
  induction n generalizing i s with
  | zero => rfl
  | succ n ih => simp [State.skipCards, ih]

@[simp] theorem State.skipCards_rb (n i : Nat) (s : State) : (State.skipCards n i s).rb = s.rb := by
  induction n generalizing i s with
  | zero => rfl
  | succ n ih => simp [State.skipCards, ih]

@[simp] theorem State.skipCards_seq (n i : Nat) (s : State) : (State.skipCards n i s).seq = s.seq := by
  induction n generalizing i s with
  | zero => rfl
  | succ n ih => simp [State.skipCards, ih]

@[simp] theorem State.skipCards_frame (n i : Nat) (s : State) : (State.skipCards n i s).frame = s.frame := by
  induction n generalizing i s with
  | zero => rfl
  | succ n ih => simp [State.skipCards, ih]

@[simp] theorem State.skipCards_ring (n i : Nat) (s : State) : (State.skipCards n i s).ring = s.ring := by
  induction n generalizing i s with
  | zero => rfl
  | succ n ih => simp [State.skipCards, ih]

@[simp] theorem State.skipCards_dp (n i : Nat) (s : State) : (State.skipCards n i s).dp = s.dp := by
  induction n generalizing i s with
  | zero => rfl
  | succ n ih => simp [State.skipCards, ih]

@[simp] theorem State.skipCards_tables (n i : Nat) (s : State) : (State.skipCards n i s).tables = s.tables := by
  induction n generalizing i s with
  | zero => rfl
  | succ n ih => simp [State.skipCards, ih]

@[simp] theorem State.skipCards_scan (n i : Nat) (s : State) : (State.skipCards n i s).scan = s.scan := by
  induction n generalizing i s with
  | zero => rfl
  | succ n ih => simp [State.skipCards, ih]

@[simp] theorem State.skipCards_power (n i : Nat) (s : State) : (State.skipCards n i s).power = s.power := by
  induction n generalizing i s with
  | zero => rfl
  | succ n ih => simp [State.skipCards, ih]

@[simp] theorem State.skipCards_film (n i : Nat) (s : State) : (State.skipCards n i s).film = s.film := by
  induction n generalizing i s with
  | zero => rfl
  | succ n ih => simp [State.skipCards, ih]

@[simp] theorem State.skipCards_pins (n i : Nat) (s : State) : (State.skipCards n i s).pins = s.pins := by
  induction n generalizing i s with
  | zero => rfl
  | succ n ih => simp [State.skipCards, ih]

@[simp] theorem State.skipCards_nextId (n i : Nat) (s : State) : (State.skipCards n i s).nextId = s.nextId := by
  induction n generalizing i s with
  | zero => rfl
  | succ n ih => simp [State.skipCards, ih]

@[simp] theorem State.dropPendingLine_pending (s : State) : s.dropPendingLine.pending = s.pending :=
  by simp [State.dropPendingLine]
@[simp] theorem State.dropPendingLine_regs (s : State) : s.dropPendingLine.regs = s.regs :=
  by simp [State.dropPendingLine]
@[simp] theorem State.dropPendingLine_run (s : State) : s.dropPendingLine.run = s.run :=
  by simp [State.dropPendingLine]
@[simp] theorem State.dropPendingLine_rb (s : State) : s.dropPendingLine.rb = s.rb := by simp [State.dropPendingLine]
@[simp] theorem State.dropPendingLine_deck (s : State) : s.dropPendingLine.deck = s.deck :=
  by simp [State.dropPendingLine]
@[simp] theorem State.dropPendingLine_seq (s : State) : s.dropPendingLine.seq = s.seq :=
  by simp [State.dropPendingLine]
@[simp] theorem State.dropPendingLine_frame (s : State) : s.dropPendingLine.frame = s.frame :=
  by simp [State.dropPendingLine]
@[simp] theorem State.dropPendingLine_ring (s : State) : s.dropPendingLine.ring = s.ring :=
  by simp [State.dropPendingLine]
@[simp] theorem State.dropPendingLine_tables (s : State) : s.dropPendingLine.tables = s.tables :=
  by simp [State.dropPendingLine]
@[simp] theorem State.dropPendingLine_scan (s : State) : s.dropPendingLine.scan = s.scan :=
  by simp [State.dropPendingLine]
@[simp] theorem State.dropPendingLine_power (s : State) : s.dropPendingLine.power = s.power :=
  by simp [State.dropPendingLine]
@[simp] theorem State.dropPendingLine_film (s : State) : s.dropPendingLine.film = s.film :=
  by simp [State.dropPendingLine]
@[simp] theorem State.dropPendingLine_pins (s : State) : s.dropPendingLine.pins = s.pins :=
  by simp [State.dropPendingLine]
@[simp] theorem State.dropPendingLine_bus (s : State) : s.dropPendingLine.bus = s.bus :=
  by simp [State.dropPendingLine]
@[simp] theorem State.dropPendingLine_nextId (s : State) : s.dropPendingLine.nextId = s.nextId :=
  by simp [State.dropPendingLine]

@[simp] theorem State.closeCtx_pending (s : State) : s.closeCtx.pending = s.pending :=
  by unfold State.closeCtx; split <;> simp
@[simp] theorem State.closeCtx_regs (s : State) : s.closeCtx.regs = s.regs := by unfold State.closeCtx; split <;> simp
@[simp] theorem State.closeCtx_run (s : State) : s.closeCtx.run = s.run := by unfold State.closeCtx; split <;> simp
@[simp] theorem State.closeCtx_rb (s : State) : s.closeCtx.rb = s.rb := by unfold State.closeCtx; split <;> simp
@[simp] theorem State.closeCtx_deck (s : State) : s.closeCtx.deck = s.deck := by unfold State.closeCtx; split <;> simp
@[simp] theorem State.closeCtx_seq (s : State) : s.closeCtx.seq = s.seq := by unfold State.closeCtx; split <;> simp
@[simp] theorem State.closeCtx_tables (s : State) : s.closeCtx.tables = s.tables :=
  by unfold State.closeCtx; split <;> simp
@[simp] theorem State.closeCtx_scan (s : State) : s.closeCtx.scan = s.scan := by unfold State.closeCtx; split <;> simp
@[simp] theorem State.closeCtx_power (s : State) : s.closeCtx.power = s.power :=
  by unfold State.closeCtx; split <;> simp
@[simp] theorem State.closeCtx_film (s : State) : s.closeCtx.film = s.film := by unfold State.closeCtx; split <;> simp
@[simp] theorem State.closeCtx_pins (s : State) : s.closeCtx.pins = s.pins := by unfold State.closeCtx; split <;> simp

@[simp] theorem State.endCurrent_pending (s : State) : s.endCurrent.pending = s.pending :=
  by unfold State.endCurrent; split <;> simp
@[simp] theorem State.endCurrent_regs (s : State) : s.endCurrent.regs = s.regs :=
  by unfold State.endCurrent; split <;> simp
@[simp] theorem State.endCurrent_run (s : State) : s.endCurrent.run = s.run :=
  by unfold State.endCurrent; split <;> simp
@[simp] theorem State.endCurrent_rb (s : State) : s.endCurrent.rb = s.rb := by unfold State.endCurrent; split <;> simp
@[simp] theorem State.endCurrent_tables (s : State) : s.endCurrent.tables = s.tables :=
  by unfold State.endCurrent; split <;> simp
@[simp] theorem State.endCurrent_scan (s : State) : s.endCurrent.scan = s.scan :=
  by unfold State.endCurrent; split <;> simp
@[simp] theorem State.endCurrent_power (s : State) : s.endCurrent.power = s.power :=
  by unfold State.endCurrent; split <;> simp
@[simp] theorem State.endCurrent_film (s : State) : s.endCurrent.film = s.film :=
  by unfold State.endCurrent; split <;> simp
@[simp] theorem State.endCurrent_pins (s : State) : s.endCurrent.pins = s.pins :=
  by unfold State.endCurrent; split <;> simp

@[simp] theorem State.endResults_pending (s : State) : s.endResults.pending = s.pending :=
  by unfold State.endResults; split <;> simp
@[simp] theorem State.endResults_regs (s : State) : s.endResults.regs = s.regs :=
  by unfold State.endResults; split <;> simp
@[simp] theorem State.endResults_run (s : State) : s.endResults.run = s.run :=
  by unfold State.endResults; split <;> simp
@[simp] theorem State.endResults_rb (s : State) : s.endResults.rb = s.rb := by unfold State.endResults; split <;> simp
@[simp] theorem State.endResults_tables (s : State) : s.endResults.tables = s.tables :=
  by unfold State.endResults; split <;> simp
@[simp] theorem State.endResults_scan (s : State) : s.endResults.scan = s.scan :=
  by unfold State.endResults; split <;> simp
@[simp] theorem State.endResults_power (s : State) : s.endResults.power = s.power :=
  by unfold State.endResults; split <;> simp
@[simp] theorem State.endResults_film (s : State) : s.endResults.film = s.film :=
  by unfold State.endResults; split <;> simp
@[simp] theorem State.endResults_pins (s : State) : s.endResults.pins = s.pins :=
  by unfold State.endResults; split <;> simp

@[simp] theorem State.clearPending_pending (s : State) : s.clearPending.pending = s.pending :=
  by simp [State.clearPending]
@[simp] theorem State.clearPending_regs (s : State) : s.clearPending.regs = s.regs := by simp [State.clearPending]
@[simp] theorem State.clearPending_rb (s : State) : s.clearPending.rb = s.rb := by simp [State.clearPending]
@[simp] theorem State.clearPending_deck (s : State) : s.clearPending.deck = s.deck := by simp [State.clearPending]
@[simp] theorem State.clearPending_seq (s : State) : s.clearPending.seq = s.seq := by simp [State.clearPending]
@[simp] theorem State.clearPending_frame (s : State) : s.clearPending.frame = s.frame := by simp [State.clearPending]
@[simp] theorem State.clearPending_ring (s : State) : s.clearPending.ring = s.ring := by simp [State.clearPending]
@[simp] theorem State.clearPending_dp (s : State) : s.clearPending.dp = s.dp := by simp [State.clearPending]
@[simp] theorem State.clearPending_tables (s : State) : s.clearPending.tables = s.tables :=
  by simp [State.clearPending]
@[simp] theorem State.clearPending_scan (s : State) : s.clearPending.scan = s.scan := by simp [State.clearPending]
@[simp] theorem State.clearPending_pins (s : State) : s.clearPending.pins = s.pins := by simp [State.clearPending]
@[simp] theorem State.clearPending_bus (s : State) : s.clearPending.bus = s.bus := by simp [State.clearPending]
@[simp] theorem State.clearPending_nextId (s : State) : s.clearPending.nextId = s.nextId :=
  by simp [State.clearPending]

@[simp] theorem State.emptyRecords_pending (s : State) : s.emptyRecords.pending = s.pending :=
  by simp [State.emptyRecords]
@[simp] theorem State.emptyRecords_regs (s : State) : s.emptyRecords.regs = s.regs := by simp [State.emptyRecords]
@[simp] theorem State.emptyRecords_run (s : State) : s.emptyRecords.run = s.run := by simp [State.emptyRecords]
@[simp] theorem State.emptyRecords_rb (s : State) : s.emptyRecords.rb = s.rb := by simp [State.emptyRecords]
@[simp] theorem State.emptyRecords_deck (s : State) : s.emptyRecords.deck = s.deck := by simp [State.emptyRecords]
@[simp] theorem State.emptyRecords_frame (s : State) : s.emptyRecords.frame = s.frame := by simp [State.emptyRecords]
@[simp] theorem State.emptyRecords_ring (s : State) : s.emptyRecords.ring = s.ring := by simp [State.emptyRecords]
@[simp] theorem State.emptyRecords_dp (s : State) : s.emptyRecords.dp = s.dp := by simp [State.emptyRecords]
@[simp] theorem State.emptyRecords_tables (s : State) : s.emptyRecords.tables = s.tables :=
  by simp [State.emptyRecords]
@[simp] theorem State.emptyRecords_scan (s : State) : s.emptyRecords.scan = s.scan := by simp [State.emptyRecords]
@[simp] theorem State.emptyRecords_power (s : State) : s.emptyRecords.power = s.power := by simp [State.emptyRecords]
@[simp] theorem State.emptyRecords_film (s : State) : s.emptyRecords.film = s.film := by simp [State.emptyRecords]
@[simp] theorem State.emptyRecords_pins (s : State) : s.emptyRecords.pins = s.pins := by simp [State.emptyRecords]
@[simp] theorem State.emptyRecords_bus (s : State) : s.emptyRecords.bus = s.bus := by simp [State.emptyRecords]
@[simp] theorem State.emptyRecords_nextId (s : State) : s.emptyRecords.nextId = s.nextId :=
  by simp [State.emptyRecords]

@[simp] theorem State.toIdle_pending (s : State) : s.toIdle.pending = s.pending := by simp [State.toIdle]
@[simp] theorem State.toIdle_rb (s : State) : s.toIdle.rb = s.rb := by simp [State.toIdle]
@[simp] theorem State.toIdle_frame (s : State) : s.toIdle.frame = s.frame := by simp [State.toIdle]
@[simp] theorem State.toIdle_ring (s : State) : s.toIdle.ring = s.ring := by simp [State.toIdle]
@[simp] theorem State.toIdle_dp (s : State) : s.toIdle.dp = s.dp := by simp [State.toIdle]
@[simp] theorem State.toIdle_tables (s : State) : s.toIdle.tables = s.tables := by simp [State.toIdle]
@[simp] theorem State.toIdle_scan (s : State) : s.toIdle.scan = s.scan := by simp [State.toIdle]
@[simp] theorem State.toIdle_film (s : State) : s.toIdle.film = s.film := by simp [State.toIdle]
@[simp] theorem State.toIdle_pins (s : State) : s.toIdle.pins = s.pins := by simp [State.toIdle]
@[simp] theorem State.toIdle_nextId (s : State) : s.toIdle.nextId = s.nextId := by simp [State.toIdle]

@[simp] theorem State.enterEnding_pending (s : State) : s.enterEnding.pending = s.pending :=
  by simp [State.enterEnding]
@[simp] theorem State.enterEnding_regs (s : State) : s.enterEnding.regs = s.regs := by simp [State.enterEnding]
@[simp] theorem State.enterEnding_rb (s : State) : s.enterEnding.rb = s.rb := by simp [State.enterEnding]
@[simp] theorem State.enterEnding_seq (s : State) : s.enterEnding.seq = s.seq := by simp [State.enterEnding]
@[simp] theorem State.enterEnding_frame (s : State) : s.enterEnding.frame = s.frame := by simp [State.enterEnding]
@[simp] theorem State.enterEnding_ring (s : State) : s.enterEnding.ring = s.ring := by simp [State.enterEnding]
@[simp] theorem State.enterEnding_dp (s : State) : s.enterEnding.dp = s.dp := by simp [State.enterEnding]
@[simp] theorem State.enterEnding_tables (s : State) : s.enterEnding.tables = s.tables := by simp [State.enterEnding]
@[simp] theorem State.enterEnding_scan (s : State) : s.enterEnding.scan = s.scan := by simp [State.enterEnding]
@[simp] theorem State.enterEnding_film (s : State) : s.enterEnding.film = s.film := by simp [State.enterEnding]
@[simp] theorem State.enterEnding_pins (s : State) : s.enterEnding.pins = s.pins := by simp [State.enterEnding]
@[simp] theorem State.enterEnding_nextId (s : State) : s.enterEnding.nextId = s.nextId := by simp [State.enterEnding]

@[simp] theorem State.endRun_pending (s : State) : s.endRun.pending = s.pending := by simp [State.endRun]
@[simp] theorem State.endRun_rb (s : State) : s.endRun.rb = s.rb := by simp [State.endRun]
@[simp] theorem State.endRun_scan (s : State) : s.endRun.scan = s.scan := by simp [State.endRun]
@[simp] theorem State.endRun_pins (s : State) : s.endRun.pins = s.pins := by simp [State.endRun]

end Sys2Proof.Machine
end

