-- ==== Sys2Proof/Laws/Cards.lean ====
section
/-! SUPPORT. What the Card Sequencer's operations leave as it was: one lemma per operation and block of State. -/

namespace Sys2Proof.Machine

@[simp] theorem State.takeCourse_pending (s : State) (c : Course) (adv : State → State)
    (h : ∀ t : State, (adv t).pending = t.pending) : (s.takeCourse c adv).pending = s.pending := by
  cases c <;> simp [State.takeCourse, State.haltPowerLimit, h]
@[simp] theorem State.takeFrameCourse_pending (s : State) (c : FrameCourse) (adv : State → State)
    (h : ∀ t : State, (adv t).pending = t.pending) : (s.takeFrameCourse c adv).pending = s.pending := by
  cases c <;> simp [State.takeFrameCourse, State.haltPowerLimit, h]

@[simp] theorem State.takeCourse_rb (s : State) (c : Course) (adv : State → State)
    (h : ∀ t : State, (adv t).rb = t.rb) : (s.takeCourse c adv).rb = s.rb := by
  cases c <;> simp [State.takeCourse, State.haltPowerLimit, h]
@[simp] theorem State.takeFrameCourse_rb (s : State) (c : FrameCourse) (adv : State → State)
    (h : ∀ t : State, (adv t).rb = t.rb) : (s.takeFrameCourse c adv).rb = s.rb := by
  cases c <;> simp [State.takeFrameCourse, State.haltPowerLimit, h]

@[simp] theorem State.takeCourse_scan (s : State) (c : Course) (adv : State → State)
    (h : ∀ t : State, (adv t).scan = t.scan) : (s.takeCourse c adv).scan = s.scan := by
  cases c <;> simp [State.takeCourse, State.haltPowerLimit, h]
@[simp] theorem State.takeFrameCourse_scan (s : State) (c : FrameCourse) (adv : State → State)
    (h : ∀ t : State, (adv t).scan = t.scan) : (s.takeFrameCourse c adv).scan = s.scan := by
  cases c <;> simp [State.takeFrameCourse, State.haltPowerLimit, h]

@[simp] theorem State.takeCourse_pins (s : State) (c : Course) (adv : State → State)
    (h : ∀ t : State, (adv t).pins = t.pins) : (s.takeCourse c adv).pins = s.pins := by
  cases c <;> simp [State.takeCourse, State.haltPowerLimit, h]
@[simp] theorem State.takeFrameCourse_pins (s : State) (c : FrameCourse) (adv : State → State)
    (h : ∀ t : State, (adv t).pins = t.pins) : (s.takeFrameCourse c adv).pins = s.pins := by
  cases c <;> simp [State.takeFrameCourse, State.haltPowerLimit, h]

@[simp] theorem State.readBody_pending (s : State) (index : Nat) : (s.readBody index).pending = s.pending :=
  by simp [State.readBody]
@[simp] theorem State.readBody_regs (s : State) (index : Nat) : (s.readBody index).regs = s.regs :=
  by simp [State.readBody]
@[simp] theorem State.readBody_run (s : State) (index : Nat) : (s.readBody index).run = s.run :=
  by simp [State.readBody]
@[simp] theorem State.readBody_rb (s : State) (index : Nat) : (s.readBody index).rb = s.rb := by simp [State.readBody]
@[simp] theorem State.readBody_deck (s : State) (index : Nat) : (s.readBody index).deck = s.deck :=
  by simp [State.readBody]
@[simp] theorem State.readBody_seq (s : State) (index : Nat) : (s.readBody index).seq = s.seq :=
  by simp [State.readBody]
@[simp] theorem State.readBody_frame (s : State) (index : Nat) : (s.readBody index).frame = s.frame :=
  by simp [State.readBody]
@[simp] theorem State.readBody_ring (s : State) (index : Nat) : (s.readBody index).ring = s.ring :=
  by simp [State.readBody]
@[simp] theorem State.readBody_dp (s : State) (index : Nat) : (s.readBody index).dp = s.dp := by simp [State.readBody]
@[simp] theorem State.readBody_tables (s : State) (index : Nat) : (s.readBody index).tables = s.tables :=
  by simp [State.readBody]
@[simp] theorem State.readBody_scan (s : State) (index : Nat) : (s.readBody index).scan = s.scan :=
  by simp [State.readBody]
@[simp] theorem State.readBody_power (s : State) (index : Nat) : (s.readBody index).power = s.power :=
  by simp [State.readBody]
@[simp] theorem State.readBody_film (s : State) (index : Nat) : (s.readBody index).film = s.film :=
  by simp [State.readBody]
@[simp] theorem State.readBody_pins (s : State) (index : Nat) : (s.readBody index).pins = s.pins :=
  by simp [State.readBody]

@[simp] theorem State.readCurrent_pending (s : State) (index : Nat) : (s.readCurrent index).pending = s.pending :=
  by simp [State.readCurrent]
@[simp] theorem State.readCurrent_regs (s : State) (index : Nat) : (s.readCurrent index).regs = s.regs :=
  by simp [State.readCurrent]
@[simp] theorem State.readCurrent_run (s : State) (index : Nat) : (s.readCurrent index).run = s.run :=
  by simp [State.readCurrent]
@[simp] theorem State.readCurrent_rb (s : State) (index : Nat) : (s.readCurrent index).rb = s.rb :=
  by simp [State.readCurrent]
@[simp] theorem State.readCurrent_deck (s : State) (index : Nat) : (s.readCurrent index).deck = s.deck :=
  by simp [State.readCurrent]
@[simp] theorem State.readCurrent_frame (s : State) (index : Nat) : (s.readCurrent index).frame = s.frame :=
  by simp [State.readCurrent]
@[simp] theorem State.readCurrent_ring (s : State) (index : Nat) : (s.readCurrent index).ring = s.ring :=
  by simp [State.readCurrent]
@[simp] theorem State.readCurrent_dp (s : State) (index : Nat) : (s.readCurrent index).dp = s.dp :=
  by simp [State.readCurrent]
@[simp] theorem State.readCurrent_tables (s : State) (index : Nat) : (s.readCurrent index).tables = s.tables :=
  by simp [State.readCurrent]
@[simp] theorem State.readCurrent_scan (s : State) (index : Nat) : (s.readCurrent index).scan = s.scan :=
  by simp [State.readCurrent]
@[simp] theorem State.readCurrent_power (s : State) (index : Nat) : (s.readCurrent index).power = s.power :=
  by simp [State.readCurrent]
@[simp] theorem State.readCurrent_film (s : State) (index : Nat) : (s.readCurrent index).film = s.film :=
  by simp [State.readCurrent]
@[simp] theorem State.readCurrent_pins (s : State) (index : Nat) : (s.readCurrent index).pins = s.pins :=
  by simp [State.readCurrent]

@[simp] theorem State.rereadCurrent_pending (s : State) : s.rereadCurrent.pending = s.pending :=
  by simp [State.rereadCurrent]
@[simp] theorem State.rereadCurrent_regs (s : State) : s.rereadCurrent.regs = s.regs := by simp [State.rereadCurrent]
@[simp] theorem State.rereadCurrent_run (s : State) : s.rereadCurrent.run = s.run := by simp [State.rereadCurrent]
@[simp] theorem State.rereadCurrent_rb (s : State) : s.rereadCurrent.rb = s.rb := by simp [State.rereadCurrent]
@[simp] theorem State.rereadCurrent_deck (s : State) : s.rereadCurrent.deck = s.deck := by simp [State.rereadCurrent]
@[simp] theorem State.rereadCurrent_frame (s : State) : s.rereadCurrent.frame = s.frame :=
  by simp [State.rereadCurrent]
@[simp] theorem State.rereadCurrent_ring (s : State) : s.rereadCurrent.ring = s.ring := by simp [State.rereadCurrent]
@[simp] theorem State.rereadCurrent_dp (s : State) : s.rereadCurrent.dp = s.dp := by simp [State.rereadCurrent]
@[simp] theorem State.rereadCurrent_tables (s : State) : s.rereadCurrent.tables = s.tables :=
  by simp [State.rereadCurrent]
@[simp] theorem State.rereadCurrent_scan (s : State) : s.rereadCurrent.scan = s.scan := by simp [State.rereadCurrent]
@[simp] theorem State.rereadCurrent_power (s : State) : s.rereadCurrent.power = s.power :=
  by simp [State.rereadCurrent]
@[simp] theorem State.rereadCurrent_film (s : State) : s.rereadCurrent.film = s.film := by simp [State.rereadCurrent]
@[simp] theorem State.rereadCurrent_pins (s : State) : s.rereadCurrent.pins = s.pins := by simp [State.rereadCurrent]

@[simp] theorem State.readLookahead_pending (s : State) : s.readLookahead.pending = s.pending :=
  by unfold State.readLookahead; split <;> simp
@[simp] theorem State.readLookahead_regs (s : State) : s.readLookahead.regs = s.regs :=
  by unfold State.readLookahead; split <;> simp
@[simp] theorem State.readLookahead_run (s : State) : s.readLookahead.run = s.run :=
  by unfold State.readLookahead; split <;> simp
@[simp] theorem State.readLookahead_rb (s : State) : s.readLookahead.rb = s.rb :=
  by unfold State.readLookahead; split <;> simp
@[simp] theorem State.readLookahead_deck (s : State) : s.readLookahead.deck = s.deck :=
  by unfold State.readLookahead; split <;> simp
@[simp] theorem State.readLookahead_frame (s : State) : s.readLookahead.frame = s.frame :=
  by unfold State.readLookahead; split <;> simp
@[simp] theorem State.readLookahead_ring (s : State) : s.readLookahead.ring = s.ring :=
  by unfold State.readLookahead; split <;> simp
@[simp] theorem State.readLookahead_dp (s : State) : s.readLookahead.dp = s.dp :=
  by unfold State.readLookahead; split <;> simp
@[simp] theorem State.readLookahead_tables (s : State) : s.readLookahead.tables = s.tables :=
  by unfold State.readLookahead; split <;> simp
@[simp] theorem State.readLookahead_scan (s : State) : s.readLookahead.scan = s.scan :=
  by unfold State.readLookahead; split <;> simp
@[simp] theorem State.readLookahead_power (s : State) : s.readLookahead.power = s.power :=
  by unfold State.readLookahead; split <;> simp
@[simp] theorem State.readLookahead_film (s : State) : s.readLookahead.film = s.film :=
  by unfold State.readLookahead; split <;> simp
@[simp] theorem State.readLookahead_pins (s : State) : s.readLookahead.pins = s.pins :=
  by unfold State.readLookahead; split <;> simp

@[simp] theorem State.deckDone_pending (s : State) : s.deckDone.pending = s.pending := by simp [State.deckDone]
@[simp] theorem State.deckDone_run (s : State) : s.deckDone.run = s.run := by simp [State.deckDone]
@[simp] theorem State.deckDone_rb (s : State) : s.deckDone.rb = s.rb := by simp [State.deckDone]
@[simp] theorem State.deckDone_frame (s : State) : s.deckDone.frame = s.frame := by simp [State.deckDone]
@[simp] theorem State.deckDone_ring (s : State) : s.deckDone.ring = s.ring := by simp [State.deckDone]
@[simp] theorem State.deckDone_dp (s : State) : s.deckDone.dp = s.dp := by simp [State.deckDone]
@[simp] theorem State.deckDone_tables (s : State) : s.deckDone.tables = s.tables := by simp [State.deckDone]
@[simp] theorem State.deckDone_scan (s : State) : s.deckDone.scan = s.scan := by simp [State.deckDone]
@[simp] theorem State.deckDone_power (s : State) : s.deckDone.power = s.power := by simp [State.deckDone]
@[simp] theorem State.deckDone_film (s : State) : s.deckDone.film = s.film := by simp [State.deckDone]
@[simp] theorem State.deckDone_pins (s : State) : s.deckDone.pins = s.pins := by simp [State.deckDone]

@[simp] theorem State.advanceRecord_pending (s : State) : s.advanceRecord.pending = s.pending :=
  by unfold State.advanceRecord; (repeat' split) <;> simp
@[simp] theorem State.advanceRecord_run (s : State) : s.advanceRecord.run = s.run :=
  by unfold State.advanceRecord; (repeat' split) <;> simp
@[simp] theorem State.advanceRecord_rb (s : State) : s.advanceRecord.rb = s.rb :=
  by unfold State.advanceRecord; (repeat' split) <;> simp
@[simp] theorem State.advanceRecord_frame (s : State) : s.advanceRecord.frame = s.frame :=
  by unfold State.advanceRecord; (repeat' split) <;> simp
@[simp] theorem State.advanceRecord_ring (s : State) : s.advanceRecord.ring = s.ring :=
  by unfold State.advanceRecord; (repeat' split) <;> simp
@[simp] theorem State.advanceRecord_dp (s : State) : s.advanceRecord.dp = s.dp :=
  by unfold State.advanceRecord; (repeat' split) <;> simp
@[simp] theorem State.advanceRecord_tables (s : State) : s.advanceRecord.tables = s.tables :=
  by unfold State.advanceRecord; (repeat' split) <;> simp
@[simp] theorem State.advanceRecord_scan (s : State) : s.advanceRecord.scan = s.scan :=
  by unfold State.advanceRecord; (repeat' split) <;> simp
@[simp] theorem State.advanceRecord_power (s : State) : s.advanceRecord.power = s.power :=
  by unfold State.advanceRecord; (repeat' split) <;> simp
@[simp] theorem State.advanceRecord_film (s : State) : s.advanceRecord.film = s.film :=
  by unfold State.advanceRecord; (repeat' split) <;> simp
@[simp] theorem State.advanceRecord_pins (s : State) : s.advanceRecord.pins = s.pins :=
  by unfold State.advanceRecord; (repeat' split) <;> simp

@[simp] theorem State.haltPowerLimit_pending (s : State) : s.haltPowerLimit.pending = s.pending :=
  by simp [State.haltPowerLimit]
@[simp] theorem State.haltPowerLimit_rb (s : State) : s.haltPowerLimit.rb = s.rb := by simp [State.haltPowerLimit]
@[simp] theorem State.haltPowerLimit_seq (s : State) : s.haltPowerLimit.seq = s.seq := by simp [State.haltPowerLimit]
@[simp] theorem State.haltPowerLimit_frame (s : State) : s.haltPowerLimit.frame = s.frame :=
  by simp [State.haltPowerLimit]
@[simp] theorem State.haltPowerLimit_ring (s : State) : s.haltPowerLimit.ring = s.ring :=
  by simp [State.haltPowerLimit]
@[simp] theorem State.haltPowerLimit_dp (s : State) : s.haltPowerLimit.dp = s.dp := by simp [State.haltPowerLimit]
@[simp] theorem State.haltPowerLimit_tables (s : State) : s.haltPowerLimit.tables = s.tables :=
  by simp [State.haltPowerLimit]
@[simp] theorem State.haltPowerLimit_scan (s : State) : s.haltPowerLimit.scan = s.scan :=
  by simp [State.haltPowerLimit]
@[simp] theorem State.haltPowerLimit_film (s : State) : s.haltPowerLimit.film = s.film :=
  by simp [State.haltPowerLimit]
@[simp] theorem State.haltPowerLimit_pins (s : State) : s.haltPowerLimit.pins = s.pins :=
  by simp [State.haltPowerLimit]
@[simp] theorem State.haltPowerLimit_nextId (s : State) : s.haltPowerLimit.nextId = s.nextId :=
  by simp [State.haltPowerLimit]

@[simp] theorem State.refuseInvalid_pending (s : State) (why : Reason) (field : Nat) (b : CardBody) : (s.refuseInvalid why field b).pending = s.pending :=
  by simp [State.refuseInvalid]
@[simp] theorem State.refuseInvalid_rb (s : State) (why : Reason) (field : Nat) (b : CardBody) : (s.refuseInvalid why field b).rb = s.rb :=
  by simp [State.refuseInvalid]
@[simp] theorem State.refuseInvalid_frame (s : State) (why : Reason) (field : Nat) (b : CardBody) : (s.refuseInvalid why field b).frame = s.frame :=
  by simp [State.refuseInvalid]
@[simp] theorem State.refuseInvalid_ring (s : State) (why : Reason) (field : Nat) (b : CardBody) : (s.refuseInvalid why field b).ring = s.ring :=
  by simp [State.refuseInvalid]
@[simp] theorem State.refuseInvalid_dp (s : State) (why : Reason) (field : Nat) (b : CardBody) : (s.refuseInvalid why field b).dp = s.dp :=
  by simp [State.refuseInvalid]
@[simp] theorem State.refuseInvalid_tables (s : State) (why : Reason) (field : Nat) (b : CardBody) : (s.refuseInvalid why field b).tables = s.tables :=
  by simp [State.refuseInvalid]
@[simp] theorem State.refuseInvalid_scan (s : State) (why : Reason) (field : Nat) (b : CardBody) : (s.refuseInvalid why field b).scan = s.scan :=
  by simp [State.refuseInvalid]
@[simp] theorem State.refuseInvalid_film (s : State) (why : Reason) (field : Nat) (b : CardBody) : (s.refuseInvalid why field b).film = s.film :=
  by simp [State.refuseInvalid]
@[simp] theorem State.refuseInvalid_pins (s : State) (why : Reason) (field : Nat) (b : CardBody) : (s.refuseInvalid why field b).pins = s.pins :=
  by simp [State.refuseInvalid]
@[simp] theorem State.refuseInvalid_nextId (s : State) (why : Reason) (field : Nat) (b : CardBody) : (s.refuseInvalid why field b).nextId = s.nextId :=
  by simp [State.refuseInvalid]

@[simp] theorem State.dispatchFrame_pending (s : State) (c : FrameCard) : (s.dispatchFrame c).pending = s.pending :=
  by simp [State.dispatchFrame]
@[simp] theorem State.dispatchFrame_rb (s : State) (c : FrameCard) : (s.dispatchFrame c).rb = s.rb :=
  by simp [State.dispatchFrame]
@[simp] theorem State.dispatchFrame_scan (s : State) (c : FrameCard) : (s.dispatchFrame c).scan = s.scan :=
  by simp [State.dispatchFrame]
@[simp] theorem State.dispatchFrame_film (s : State) (c : FrameCard) : (s.dispatchFrame c).film = s.film :=
  by simp [State.dispatchFrame]
@[simp] theorem State.dispatchFrame_pins (s : State) (c : FrameCard) : (s.dispatchFrame c).pins = s.pins :=
  by simp [State.dispatchFrame]

@[simp] theorem State.dispatchLeader_pending (s : State) (count : Nat) (noEdge : Bool) : (s.dispatchLeader count noEdge).pending = s.pending :=
  by simp [State.dispatchLeader]
@[simp] theorem State.dispatchLeader_rb (s : State) (count : Nat) (noEdge : Bool) : (s.dispatchLeader count noEdge).rb = s.rb :=
  by simp [State.dispatchLeader]
@[simp] theorem State.dispatchLeader_seq (s : State) (count : Nat) (noEdge : Bool) : (s.dispatchLeader count noEdge).seq = s.seq :=
  by simp [State.dispatchLeader]
@[simp] theorem State.dispatchLeader_frame (s : State) (count : Nat) (noEdge : Bool) : (s.dispatchLeader count noEdge).frame = s.frame :=
  by simp [State.dispatchLeader]
@[simp] theorem State.dispatchLeader_ring (s : State) (count : Nat) (noEdge : Bool) : (s.dispatchLeader count noEdge).ring = s.ring :=
  by simp [State.dispatchLeader]
@[simp] theorem State.dispatchLeader_dp (s : State) (count : Nat) (noEdge : Bool) : (s.dispatchLeader count noEdge).dp = s.dp :=
  by simp [State.dispatchLeader]
@[simp] theorem State.dispatchLeader_tables (s : State) (count : Nat) (noEdge : Bool) : (s.dispatchLeader count noEdge).tables = s.tables :=
  by simp [State.dispatchLeader]
@[simp] theorem State.dispatchLeader_scan (s : State) (count : Nat) (noEdge : Bool) : (s.dispatchLeader count noEdge).scan = s.scan :=
  by simp [State.dispatchLeader]
@[simp] theorem State.dispatchLeader_pins (s : State) (count : Nat) (noEdge : Bool) : (s.dispatchLeader count noEdge).pins = s.pins :=
  by simp [State.dispatchLeader]
@[simp] theorem State.dispatchLeader_nextId (s : State) (count : Nat) (noEdge : Bool) : (s.dispatchLeader count noEdge).nextId = s.nextId :=
  by simp [State.dispatchLeader]

@[simp] theorem State.dispatchTable_pending (s : State) (target : Nat) (source : Addr) (sum : Nat) : (s.dispatchTable target source sum).pending = s.pending :=
  by unfold State.dispatchTable; split <;> simp
@[simp] theorem State.dispatchTable_regs (s : State) (target : Nat) (source : Addr) (sum : Nat) : (s.dispatchTable target source sum).regs = s.regs :=
  by unfold State.dispatchTable; split <;> simp
@[simp] theorem State.dispatchTable_run (s : State) (target : Nat) (source : Addr) (sum : Nat) : (s.dispatchTable target source sum).run = s.run :=
  by unfold State.dispatchTable; split <;> simp
@[simp] theorem State.dispatchTable_rb (s : State) (target : Nat) (source : Addr) (sum : Nat) : (s.dispatchTable target source sum).rb = s.rb :=
  by unfold State.dispatchTable; split <;> simp
@[simp] theorem State.dispatchTable_deck (s : State) (target : Nat) (source : Addr) (sum : Nat) : (s.dispatchTable target source sum).deck = s.deck :=
  by unfold State.dispatchTable; split <;> simp
@[simp] theorem State.dispatchTable_seq (s : State) (target : Nat) (source : Addr) (sum : Nat) : (s.dispatchTable target source sum).seq = s.seq :=
  by unfold State.dispatchTable; split <;> simp
@[simp] theorem State.dispatchTable_frame (s : State) (target : Nat) (source : Addr) (sum : Nat) : (s.dispatchTable target source sum).frame = s.frame :=
  by unfold State.dispatchTable; split <;> simp
@[simp] theorem State.dispatchTable_ring (s : State) (target : Nat) (source : Addr) (sum : Nat) : (s.dispatchTable target source sum).ring = s.ring :=
  by unfold State.dispatchTable; split <;> simp
@[simp] theorem State.dispatchTable_dp (s : State) (target : Nat) (source : Addr) (sum : Nat) : (s.dispatchTable target source sum).dp = s.dp :=
  by unfold State.dispatchTable; split <;> simp
@[simp] theorem State.dispatchTable_scan (s : State) (target : Nat) (source : Addr) (sum : Nat) : (s.dispatchTable target source sum).scan = s.scan :=
  by unfold State.dispatchTable; split <;> simp
@[simp] theorem State.dispatchTable_power (s : State) (target : Nat) (source : Addr) (sum : Nat) : (s.dispatchTable target source sum).power = s.power :=
  by unfold State.dispatchTable; split <;> simp
@[simp] theorem State.dispatchTable_film (s : State) (target : Nat) (source : Addr) (sum : Nat) : (s.dispatchTable target source sum).film = s.film :=
  by unfold State.dispatchTable; split <;> simp
@[simp] theorem State.dispatchTable_pins (s : State) (target : Nat) (source : Addr) (sum : Nat) : (s.dispatchTable target source sum).pins = s.pins :=
  by unfold State.dispatchTable; split <;> simp

@[simp] theorem State.dispatchDump_pending (s : State) (target : Nat) (dest : Addr) : (s.dispatchDump target dest).pending = s.pending :=
  by unfold State.dispatchDump; (repeat' split) <;> simp
@[simp] theorem State.dispatchDump_rb (s : State) (target : Nat) (dest : Addr) : (s.dispatchDump target dest).rb = s.rb :=
  by unfold State.dispatchDump; (repeat' split) <;> simp
@[simp] theorem State.dispatchDump_scan (s : State) (target : Nat) (dest : Addr) : (s.dispatchDump target dest).scan = s.scan :=
  by unfold State.dispatchDump; (repeat' split) <;> simp
@[simp] theorem State.dispatchDump_pins (s : State) (target : Nat) (dest : Addr) : (s.dispatchDump target dest).pins = s.pins :=
  by unfold State.dispatchDump; (repeat' split) <;> simp

@[simp] theorem State.dispatchCalibrate_pending (s : State) : s.dispatchCalibrate.pending = s.pending :=
  by unfold State.dispatchCalibrate; simp only []; (repeat' split) <;> simp_all []
@[simp] theorem State.dispatchCalibrate_rb (s : State) : s.dispatchCalibrate.rb = s.rb :=
  by unfold State.dispatchCalibrate; simp only []; (repeat' split) <;> simp_all []
@[simp] theorem State.dispatchCalibrate_frame (s : State) : s.dispatchCalibrate.frame = s.frame :=
  by unfold State.dispatchCalibrate; simp only []; (repeat' split) <;> simp_all []
@[simp] theorem State.dispatchCalibrate_ring (s : State) : s.dispatchCalibrate.ring = s.ring :=
  by unfold State.dispatchCalibrate; simp only []; (repeat' split) <;> simp_all []
@[simp] theorem State.dispatchCalibrate_dp (s : State) : s.dispatchCalibrate.dp = s.dp :=
  by unfold State.dispatchCalibrate; simp only []; (repeat' split) <;> simp_all []
@[simp] theorem State.dispatchCalibrate_scan (s : State) : s.dispatchCalibrate.scan = s.scan :=
  by unfold State.dispatchCalibrate; simp only []; (repeat' split) <;> simp_all []
@[simp] theorem State.dispatchCalibrate_film (s : State) : s.dispatchCalibrate.film = s.film :=
  by unfold State.dispatchCalibrate; simp only []; (repeat' split) <;> simp_all []
@[simp] theorem State.dispatchCalibrate_pins (s : State) : s.dispatchCalibrate.pins = s.pins :=
  by unfold State.dispatchCalibrate; simp only []; (repeat' split) <;> simp_all []
@[simp] theorem State.dispatchCalibrate_nextId (s : State) : s.dispatchCalibrate.nextId = s.nextId :=
  by unfold State.dispatchCalibrate; simp only []; (repeat' split) <;> simp_all []

@[simp] theorem State.dispatchHold_pending (s : State) : s.dispatchHold.pending = s.pending :=
  by simp [State.dispatchHold]
@[simp] theorem State.dispatchHold_rb (s : State) : s.dispatchHold.rb = s.rb := by simp [State.dispatchHold]
@[simp] theorem State.dispatchHold_frame (s : State) : s.dispatchHold.frame = s.frame := by simp [State.dispatchHold]
@[simp] theorem State.dispatchHold_ring (s : State) : s.dispatchHold.ring = s.ring := by simp [State.dispatchHold]
@[simp] theorem State.dispatchHold_dp (s : State) : s.dispatchHold.dp = s.dp := by simp [State.dispatchHold]
@[simp] theorem State.dispatchHold_tables (s : State) : s.dispatchHold.tables = s.tables :=
  by simp [State.dispatchHold]
@[simp] theorem State.dispatchHold_scan (s : State) : s.dispatchHold.scan = s.scan := by simp [State.dispatchHold]
@[simp] theorem State.dispatchHold_film (s : State) : s.dispatchHold.film = s.film := by simp [State.dispatchHold]
@[simp] theorem State.dispatchHold_pins (s : State) : s.dispatchHold.pins = s.pins := by simp [State.dispatchHold]
@[simp] theorem State.dispatchHold_nextId (s : State) : s.dispatchHold.nextId = s.nextId :=
  by simp [State.dispatchHold]

@[simp] theorem State.dispatchEnd_pending (s : State) : s.dispatchEnd.pending = s.pending :=
  by simp [State.dispatchEnd]
@[simp] theorem State.dispatchEnd_rb (s : State) : s.dispatchEnd.rb = s.rb := by simp [State.dispatchEnd]
@[simp] theorem State.dispatchEnd_scan (s : State) : s.dispatchEnd.scan = s.scan := by simp [State.dispatchEnd]
@[simp] theorem State.dispatchEnd_pins (s : State) : s.dispatchEnd.pins = s.pins := by simp [State.dispatchEnd]

@[simp] theorem State.dispatchBody_pending (s : State) (b : CardBody) : (s.dispatchBody b).pending = s.pending :=
  by unfold State.dispatchBody; split <;> simp
@[simp] theorem State.dispatchBody_rb (s : State) (b : CardBody) : (s.dispatchBody b).rb = s.rb :=
  by unfold State.dispatchBody; split <;> simp
@[simp] theorem State.dispatchBody_scan (s : State) (b : CardBody) : (s.dispatchBody b).scan = s.scan :=
  by unfold State.dispatchBody; split <;> simp
@[simp] theorem State.dispatchBody_pins (s : State) (b : CardBody) : (s.dispatchBody b).pins = s.pins :=
  by unfold State.dispatchBody; split <;> simp

@[simp] theorem State.actOnCard_pending (s : State) : s.actOnCard.pending = s.pending :=
  by unfold State.actOnCard; split <;> simp
@[simp] theorem State.actOnCard_rb (s : State) : s.actOnCard.rb = s.rb := by unfold State.actOnCard; split <;> simp
@[simp] theorem State.actOnCard_scan (s : State) : s.actOnCard.scan = s.scan :=
  by unfold State.actOnCard; split <;> simp
@[simp] theorem State.actOnCard_pins (s : State) : s.actOnCard.pins = s.pins :=
  by unfold State.actOnCard; split <;> simp

@[simp] theorem State.becomeCurrent_pending (s : State) : s.becomeCurrent.pending = s.pending :=
  by simp [State.becomeCurrent]
@[simp] theorem State.becomeCurrent_rb (s : State) : s.becomeCurrent.rb = s.rb := by simp [State.becomeCurrent]
@[simp] theorem State.becomeCurrent_scan (s : State) : s.becomeCurrent.scan = s.scan := by simp [State.becomeCurrent]
@[simp] theorem State.becomeCurrent_pins (s : State) : s.becomeCurrent.pins = s.pins := by simp [State.becomeCurrent]

@[simp] theorem State.takeUp_pending (s : State) : s.takeUp.pending = s.pending :=
  by unfold State.takeUp; split <;> simp
@[simp] theorem State.takeUp_rb (s : State) : s.takeUp.rb = s.rb := by unfold State.takeUp; split <;> simp
@[simp] theorem State.takeUp_scan (s : State) : s.takeUp.scan = s.scan := by unfold State.takeUp; split <;> simp
@[simp] theorem State.takeUp_pins (s : State) : s.takeUp.pins = s.pins := by unfold State.takeUp; split <;> simp

@[simp] theorem State.advance_pending (s : State) : s.advance.pending = s.pending := by simp [State.advance]
@[simp] theorem State.advance_rb (s : State) : s.advance.rb = s.rb := by simp [State.advance]
@[simp] theorem State.advance_scan (s : State) : s.advance.scan = s.scan := by simp [State.advance]
@[simp] theorem State.advance_pins (s : State) : s.advance.pins = s.pins := by simp [State.advance]

@[simp] theorem State.actAnew_pending (s : State) : s.actAnew.pending = s.pending := by simp [State.actAnew]
@[simp] theorem State.actAnew_rb (s : State) : s.actAnew.rb = s.rb := by simp [State.actAnew]
@[simp] theorem State.actAnew_scan (s : State) : s.actAnew.scan = s.scan := by simp [State.actAnew]
@[simp] theorem State.actAnew_pins (s : State) : s.actAnew.pins = s.pins := by simp [State.actAnew]

@[simp] theorem State.finishFrame_pending (s : State) (c : FrameCtx) (o : ResultOutcome) : (s.finishFrame c o).pending = s.pending :=
  by simp [State.finishFrame]
@[simp] theorem State.finishFrame_rb (s : State) (c : FrameCtx) (o : ResultOutcome) : (s.finishFrame c o).rb = s.rb :=
  by simp [State.finishFrame]
@[simp] theorem State.finishFrame_scan (s : State) (c : FrameCtx) (o : ResultOutcome) : (s.finishFrame c o).scan = s.scan :=
  by simp [State.finishFrame]
@[simp] theorem State.finishFrame_pins (s : State) (c : FrameCtx) (o : ResultOutcome) : (s.finishFrame c o).pins = s.pins :=
  by simp [State.finishFrame]

@[simp] theorem State.finishLeader_pending (s : State) (l : LeaderCard) : (s.finishLeader l).pending = s.pending :=
  by simp [State.finishLeader]
@[simp] theorem State.finishLeader_rb (s : State) (l : LeaderCard) : (s.finishLeader l).rb = s.rb :=
  by simp [State.finishLeader]
@[simp] theorem State.finishLeader_scan (s : State) (l : LeaderCard) : (s.finishLeader l).scan = s.scan :=
  by simp [State.finishLeader]
@[simp] theorem State.finishLeader_pins (s : State) (l : LeaderCard) : (s.finishLeader l).pins = s.pins :=
  by simp [State.finishLeader]

@[simp] theorem State.finishLoad_pending (s : State) (l : Load) : (s.finishLoad l).pending = s.pending :=
  by simp [State.finishLoad]
@[simp] theorem State.finishLoad_rb (s : State) (l : Load) : (s.finishLoad l).rb = s.rb := by simp [State.finishLoad]
@[simp] theorem State.finishLoad_scan (s : State) (l : Load) : (s.finishLoad l).scan = s.scan :=
  by simp [State.finishLoad]
@[simp] theorem State.finishLoad_pins (s : State) (l : Load) : (s.finishLoad l).pins = s.pins :=
  by simp [State.finishLoad]

@[simp] theorem State.finishDump_pending (s : State) (d : Dump) : (s.finishDump d).pending = s.pending :=
  by simp [State.finishDump]
@[simp] theorem State.finishDump_rb (s : State) (d : Dump) : (s.finishDump d).rb = s.rb := by simp [State.finishDump]
@[simp] theorem State.finishDump_scan (s : State) (d : Dump) : (s.finishDump d).scan = s.scan :=
  by simp [State.finishDump]
@[simp] theorem State.finishDump_pins (s : State) (d : Dump) : (s.finishDump d).pins = s.pins :=
  by simp [State.finishDump]

@[simp] theorem State.dumpOn_pending (s : State) : s.dumpOn.pending = s.pending :=
  by unfold State.dumpOn; (repeat' split) <;> simp
@[simp] theorem State.dumpOn_rb (s : State) : s.dumpOn.rb = s.rb := by unfold State.dumpOn; (repeat' split) <;> simp
@[simp] theorem State.dumpOn_scan (s : State) : s.dumpOn.scan = s.scan :=
  by unfold State.dumpOn; (repeat' split) <;> simp
@[simp] theorem State.dumpOn_pins (s : State) : s.dumpOn.pins = s.pins :=
  by unfold State.dumpOn; (repeat' split) <;> simp

@[simp] theorem State.finishCalibrate_pending (s : State) : s.finishCalibrate.pending = s.pending :=
  by simp [State.finishCalibrate]
@[simp] theorem State.finishCalibrate_rb (s : State) : s.finishCalibrate.rb = s.rb := by simp [State.finishCalibrate]
@[simp] theorem State.finishCalibrate_scan (s : State) : s.finishCalibrate.scan = s.scan :=
  by simp [State.finishCalibrate]
@[simp] theorem State.finishCalibrate_pins (s : State) : s.finishCalibrate.pins = s.pins :=
  by simp [State.finishCalibrate]

end Sys2Proof.Machine
end

