-- ==== Sys2Proof/Laws/Priming.lean ====
section
/-! SUPPORT. What priming and the take of a deck leave as it was: one lemma per operation and block of State. -/

namespace Sys2Proof.Machine

@[simp] theorem State.primingStage7_pending (s : State) : s.primingStage7.pending = s.pending :=
  by simp [State.primingStage7]
@[simp] theorem State.primingStage7_regs (s : State) : s.primingStage7.regs = s.regs := by simp [State.primingStage7]
@[simp] theorem State.primingStage7_rb (s : State) : s.primingStage7.rb = s.rb := by simp [State.primingStage7]
@[simp] theorem State.primingStage7_seq (s : State) : s.primingStage7.seq = s.seq := by simp [State.primingStage7]
@[simp] theorem State.primingStage7_frame (s : State) : s.primingStage7.frame = s.frame :=
  by simp [State.primingStage7]
@[simp] theorem State.primingStage7_ring (s : State) : s.primingStage7.ring = s.ring := by simp [State.primingStage7]
@[simp] theorem State.primingStage7_dp (s : State) : s.primingStage7.dp = s.dp := by simp [State.primingStage7]
@[simp] theorem State.primingStage7_tables (s : State) : s.primingStage7.tables = s.tables :=
  by simp [State.primingStage7]
@[simp] theorem State.primingStage7_scan (s : State) : s.primingStage7.scan = s.scan := by simp [State.primingStage7]
@[simp] theorem State.primingStage7_power (s : State) : s.primingStage7.power = s.power :=
  by simp [State.primingStage7]
@[simp] theorem State.primingStage7_film (s : State) : s.primingStage7.film = s.film := by simp [State.primingStage7]
@[simp] theorem State.primingStage7_pins (s : State) : s.primingStage7.pins = s.pins := by simp [State.primingStage7]

@[simp] theorem State.primingStage6_pending (s : State) : s.primingStage6.pending = s.pending :=
  by unfold State.primingStage6; split <;> simp
@[simp] theorem State.primingStage6_regs (s : State) : s.primingStage6.regs = s.regs :=
  by unfold State.primingStage6; split <;> simp
@[simp] theorem State.primingStage6_rb (s : State) : s.primingStage6.rb = s.rb :=
  by unfold State.primingStage6; split <;> simp
@[simp] theorem State.primingStage6_seq (s : State) : s.primingStage6.seq = s.seq :=
  by unfold State.primingStage6; split <;> simp
@[simp] theorem State.primingStage6_frame (s : State) : s.primingStage6.frame = s.frame :=
  by unfold State.primingStage6; split <;> simp
@[simp] theorem State.primingStage6_ring (s : State) : s.primingStage6.ring = s.ring :=
  by unfold State.primingStage6; split <;> simp
@[simp] theorem State.primingStage6_dp (s : State) : s.primingStage6.dp = s.dp :=
  by unfold State.primingStage6; split <;> simp
@[simp] theorem State.primingStage6_tables (s : State) : s.primingStage6.tables = s.tables :=
  by unfold State.primingStage6; split <;> simp
@[simp] theorem State.primingStage6_scan (s : State) : s.primingStage6.scan = s.scan :=
  by unfold State.primingStage6; split <;> simp
@[simp] theorem State.primingStage6_film (s : State) : s.primingStage6.film = s.film :=
  by unfold State.primingStage6; split <;> simp
@[simp] theorem State.primingStage6_pins (s : State) : s.primingStage6.pins = s.pins :=
  by unfold State.primingStage6; split <;> simp

@[simp] theorem State.primingStage5_pending (s : State) : s.primingStage5.pending = s.pending :=
  by simp [State.primingStage5]
@[simp] theorem State.primingStage5_regs (s : State) : s.primingStage5.regs = s.regs := by simp [State.primingStage5]
@[simp] theorem State.primingStage5_rb (s : State) : s.primingStage5.rb = s.rb := by simp [State.primingStage5]
@[simp] theorem State.primingStage5_deck (s : State) : s.primingStage5.deck = s.deck := by simp [State.primingStage5]
@[simp] theorem State.primingStage5_seq (s : State) : s.primingStage5.seq = s.seq := by simp [State.primingStage5]
@[simp] theorem State.primingStage5_frame (s : State) : s.primingStage5.frame = s.frame :=
  by simp [State.primingStage5]
@[simp] theorem State.primingStage5_ring (s : State) : s.primingStage5.ring = s.ring := by simp [State.primingStage5]
@[simp] theorem State.primingStage5_dp (s : State) : s.primingStage5.dp = s.dp := by simp [State.primingStage5]
@[simp] theorem State.primingStage5_tables (s : State) : s.primingStage5.tables = s.tables :=
  by simp [State.primingStage5]
@[simp] theorem State.primingStage5_scan (s : State) : s.primingStage5.scan = s.scan := by simp [State.primingStage5]
@[simp] theorem State.primingStage5_power (s : State) : s.primingStage5.power = s.power :=
  by simp [State.primingStage5]
@[simp] theorem State.primingStage5_film (s : State) : s.primingStage5.film = s.film := by simp [State.primingStage5]
@[simp] theorem State.primingStage5_pins (s : State) : s.primingStage5.pins = s.pins := by simp [State.primingStage5]
@[simp] theorem State.primingStage5_bus (s : State) : s.primingStage5.bus = s.bus := by simp [State.primingStage5]
@[simp] theorem State.primingStage5_nextId (s : State) : s.primingStage5.nextId = s.nextId :=
  by simp [State.primingStage5]

@[simp] theorem State.primingLocked_pending (s : State) : s.primingLocked.pending = s.pending :=
  by unfold State.primingLocked; (repeat' split) <;> simp
@[simp] theorem State.primingLocked_regs (s : State) : s.primingLocked.regs = s.regs :=
  by unfold State.primingLocked; (repeat' split) <;> simp
@[simp] theorem State.primingLocked_rb (s : State) : s.primingLocked.rb = s.rb :=
  by unfold State.primingLocked; (repeat' split) <;> simp
@[simp] theorem State.primingLocked_seq (s : State) : s.primingLocked.seq = s.seq :=
  by unfold State.primingLocked; (repeat' split) <;> simp
@[simp] theorem State.primingLocked_frame (s : State) : s.primingLocked.frame = s.frame :=
  by unfold State.primingLocked; (repeat' split) <;> simp
@[simp] theorem State.primingLocked_ring (s : State) : s.primingLocked.ring = s.ring :=
  by unfold State.primingLocked; (repeat' split) <;> simp
@[simp] theorem State.primingLocked_dp (s : State) : s.primingLocked.dp = s.dp :=
  by unfold State.primingLocked; (repeat' split) <;> simp
@[simp] theorem State.primingLocked_tables (s : State) : s.primingLocked.tables = s.tables :=
  by unfold State.primingLocked; (repeat' split) <;> simp
@[simp] theorem State.primingLocked_scan (s : State) : s.primingLocked.scan = s.scan :=
  by unfold State.primingLocked; (repeat' split) <;> simp
@[simp] theorem State.primingLocked_film (s : State) : s.primingLocked.film = s.film :=
  by unfold State.primingLocked; (repeat' split) <;> simp
@[simp] theorem State.primingLocked_pins (s : State) : s.primingLocked.pins = s.pins :=
  by unfold State.primingLocked; (repeat' split) <;> simp

@[simp] theorem State.resumePriming_pending (s : State) (stage : Nat) : (s.resumePriming stage).pending = s.pending :=
  by unfold State.resumePriming; (repeat' split) <;> simp
@[simp] theorem State.resumePriming_regs (s : State) (stage : Nat) : (s.resumePriming stage).regs = s.regs :=
  by unfold State.resumePriming; (repeat' split) <;> simp
@[simp] theorem State.resumePriming_rb (s : State) (stage : Nat) : (s.resumePriming stage).rb = s.rb :=
  by unfold State.resumePriming; (repeat' split) <;> simp
@[simp] theorem State.resumePriming_seq (s : State) (stage : Nat) : (s.resumePriming stage).seq = s.seq :=
  by unfold State.resumePriming; (repeat' split) <;> simp
@[simp] theorem State.resumePriming_frame (s : State) (stage : Nat) : (s.resumePriming stage).frame = s.frame :=
  by unfold State.resumePriming; (repeat' split) <;> simp
@[simp] theorem State.resumePriming_ring (s : State) (stage : Nat) : (s.resumePriming stage).ring = s.ring :=
  by unfold State.resumePriming; (repeat' split) <;> simp
@[simp] theorem State.resumePriming_dp (s : State) (stage : Nat) : (s.resumePriming stage).dp = s.dp :=
  by unfold State.resumePriming; (repeat' split) <;> simp
@[simp] theorem State.resumePriming_tables (s : State) (stage : Nat) : (s.resumePriming stage).tables = s.tables :=
  by unfold State.resumePriming; (repeat' split) <;> simp
@[simp] theorem State.resumePriming_scan (s : State) (stage : Nat) : (s.resumePriming stage).scan = s.scan :=
  by unfold State.resumePriming; (repeat' split) <;> simp
@[simp] theorem State.resumePriming_film (s : State) (stage : Nat) : (s.resumePriming stage).film = s.film :=
  by unfold State.resumePriming; (repeat' split) <;> simp
@[simp] theorem State.resumePriming_pins (s : State) (stage : Nat) : (s.resumePriming stage).pins = s.pins :=
  by unfold State.resumePriming; (repeat' split) <;> simp

@[simp] theorem State.cutLine_pending (s : State) : s.cutLine.pending = s.pending :=
  by unfold State.cutLine; split <;> simp
@[simp] theorem State.cutLine_regs (s : State) : s.cutLine.regs = s.regs := by unfold State.cutLine; split <;> simp
@[simp] theorem State.cutLine_run (s : State) : s.cutLine.run = s.run := by unfold State.cutLine; split <;> simp
@[simp] theorem State.cutLine_rb (s : State) : s.cutLine.rb = s.rb := by unfold State.cutLine; split <;> simp
@[simp] theorem State.cutLine_deck (s : State) : s.cutLine.deck = s.deck := by unfold State.cutLine; split <;> simp
@[simp] theorem State.cutLine_seq (s : State) : s.cutLine.seq = s.seq := by unfold State.cutLine; split <;> simp
@[simp] theorem State.cutLine_frame (s : State) : s.cutLine.frame = s.frame := by unfold State.cutLine; split <;> simp
@[simp] theorem State.cutLine_ring (s : State) : s.cutLine.ring = s.ring := by unfold State.cutLine; split <;> simp
@[simp] theorem State.cutLine_tables (s : State) : s.cutLine.tables = s.tables :=
  by unfold State.cutLine; split <;> simp
@[simp] theorem State.cutLine_film (s : State) : s.cutLine.film = s.film := by unfold State.cutLine; split <;> simp
@[simp] theorem State.cutLine_pins (s : State) : s.cutLine.pins = s.pins := by unfold State.cutLine; split <;> simp
@[simp] theorem State.cutLine_bus (s : State) : s.cutLine.bus = s.bus := by unfold State.cutLine; split <;> simp
@[simp] theorem State.cutLine_nextId (s : State) : s.cutLine.nextId = s.nextId :=
  by unfold State.cutLine; split <;> simp

@[simp] theorem State.primeScan_pending (s : State) : s.primeScan.pending = s.pending :=
  by unfold State.primeScan; split <;> simp
@[simp] theorem State.primeScan_regs (s : State) : s.primeScan.regs = s.regs :=
  by unfold State.primeScan; split <;> simp
@[simp] theorem State.primeScan_run (s : State) : s.primeScan.run = s.run := by unfold State.primeScan; split <;> simp
@[simp] theorem State.primeScan_rb (s : State) : s.primeScan.rb = s.rb := by unfold State.primeScan; split <;> simp
@[simp] theorem State.primeScan_deck (s : State) : s.primeScan.deck = s.deck :=
  by unfold State.primeScan; split <;> simp
@[simp] theorem State.primeScan_seq (s : State) : s.primeScan.seq = s.seq := by unfold State.primeScan; split <;> simp
@[simp] theorem State.primeScan_frame (s : State) : s.primeScan.frame = s.frame :=
  by unfold State.primeScan; split <;> simp
@[simp] theorem State.primeScan_ring (s : State) : s.primeScan.ring = s.ring :=
  by unfold State.primeScan; split <;> simp
@[simp] theorem State.primeScan_tables (s : State) : s.primeScan.tables = s.tables :=
  by unfold State.primeScan; split <;> simp
@[simp] theorem State.primeScan_film (s : State) : s.primeScan.film = s.film :=
  by unfold State.primeScan; split <;> simp
@[simp] theorem State.primeScan_pins (s : State) : s.primeScan.pins = s.pins :=
  by unfold State.primeScan; split <;> simp
@[simp] theorem State.primeScan_bus (s : State) : s.primeScan.bus = s.bus := by unfold State.primeScan; split <;> simp
@[simp] theorem State.primeScan_nextId (s : State) : s.primeScan.nextId = s.nextId :=
  by unfold State.primeScan; split <;> simp

@[simp] theorem State.setUp_pending (s : State) : s.setUp.pending = s.pending := by simp [State.setUp]
@[simp] theorem State.setUp_regs (s : State) : s.setUp.regs = s.regs := by simp [State.setUp]
@[simp] theorem State.setUp_run (s : State) : s.setUp.run = s.run := by simp [State.setUp]
@[simp] theorem State.setUp_rb (s : State) : s.setUp.rb = s.rb := by simp [State.setUp]
@[simp] theorem State.setUp_tables (s : State) : s.setUp.tables = s.tables := by simp [State.setUp]
@[simp] theorem State.setUp_pins (s : State) : s.setUp.pins = s.pins := by simp [State.setUp]

@[simp] theorem State.startFails_pending (s : State) (f : StartFault) (stageBefore : Nat) : (s.startFails f stageBefore).pending = s.pending :=
  by simp [State.startFails]
@[simp] theorem State.startFails_rb (s : State) (f : StartFault) (stageBefore : Nat) : (s.startFails f stageBefore).rb = s.rb :=
  by simp [State.startFails]
@[simp] theorem State.startFails_frame (s : State) (f : StartFault) (stageBefore : Nat) : (s.startFails f stageBefore).frame = s.frame :=
  by simp [State.startFails]
@[simp] theorem State.startFails_ring (s : State) (f : StartFault) (stageBefore : Nat) : (s.startFails f stageBefore).ring = s.ring :=
  by simp [State.startFails]
@[simp] theorem State.startFails_dp (s : State) (f : StartFault) (stageBefore : Nat) : (s.startFails f stageBefore).dp = s.dp :=
  by simp [State.startFails]
@[simp] theorem State.startFails_tables (s : State) (f : StartFault) (stageBefore : Nat) : (s.startFails f stageBefore).tables = s.tables :=
  by simp [State.startFails]
@[simp] theorem State.startFails_scan (s : State) (f : StartFault) (stageBefore : Nat) : (s.startFails f stageBefore).scan = s.scan :=
  by simp [State.startFails]
@[simp] theorem State.startFails_film (s : State) (f : StartFault) (stageBefore : Nat) : (s.startFails f stageBefore).film = s.film :=
  by simp [State.startFails]
@[simp] theorem State.startFails_pins (s : State) (f : StartFault) (stageBefore : Nat) : (s.startFails f stageBefore).pins = s.pins :=
  by simp [State.startFails]
@[simp] theorem State.startFails_nextId (s : State) (f : StartFault) (stageBefore : Nat) : (s.startFails f stageBefore).nextId = s.nextId :=
  by simp [State.startFails]

@[simp] theorem State.startPasses_pending (s : State) (rb : RunBlock) : (s.startPasses rb).pending = s.pending :=
  by simp [State.startPasses]
@[simp] theorem State.startPasses_regs (s : State) (rb : RunBlock) : (s.startPasses rb).regs = s.regs :=
  by simp [State.startPasses]
@[simp] theorem State.startPasses_tables (s : State) (rb : RunBlock) : (s.startPasses rb).tables = s.tables :=
  by simp [State.startPasses]
@[simp] theorem State.startPasses_pins (s : State) (rb : RunBlock) : (s.startPasses rb).pins = s.pins :=
  by simp [State.startPasses]

@[simp] theorem State.validateStart_pending (s : State) (data : Option (List Byte)) (stageBefore : Nat) : (s.validateStart data stageBefore).pending = s.pending :=
  by unfold State.validateStart; (repeat' split) <;> simp
@[simp] theorem State.validateStart_tables (s : State) (data : Option (List Byte)) (stageBefore : Nat) : (s.validateStart data stageBefore).tables = s.tables :=
  by unfold State.validateStart; (repeat' split) <;> simp
@[simp] theorem State.validateStart_pins (s : State) (data : Option (List Byte)) (stageBefore : Nat) : (s.validateStart data stageBefore).pins = s.pins :=
  by unfold State.validateStart; (repeat' split) <;> simp

@[simp] theorem State.takeDeck_pending (s : State) (h : DeckHeader) : (s.takeDeck h).pending = s.pending :=
  by unfold State.takeDeck; split <;> simp
@[simp] theorem State.takeDeck_rb (s : State) (h : DeckHeader) : (s.takeDeck h).rb = s.rb :=
  by unfold State.takeDeck; split <;> simp
@[simp] theorem State.takeDeck_scan (s : State) (h : DeckHeader) : (s.takeDeck h).scan = s.scan :=
  by unfold State.takeDeck; split <;> simp
@[simp] theorem State.takeDeck_pins (s : State) (h : DeckHeader) : (s.takeDeck h).pins = s.pins :=
  by unfold State.takeDeck; split <;> simp

@[simp] theorem State.waitForDeck_pending (s : State) : s.waitForDeck.pending = s.pending :=
  by unfold State.waitForDeck; split <;> simp
@[simp] theorem State.waitForDeck_regs (s : State) : s.waitForDeck.regs = s.regs :=
  by unfold State.waitForDeck; split <;> simp
@[simp] theorem State.waitForDeck_rb (s : State) : s.waitForDeck.rb = s.rb :=
  by unfold State.waitForDeck; split <;> simp
@[simp] theorem State.waitForDeck_seq (s : State) : s.waitForDeck.seq = s.seq :=
  by unfold State.waitForDeck; split <;> simp
@[simp] theorem State.waitForDeck_frame (s : State) : s.waitForDeck.frame = s.frame :=
  by unfold State.waitForDeck; split <;> simp
@[simp] theorem State.waitForDeck_ring (s : State) : s.waitForDeck.ring = s.ring :=
  by unfold State.waitForDeck; split <;> simp
@[simp] theorem State.waitForDeck_dp (s : State) : s.waitForDeck.dp = s.dp :=
  by unfold State.waitForDeck; split <;> simp
@[simp] theorem State.waitForDeck_tables (s : State) : s.waitForDeck.tables = s.tables :=
  by unfold State.waitForDeck; split <;> simp
@[simp] theorem State.waitForDeck_scan (s : State) : s.waitForDeck.scan = s.scan :=
  by unfold State.waitForDeck; split <;> simp
@[simp] theorem State.waitForDeck_film (s : State) : s.waitForDeck.film = s.film :=
  by unfold State.waitForDeck; split <;> simp
@[simp] theorem State.waitForDeck_pins (s : State) : s.waitForDeck.pins = s.pins :=
  by unfold State.waitForDeck; split <;> simp
@[simp] theorem State.waitForDeck_nextId (s : State) : s.waitForDeck.nextId = s.nextId :=
  by unfold State.waitForDeck; split <;> simp

@[simp] theorem State.actOnHeader_pending (s : State) (data : Option (List Byte)) : (s.actOnHeader data).pending = s.pending :=
  by unfold State.actOnHeader; simp only []; (repeat' split) <;> simp_all []
@[simp] theorem State.actOnHeader_rb (s : State) (data : Option (List Byte)) : (s.actOnHeader data).rb = s.rb :=
  by unfold State.actOnHeader; simp only []; (repeat' split) <;> simp_all []
@[simp] theorem State.actOnHeader_scan (s : State) (data : Option (List Byte)) : (s.actOnHeader data).scan = s.scan :=
  by unfold State.actOnHeader; simp only []; (repeat' split) <;> simp_all []
@[simp] theorem State.actOnHeader_pins (s : State) (data : Option (List Byte)) : (s.actOnHeader data).pins = s.pins :=
  by unfold State.actOnHeader; simp only []; (repeat' split) <;> simp_all []

end Sys2Proof.Machine
end

