-- ==== Sys2Proof/Laws/Scan.lean ====
section
/-! SUPPORT. What the Scan Timing Unit's stages leave as it was: one lemma per operation and block of State. -/

namespace Sys2Proof.Machine

@[simp] theorem State.loseLock_pending (s : State) (l : LockState) : (s.loseLock l).pending = s.pending :=
  by simp [State.loseLock]
@[simp] theorem State.loseLock_rb (s : State) (l : LockState) : (s.loseLock l).rb = s.rb := by simp [State.loseLock]
@[simp] theorem State.loseLock_seq (s : State) (l : LockState) : (s.loseLock l).seq = s.seq :=
  by simp [State.loseLock]
@[simp] theorem State.loseLock_tables (s : State) (l : LockState) : (s.loseLock l).tables = s.tables :=
  by simp [State.loseLock]
@[simp] theorem State.loseLock_pins (s : State) (l : LockState) : (s.loseLock l).pins = s.pins :=
  by simp [State.loseLock]

@[simp] theorem State.gainLock_pending (s : State) : s.gainLock.pending = s.pending := by simp [State.gainLock]
@[simp] theorem State.gainLock_regs (s : State) : s.gainLock.regs = s.regs := by simp [State.gainLock]
@[simp] theorem State.gainLock_rb (s : State) : s.gainLock.rb = s.rb := by simp [State.gainLock]
@[simp] theorem State.gainLock_seq (s : State) : s.gainLock.seq = s.seq := by simp [State.gainLock]
@[simp] theorem State.gainLock_frame (s : State) : s.gainLock.frame = s.frame := by simp [State.gainLock]
@[simp] theorem State.gainLock_ring (s : State) : s.gainLock.ring = s.ring := by simp [State.gainLock]
@[simp] theorem State.gainLock_dp (s : State) : s.gainLock.dp = s.dp := by simp [State.gainLock]
@[simp] theorem State.gainLock_tables (s : State) : s.gainLock.tables = s.tables := by simp [State.gainLock]
@[simp] theorem State.gainLock_film (s : State) : s.gainLock.film = s.film := by simp [State.gainLock]
@[simp] theorem State.gainLock_pins (s : State) : s.gainLock.pins = s.pins := by simp [State.gainLock]

@[simp] theorem State.failLock_pending (s : State) : s.failLock.pending = s.pending :=
  by unfold State.failLock; split <;> simp
@[simp] theorem State.failLock_rb (s : State) : s.failLock.rb = s.rb := by unfold State.failLock; split <;> simp
@[simp] theorem State.failLock_seq (s : State) : s.failLock.seq = s.seq := by unfold State.failLock; split <;> simp
@[simp] theorem State.failLock_tables (s : State) : s.failLock.tables = s.tables :=
  by unfold State.failLock; split <;> simp
@[simp] theorem State.failLock_pins (s : State) : s.failLock.pins = s.pins := by unfold State.failLock; split <;> simp

@[simp] theorem State.stopScan_pending (s : State) : s.stopScan.pending = s.pending :=
  by unfold State.stopScan; split <;> simp
@[simp] theorem State.stopScan_rb (s : State) : s.stopScan.rb = s.rb := by unfold State.stopScan; split <;> simp
@[simp] theorem State.stopScan_seq (s : State) : s.stopScan.seq = s.seq := by unfold State.stopScan; split <;> simp
@[simp] theorem State.stopScan_tables (s : State) : s.stopScan.tables = s.tables :=
  by unfold State.stopScan; split <;> simp
@[simp] theorem State.stopScan_pins (s : State) : s.stopScan.pins = s.pins := by unfold State.stopScan; split <;> simp

@[simp] theorem State.overlapStage_pending (s : State) : s.overlapStage.pending = s.pending :=
  by unfold State.overlapStage; split <;> simp
@[simp] theorem State.overlapStage_rb (s : State) : s.overlapStage.rb = s.rb :=
  by unfold State.overlapStage; split <;> simp
@[simp] theorem State.overlapStage_seq (s : State) : s.overlapStage.seq = s.seq :=
  by unfold State.overlapStage; split <;> simp
@[simp] theorem State.overlapStage_tables (s : State) : s.overlapStage.tables = s.tables :=
  by unfold State.overlapStage; split <;> simp
@[simp] theorem State.overlapStage_pins (s : State) : s.overlapStage.pins = s.pins :=
  by unfold State.overlapStage; split <;> simp

@[simp] theorem State.slip_pending (s : State) : s.slip.pending = s.pending := by unfold State.slip; split <;> simp
@[simp] theorem State.slip_rb (s : State) : s.slip.rb = s.rb := by unfold State.slip; split <;> simp
@[simp] theorem State.slip_seq (s : State) : s.slip.seq = s.seq := by unfold State.slip; split <;> simp
@[simp] theorem State.slip_tables (s : State) : s.slip.tables = s.tables := by unfold State.slip; split <;> simp
@[simp] theorem State.slip_pins (s : State) : s.slip.pins = s.pins := by unfold State.slip; split <;> simp

@[simp] theorem State.facetStage_pending (s : State) (start : LockState) : (s.facetStage start).pending = s.pending :=
  by unfold State.facetStage; (repeat' split) <;> simp
@[simp] theorem State.facetStage_rb (s : State) (start : LockState) : (s.facetStage start).rb = s.rb :=
  by unfold State.facetStage; (repeat' split) <;> simp
@[simp] theorem State.facetStage_seq (s : State) (start : LockState) : (s.facetStage start).seq = s.seq :=
  by unfold State.facetStage; (repeat' split) <;> simp
@[simp] theorem State.facetStage_tables (s : State) (start : LockState) : (s.facetStage start).tables = s.tables :=
  by unfold State.facetStage; (repeat' split) <;> simp
@[simp] theorem State.facetStage_pins (s : State) (start : LockState) : (s.facetStage start).pins = s.pins :=
  by unfold State.facetStage; (repeat' split) <;> simp

@[simp] theorem State.averageStage_pending (s : State) (d i : Nat) : (s.averageStage d i).pending = s.pending :=
  by unfold State.averageStage; simp only []; (repeat' split) <;> simp_all []
@[simp] theorem State.averageStage_rb (s : State) (d i : Nat) : (s.averageStage d i).rb = s.rb :=
  by unfold State.averageStage; simp only []; (repeat' split) <;> simp_all []
@[simp] theorem State.averageStage_seq (s : State) (d i : Nat) : (s.averageStage d i).seq = s.seq :=
  by unfold State.averageStage; simp only []; (repeat' split) <;> simp_all []
@[simp] theorem State.averageStage_tables (s : State) (d i : Nat) : (s.averageStage d i).tables = s.tables :=
  by unfold State.averageStage; simp only []; (repeat' split) <;> simp_all []
@[simp] theorem State.averageStage_pins (s : State) (d i : Nat) : (s.averageStage d i).pins = s.pins :=
  by unfold State.averageStage; simp only []; (repeat' split) <;> simp_all []

@[simp] theorem State.checkRevolution_pending (s : State) (v : Revolution) : (s.checkRevolution v).pending = s.pending :=
  by unfold State.checkRevolution; (repeat' split) <;> simp
@[simp] theorem State.checkRevolution_rb (s : State) (v : Revolution) : (s.checkRevolution v).rb = s.rb :=
  by unfold State.checkRevolution; (repeat' split) <;> simp
@[simp] theorem State.checkRevolution_seq (s : State) (v : Revolution) : (s.checkRevolution v).seq = s.seq :=
  by unfold State.checkRevolution; (repeat' split) <;> simp
@[simp] theorem State.checkRevolution_tables (s : State) (v : Revolution) : (s.checkRevolution v).tables = s.tables :=
  by unfold State.checkRevolution; (repeat' split) <;> simp
@[simp] theorem State.checkRevolution_pins (s : State) (v : Revolution) : (s.checkRevolution v).pins = s.pins :=
  by unfold State.checkRevolution; (repeat' split) <;> simp

@[simp] theorem State.revolutionStage_pending (s : State) : s.revolutionStage.pending = s.pending :=
  by unfold State.revolutionStage; (repeat' split) <;> simp
@[simp] theorem State.revolutionStage_rb (s : State) : s.revolutionStage.rb = s.rb :=
  by unfold State.revolutionStage; (repeat' split) <;> simp
@[simp] theorem State.revolutionStage_seq (s : State) : s.revolutionStage.seq = s.seq :=
  by unfold State.revolutionStage; (repeat' split) <;> simp
@[simp] theorem State.revolutionStage_tables (s : State) : s.revolutionStage.tables = s.tables :=
  by unfold State.revolutionStage; (repeat' split) <;> simp
@[simp] theorem State.revolutionStage_pins (s : State) : s.revolutionStage.pins = s.pins :=
  by unfold State.revolutionStage; (repeat' split) <;> simp

@[simp] theorem State.lineStage_pending (s : State) : s.lineStage.pending = s.pending :=
  by unfold State.lineStage; split <;> simp
@[simp] theorem State.lineStage_regs (s : State) : s.lineStage.regs = s.regs :=
  by unfold State.lineStage; split <;> simp
@[simp] theorem State.lineStage_run (s : State) : s.lineStage.run = s.run := by unfold State.lineStage; split <;> simp
@[simp] theorem State.lineStage_rb (s : State) : s.lineStage.rb = s.rb := by unfold State.lineStage; split <;> simp
@[simp] theorem State.lineStage_deck (s : State) : s.lineStage.deck = s.deck :=
  by unfold State.lineStage; split <;> simp
@[simp] theorem State.lineStage_seq (s : State) : s.lineStage.seq = s.seq := by unfold State.lineStage; split <;> simp
@[simp] theorem State.lineStage_tables (s : State) : s.lineStage.tables = s.tables :=
  by unfold State.lineStage; split <;> simp
@[simp] theorem State.lineStage_pins (s : State) : s.lineStage.pins = s.pins :=
  by unfold State.lineStage; split <;> simp

@[simp] theorem State.judgeStages_pending (s : State) (start : LockState) (d : Nat) (i : Option Nat) : (s.judgeStages start d i).pending = s.pending :=
  by unfold State.judgeStages; (repeat' split) <;> simp
@[simp] theorem State.judgeStages_rb (s : State) (start : LockState) (d : Nat) (i : Option Nat) : (s.judgeStages start d i).rb = s.rb :=
  by unfold State.judgeStages; (repeat' split) <;> simp
@[simp] theorem State.judgeStages_seq (s : State) (start : LockState) (d : Nat) (i : Option Nat) : (s.judgeStages start d i).seq = s.seq :=
  by unfold State.judgeStages; (repeat' split) <;> simp
@[simp] theorem State.judgeStages_tables (s : State) (start : LockState) (d : Nat) (i : Option Nat) : (s.judgeStages start d i).tables = s.tables :=
  by unfold State.judgeStages; (repeat' split) <;> simp
@[simp] theorem State.judgeStages_pins (s : State) (start : LockState) (d : Nat) (i : Option Nat) : (s.judgeStages start d i).pins = s.pins :=
  by unfold State.judgeStages; (repeat' split) <;> simp

@[simp] theorem State.sosStages_pending (s : State) : s.sosStages.pending = s.pending := by simp [State.sosStages]
@[simp] theorem State.sosStages_rb (s : State) : s.sosStages.rb = s.rb := by simp [State.sosStages]
@[simp] theorem State.sosStages_seq (s : State) : s.sosStages.seq = s.seq := by simp [State.sosStages]
@[simp] theorem State.sosStages_tables (s : State) : s.sosStages.tables = s.tables := by simp [State.sosStages]
@[simp] theorem State.sosStages_pins (s : State) : s.sosStages.pins = s.pins := by simp [State.sosStages]

end Sys2Proof.Machine
end

