-- ==== Sys2Proof/Laws/Commands.lean ====
section
/-! SUPPORT. What the commands leave as it was: one lemma per operation and block of State. -/

namespace Sys2Proof.Machine

@[simp] theorem State.acceptStart_pending (s : State) : s.acceptStart.pending = s.pending :=
  by simp [State.acceptStart]
@[simp] theorem State.acceptStart_regs (s : State) : s.acceptStart.regs = s.regs := by simp [State.acceptStart]
@[simp] theorem State.acceptStart_rb (s : State) : s.acceptStart.rb = s.rb := by simp [State.acceptStart]
@[simp] theorem State.acceptStart_seq (s : State) : s.acceptStart.seq = s.seq := by simp [State.acceptStart]
@[simp] theorem State.acceptStart_frame (s : State) : s.acceptStart.frame = s.frame := by simp [State.acceptStart]
@[simp] theorem State.acceptStart_ring (s : State) : s.acceptStart.ring = s.ring := by simp [State.acceptStart]
@[simp] theorem State.acceptStart_dp (s : State) : s.acceptStart.dp = s.dp := by simp [State.acceptStart]
@[simp] theorem State.acceptStart_tables (s : State) : s.acceptStart.tables = s.tables := by simp [State.acceptStart]
@[simp] theorem State.acceptStart_scan (s : State) : s.acceptStart.scan = s.scan := by simp [State.acceptStart]
@[simp] theorem State.acceptStart_film (s : State) : s.acceptStart.film = s.film := by simp [State.acceptStart]
@[simp] theorem State.acceptStart_pins (s : State) : s.acceptStart.pins = s.pins := by simp [State.acceptStart]

@[simp] theorem State.acceptPause_pending (s : State) : s.acceptPause.pending = s.pending :=
  by unfold State.acceptPause; (repeat' split) <;> simp
@[simp] theorem State.acceptPause_rb (s : State) : s.acceptPause.rb = s.rb :=
  by unfold State.acceptPause; (repeat' split) <;> simp
@[simp] theorem State.acceptPause_seq (s : State) : s.acceptPause.seq = s.seq :=
  by unfold State.acceptPause; (repeat' split) <;> simp
@[simp] theorem State.acceptPause_frame (s : State) : s.acceptPause.frame = s.frame :=
  by unfold State.acceptPause; (repeat' split) <;> simp
@[simp] theorem State.acceptPause_ring (s : State) : s.acceptPause.ring = s.ring :=
  by unfold State.acceptPause; (repeat' split) <;> simp
@[simp] theorem State.acceptPause_dp (s : State) : s.acceptPause.dp = s.dp :=
  by unfold State.acceptPause; (repeat' split) <;> simp
@[simp] theorem State.acceptPause_tables (s : State) : s.acceptPause.tables = s.tables :=
  by unfold State.acceptPause; (repeat' split) <;> simp
@[simp] theorem State.acceptPause_scan (s : State) : s.acceptPause.scan = s.scan :=
  by unfold State.acceptPause; (repeat' split) <;> simp
@[simp] theorem State.acceptPause_film (s : State) : s.acceptPause.film = s.film :=
  by unfold State.acceptPause; (repeat' split) <;> simp
@[simp] theorem State.acceptPause_pins (s : State) : s.acceptPause.pins = s.pins :=
  by unfold State.acceptPause; (repeat' split) <;> simp
@[simp] theorem State.acceptPause_nextId (s : State) : s.acceptPause.nextId = s.nextId :=
  by unfold State.acceptPause; (repeat' split) <;> simp

@[simp] theorem State.resumeFrame_pending (s : State) : s.resumeFrame.pending = s.pending :=
  by unfold State.resumeFrame; (repeat' split) <;> simp
@[simp] theorem State.resumeFrame_rb (s : State) : s.resumeFrame.rb = s.rb :=
  by unfold State.resumeFrame; (repeat' split) <;> simp
@[simp] theorem State.resumeFrame_scan (s : State) : s.resumeFrame.scan = s.scan :=
  by unfold State.resumeFrame; (repeat' split) <;> simp
@[simp] theorem State.resumeFrame_film (s : State) : s.resumeFrame.film = s.film :=
  by unfold State.resumeFrame; (repeat' split) <;> simp
@[simp] theorem State.resumeFrame_pins (s : State) : s.resumeFrame.pins = s.pins :=
  by unfold State.resumeFrame; (repeat' split) <;> simp

@[simp] theorem State.resumeCalibrate_pending (s : State) : s.resumeCalibrate.pending = s.pending :=
  by unfold State.resumeCalibrate; split <;> simp
@[simp] theorem State.resumeCalibrate_regs (s : State) : s.resumeCalibrate.regs = s.regs :=
  by unfold State.resumeCalibrate; split <;> simp
@[simp] theorem State.resumeCalibrate_run (s : State) : s.resumeCalibrate.run = s.run :=
  by unfold State.resumeCalibrate; split <;> simp
@[simp] theorem State.resumeCalibrate_rb (s : State) : s.resumeCalibrate.rb = s.rb :=
  by unfold State.resumeCalibrate; split <;> simp
@[simp] theorem State.resumeCalibrate_deck (s : State) : s.resumeCalibrate.deck = s.deck :=
  by unfold State.resumeCalibrate; split <;> simp
@[simp] theorem State.resumeCalibrate_seq (s : State) : s.resumeCalibrate.seq = s.seq :=
  by unfold State.resumeCalibrate; split <;> simp
@[simp] theorem State.resumeCalibrate_frame (s : State) : s.resumeCalibrate.frame = s.frame :=
  by unfold State.resumeCalibrate; split <;> simp
@[simp] theorem State.resumeCalibrate_ring (s : State) : s.resumeCalibrate.ring = s.ring :=
  by unfold State.resumeCalibrate; split <;> simp
@[simp] theorem State.resumeCalibrate_dp (s : State) : s.resumeCalibrate.dp = s.dp :=
  by unfold State.resumeCalibrate; split <;> simp
@[simp] theorem State.resumeCalibrate_tables (s : State) : s.resumeCalibrate.tables = s.tables :=
  by unfold State.resumeCalibrate; split <;> simp
@[simp] theorem State.resumeCalibrate_scan (s : State) : s.resumeCalibrate.scan = s.scan :=
  by unfold State.resumeCalibrate; split <;> simp
@[simp] theorem State.resumeCalibrate_film (s : State) : s.resumeCalibrate.film = s.film :=
  by unfold State.resumeCalibrate; split <;> simp
@[simp] theorem State.resumeCalibrate_pins (s : State) : s.resumeCalibrate.pins = s.pins :=
  by unfold State.resumeCalibrate; split <;> simp
@[simp] theorem State.resumeCalibrate_bus (s : State) : s.resumeCalibrate.bus = s.bus :=
  by unfold State.resumeCalibrate; split <;> simp
@[simp] theorem State.resumeCalibrate_nextId (s : State) : s.resumeCalibrate.nextId = s.nextId :=
  by unfold State.resumeCalibrate; split <;> simp

@[simp] theorem State.resumeCard_pending (s : State) : s.resumeCard.pending = s.pending :=
  by unfold State.resumeCard; split <;> simp
@[simp] theorem State.resumeCard_rb (s : State) : s.resumeCard.rb = s.rb := by unfold State.resumeCard; split <;> simp
@[simp] theorem State.resumeCard_scan (s : State) : s.resumeCard.scan = s.scan :=
  by unfold State.resumeCard; split <;> simp
@[simp] theorem State.resumeCard_pins (s : State) : s.resumeCard.pins = s.pins :=
  by unfold State.resumeCard; split <;> simp

@[simp] theorem State.resumeRunning_pending (s : State) : s.resumeRunning.pending = s.pending :=
  by unfold State.resumeRunning; (repeat' split) <;> simp
@[simp] theorem State.resumeRunning_rb (s : State) : s.resumeRunning.rb = s.rb :=
  by unfold State.resumeRunning; (repeat' split) <;> simp
@[simp] theorem State.resumeRunning_scan (s : State) : s.resumeRunning.scan = s.scan :=
  by unfold State.resumeRunning; (repeat' split) <;> simp
@[simp] theorem State.resumeRunning_pins (s : State) : s.resumeRunning.pins = s.pins :=
  by unfold State.resumeRunning; (repeat' split) <;> simp

@[simp] theorem State.resumeAt_pending (s : State) (p : ResumePoint) : (s.resumeAt p).pending = s.pending :=
  by unfold State.resumeAt; split <;> simp
@[simp] theorem State.resumeAt_rb (s : State) (p : ResumePoint) : (s.resumeAt p).rb = s.rb :=
  by unfold State.resumeAt; split <;> simp
@[simp] theorem State.resumeAt_scan (s : State) (p : ResumePoint) : (s.resumeAt p).scan = s.scan :=
  by unfold State.resumeAt; split <;> simp
@[simp] theorem State.resumeAt_pins (s : State) (p : ResumePoint) : (s.resumeAt p).pins = s.pins :=
  by unfold State.resumeAt; split <;> simp

@[simp] theorem State.acceptResume_pending (s : State) (p : ResumePoint) : (s.acceptResume p).pending = s.pending :=
  by simp [State.acceptResume]
@[simp] theorem State.acceptResume_rb (s : State) (p : ResumePoint) : (s.acceptResume p).rb = s.rb :=
  by simp [State.acceptResume]
@[simp] theorem State.acceptResume_scan (s : State) (p : ResumePoint) : (s.acceptResume p).scan = s.scan :=
  by simp [State.acceptResume]
@[simp] theorem State.acceptResume_pins (s : State) (p : ResumePoint) : (s.acceptResume p).pins = s.pins :=
  by simp [State.acceptResume]

@[simp] theorem State.endSettleAndRun_pending (s : State) : s.endSettleAndRun.pending = s.pending := by simp [State.endSettleAndRun]
@[simp] theorem State.endSettleAndRun_rb (s : State) : s.endSettleAndRun.rb = s.rb := by simp [State.endSettleAndRun]
@[simp] theorem State.endSettleAndRun_scan (s : State) : s.endSettleAndRun.scan = s.scan := by simp [State.endSettleAndRun]
@[simp] theorem State.endSettleAndRun_pins (s : State) : s.endSettleAndRun.pins = s.pins := by simp [State.endSettleAndRun]

@[simp] theorem State.stopCard_pending (s : State) : s.stopCard.pending = s.pending :=
  by unfold State.stopCard; (repeat' split) <;> simp
@[simp] theorem State.stopCard_rb (s : State) : s.stopCard.rb = s.rb :=
  by unfold State.stopCard; (repeat' split) <;> simp
@[simp] theorem State.stopCard_scan (s : State) : s.stopCard.scan = s.scan :=
  by unfold State.stopCard; (repeat' split) <;> simp
@[simp] theorem State.stopCard_pins (s : State) : s.stopCard.pins = s.pins :=
  by unfold State.stopCard; (repeat' split) <;> simp

@[simp] theorem State.acceptStop_pending (s : State) : s.acceptStop.pending = s.pending :=
  by unfold State.acceptStop; (repeat' split) <;> simp
@[simp] theorem State.acceptStop_rb (s : State) : s.acceptStop.rb = s.rb :=
  by unfold State.acceptStop; (repeat' split) <;> simp
@[simp] theorem State.acceptStop_scan (s : State) : s.acceptStop.scan = s.scan :=
  by unfold State.acceptStop; (repeat' split) <;> simp
@[simp] theorem State.acceptStop_pins (s : State) : s.acceptStop.pins = s.pins :=
  by unfold State.acceptStop; (repeat' split) <;> simp

@[simp] theorem State.abortCard_pending (s : State) : s.abortCard.pending = s.pending :=
  by unfold State.abortCard; (repeat' split) <;> simp
@[simp] theorem State.abortCard_rb (s : State) : s.abortCard.rb = s.rb :=
  by unfold State.abortCard; (repeat' split) <;> simp
@[simp] theorem State.abortCard_scan (s : State) : s.abortCard.scan = s.scan :=
  by unfold State.abortCard; (repeat' split) <;> simp
@[simp] theorem State.abortCard_pins (s : State) : s.abortCard.pins = s.pins :=
  by unfold State.abortCard; (repeat' split) <;> simp

@[simp] theorem State.acceptAbort_pending (s : State) : s.acceptAbort.pending = s.pending :=
  by unfold State.acceptAbort; (repeat' split) <;> simp
@[simp] theorem State.acceptAbort_rb (s : State) : s.acceptAbort.rb = s.rb :=
  by unfold State.acceptAbort; (repeat' split) <;> simp
@[simp] theorem State.acceptAbort_scan (s : State) : s.acceptAbort.scan = s.scan :=
  by unfold State.acceptAbort; (repeat' split) <;> simp
@[simp] theorem State.acceptAbort_pins (s : State) : s.acceptAbort.pins = s.pins :=
  by unfold State.acceptAbort; (repeat' split) <;> simp

@[simp] theorem State.softReset_pending (s : State) : s.softReset.pending = s.pending := by simp [State.softReset]
@[simp] theorem State.softReset_rb (s : State) : s.softReset.rb = s.rb := by simp [State.softReset]
@[simp] theorem State.softReset_pins (s : State) : s.softReset.pins = s.pins := by simp [State.softReset]
@[simp] theorem State.softReset_bus (s : State) : s.softReset.bus = s.bus := by simp [State.softReset]
@[simp] theorem State.softReset_nextId (s : State) : s.softReset.nextId = s.nextId := by simp [State.softReset]

end Sys2Proof.Machine
end

