-- ==== Sys2Proof/Laws/ScanEvents.lean ====
section
/-! SUPPORT. What the scan's events leave as it was: one lemma per operation and block of State. -/

namespace Sys2Proof.Machine

@[simp] theorem State.reportPixelEnd_pending (s : State) (d : Datapath) : (s.reportPixelEnd d).pending = s.pending :=
  by unfold State.reportPixelEnd; split <;> simp
@[simp] theorem State.reportPixelEnd_regs (s : State) (d : Datapath) : (s.reportPixelEnd d).regs = s.regs :=
  by unfold State.reportPixelEnd; split <;> simp
@[simp] theorem State.reportPixelEnd_run (s : State) (d : Datapath) : (s.reportPixelEnd d).run = s.run :=
  by unfold State.reportPixelEnd; split <;> simp
@[simp] theorem State.reportPixelEnd_rb (s : State) (d : Datapath) : (s.reportPixelEnd d).rb = s.rb :=
  by unfold State.reportPixelEnd; split <;> simp
@[simp] theorem State.reportPixelEnd_deck (s : State) (d : Datapath) : (s.reportPixelEnd d).deck = s.deck :=
  by unfold State.reportPixelEnd; split <;> simp
@[simp] theorem State.reportPixelEnd_seq (s : State) (d : Datapath) : (s.reportPixelEnd d).seq = s.seq :=
  by unfold State.reportPixelEnd; split <;> simp
@[simp] theorem State.reportPixelEnd_dp (s : State) (d : Datapath) : (s.reportPixelEnd d).dp = s.dp :=
  by unfold State.reportPixelEnd; split <;> simp
@[simp] theorem State.reportPixelEnd_tables (s : State) (d : Datapath) : (s.reportPixelEnd d).tables = s.tables :=
  by unfold State.reportPixelEnd; split <;> simp
@[simp] theorem State.reportPixelEnd_scan (s : State) (d : Datapath) : (s.reportPixelEnd d).scan = s.scan :=
  by unfold State.reportPixelEnd; split <;> simp
@[simp] theorem State.reportPixelEnd_power (s : State) (d : Datapath) : (s.reportPixelEnd d).power = s.power :=
  by unfold State.reportPixelEnd; split <;> simp
@[simp] theorem State.reportPixelEnd_pins (s : State) (d : Datapath) : (s.reportPixelEnd d).pins = s.pins :=
  by unfold State.reportPixelEnd; split <;> simp

@[simp] theorem State.settleDone_pending (s : State) : s.settleDone.pending = s.pending :=
  by unfold State.settleDone; (repeat' split) <;> simp
@[simp] theorem State.settleDone_rb (s : State) : s.settleDone.rb = s.rb :=
  by unfold State.settleDone; (repeat' split) <;> simp
@[simp] theorem State.settleDone_scan (s : State) : s.settleDone.scan = s.scan :=
  by unfold State.settleDone; (repeat' split) <;> simp
@[simp] theorem State.settleDone_pins (s : State) : s.settleDone.pins = s.pins :=
  by unfold State.settleDone; (repeat' split) <;> simp

@[simp] theorem State.useSettle_pending (s : State) (m : Nat) : (s.useSettle m).pending = s.pending :=
  by unfold State.useSettle; simp only []; (repeat' split) <;> simp_all []
@[simp] theorem State.useSettle_rb (s : State) (m : Nat) : (s.useSettle m).rb = s.rb :=
  by unfold State.useSettle; simp only []; (repeat' split) <;> simp_all []
@[simp] theorem State.useSettle_scan (s : State) (m : Nat) : (s.useSettle m).scan = s.scan :=
  by unfold State.useSettle; simp only []; (repeat' split) <;> simp_all []
@[simp] theorem State.useSettle_pins (s : State) (m : Nat) : (s.useSettle m).pins = s.pins :=
  by unfold State.useSettle; simp only []; (repeat' split) <;> simp_all []

@[simp] theorem State.useRegulate_pending (s : State) (ch : Channel) (m : Nat) : (s.useRegulate ch m).pending = s.pending :=
  by unfold State.useRegulate; simp only []; (repeat' split) <;> simp_all []
@[simp] theorem State.useRegulate_rb (s : State) (ch : Channel) (m : Nat) : (s.useRegulate ch m).rb = s.rb :=
  by unfold State.useRegulate; simp only []; (repeat' split) <;> simp_all []
@[simp] theorem State.useRegulate_seq (s : State) (ch : Channel) (m : Nat) : (s.useRegulate ch m).seq = s.seq :=
  by unfold State.useRegulate; simp only []; (repeat' split) <;> simp_all []
@[simp] theorem State.useRegulate_tables (s : State) (ch : Channel) (m : Nat) : (s.useRegulate ch m).tables = s.tables :=
  by unfold State.useRegulate; simp only []; (repeat' split) <;> simp_all []
@[simp] theorem State.useRegulate_scan (s : State) (ch : Channel) (m : Nat) : (s.useRegulate ch m).scan = s.scan :=
  by unfold State.useRegulate; simp only []; (repeat' split) <;> simp_all []
@[simp] theorem State.useRegulate_pins (s : State) (ch : Channel) (m : Nat) : (s.useRegulate ch m).pins = s.pins :=
  by unfold State.useRegulate; simp only []; (repeat' split) <;> simp_all []

@[simp] theorem State.useReading_pending (s : State) (m : Sample) (reading : Nat) : (s.useReading m reading).pending = s.pending :=
  by unfold State.useReading; (repeat' split) <;> simp
@[simp] theorem State.useReading_rb (s : State) (m : Sample) (reading : Nat) : (s.useReading m reading).rb = s.rb :=
  by unfold State.useReading; (repeat' split) <;> simp
@[simp] theorem State.useReading_scan (s : State) (m : Sample) (reading : Nat) : (s.useReading m reading).scan = s.scan :=
  by unfold State.useReading; (repeat' split) <;> simp
@[simp] theorem State.useReading_pins (s : State) (m : Sample) (reading : Nat) : (s.useReading m reading).pins = s.pins :=
  by unfold State.useReading; (repeat' split) <;> simp

@[simp] theorem State.expireLockWait_pending (s : State) (c : FrameCtx) : (s.expireLockWait c).pending = s.pending :=
  by simp [State.expireLockWait]
@[simp] theorem State.expireLockWait_regs (s : State) (c : FrameCtx) : (s.expireLockWait c).regs = s.regs :=
  by simp [State.expireLockWait]
@[simp] theorem State.expireLockWait_run (s : State) (c : FrameCtx) : (s.expireLockWait c).run = s.run :=
  by simp [State.expireLockWait]
@[simp] theorem State.expireLockWait_rb (s : State) (c : FrameCtx) : (s.expireLockWait c).rb = s.rb :=
  by simp [State.expireLockWait]
@[simp] theorem State.expireLockWait_deck (s : State) (c : FrameCtx) : (s.expireLockWait c).deck = s.deck :=
  by simp [State.expireLockWait]
@[simp] theorem State.expireLockWait_seq (s : State) (c : FrameCtx) : (s.expireLockWait c).seq = s.seq :=
  by simp [State.expireLockWait]
@[simp] theorem State.expireLockWait_ring (s : State) (c : FrameCtx) : (s.expireLockWait c).ring = s.ring :=
  by simp [State.expireLockWait]
@[simp] theorem State.expireLockWait_dp (s : State) (c : FrameCtx) : (s.expireLockWait c).dp = s.dp :=
  by simp [State.expireLockWait]
@[simp] theorem State.expireLockWait_tables (s : State) (c : FrameCtx) : (s.expireLockWait c).tables = s.tables :=
  by simp [State.expireLockWait]
@[simp] theorem State.expireLockWait_scan (s : State) (c : FrameCtx) : (s.expireLockWait c).scan = s.scan :=
  by simp [State.expireLockWait]
@[simp] theorem State.expireLockWait_power (s : State) (c : FrameCtx) : (s.expireLockWait c).power = s.power :=
  by simp [State.expireLockWait]
@[simp] theorem State.expireLockWait_film (s : State) (c : FrameCtx) : (s.expireLockWait c).film = s.film :=
  by simp [State.expireLockWait]
@[simp] theorem State.expireLockWait_pins (s : State) (c : FrameCtx) : (s.expireLockWait c).pins = s.pins :=
  by simp [State.expireLockWait]
@[simp] theorem State.expireLockWait_bus (s : State) (c : FrameCtx) : (s.expireLockWait c).bus = s.bus :=
  by simp [State.expireLockWait]
@[simp] theorem State.expireLockWait_nextId (s : State) (c : FrameCtx) : (s.expireLockWait c).nextId = s.nextId :=
  by simp [State.expireLockWait]

end Sys2Proof.Machine
end

