-- ==== Sys2Proof/Laws/ReadEvents.lean ====
section
/-! SUPPORT. What the ends of reads leave as it was: one lemma per operation and block of State. -/

namespace Sys2Proof.Machine

@[simp] theorem State.afterLoadRead_pending (s : State) : s.afterLoadRead.pending = s.pending :=
  by unfold State.afterLoadRead; (repeat' split) <;> simp
@[simp] theorem State.afterLoadRead_rb (s : State) : s.afterLoadRead.rb = s.rb :=
  by unfold State.afterLoadRead; (repeat' split) <;> simp
@[simp] theorem State.afterLoadRead_scan (s : State) : s.afterLoadRead.scan = s.scan :=
  by unfold State.afterLoadRead; (repeat' split) <;> simp
@[simp] theorem State.afterLoadRead_pins (s : State) : s.afterLoadRead.pins = s.pins :=
  by unfold State.afterLoadRead; (repeat' split) <;> simp

@[simp] theorem State.endLoadRead_pending (s : State) (e : LoadRead) (data : Option (List Byte)) : (s.endLoadRead e data).pending = s.pending :=
  by unfold State.endLoadRead; split <;> simp
@[simp] theorem State.endLoadRead_rb (s : State) (e : LoadRead) (data : Option (List Byte)) : (s.endLoadRead e data).rb = s.rb :=
  by unfold State.endLoadRead; split <;> simp
@[simp] theorem State.endLoadRead_scan (s : State) (e : LoadRead) (data : Option (List Byte)) : (s.endLoadRead e data).scan = s.scan :=
  by unfold State.endLoadRead; split <;> simp
@[simp] theorem State.endLoadRead_pins (s : State) (e : LoadRead) (data : Option (List Byte)) : (s.endLoadRead e data).pins = s.pins :=
  by unfold State.endLoadRead; split <;> simp

@[simp] theorem State.currentDelivered_pending (s : State) : s.currentDelivered.pending = s.pending :=
  by unfold State.currentDelivered; (repeat' split) <;> simp
@[simp] theorem State.currentDelivered_rb (s : State) : s.currentDelivered.rb = s.rb :=
  by unfold State.currentDelivered; (repeat' split) <;> simp
@[simp] theorem State.currentDelivered_scan (s : State) : s.currentDelivered.scan = s.scan :=
  by unfold State.currentDelivered; (repeat' split) <;> simp
@[simp] theorem State.currentDelivered_pins (s : State) : s.currentDelivered.pins = s.pins :=
  by unfold State.currentDelivered; (repeat' split) <;> simp

end Sys2Proof.Machine
end

