-- ==== Sys2Proof/Laws/FilmEvents.lean ====
section
/-! SUPPORT. What the film's events leave as it was: one lemma per operation and block of State. -/

namespace Sys2Proof.Machine

@[simp] theorem State.reportStill_pending (s : State) : s.reportStill.pending = s.pending :=
  by unfold State.reportStill; split <;> simp
@[simp] theorem State.reportStill_rb (s : State) : s.reportStill.rb = s.rb :=
  by unfold State.reportStill; split <;> simp
@[simp] theorem State.reportStill_seq (s : State) : s.reportStill.seq = s.seq :=
  by unfold State.reportStill; split <;> simp
@[simp] theorem State.reportStill_frame (s : State) : s.reportStill.frame = s.frame :=
  by unfold State.reportStill; split <;> simp
@[simp] theorem State.reportStill_ring (s : State) : s.reportStill.ring = s.ring :=
  by unfold State.reportStill; split <;> simp
@[simp] theorem State.reportStill_dp (s : State) : s.reportStill.dp = s.dp :=
  by unfold State.reportStill; split <;> simp
@[simp] theorem State.reportStill_tables (s : State) : s.reportStill.tables = s.tables :=
  by unfold State.reportStill; split <;> simp
@[simp] theorem State.reportStill_scan (s : State) : s.reportStill.scan = s.scan :=
  by unfold State.reportStill; split <;> simp
@[simp] theorem State.reportStill_film (s : State) : s.reportStill.film = s.film :=
  by unfold State.reportStill; split <;> simp
@[simp] theorem State.reportStill_pins (s : State) : s.reportStill.pins = s.pins :=
  by unfold State.reportStill; split <;> simp
@[simp] theorem State.reportStill_nextId (s : State) : s.reportStill.nextId = s.nextId :=
  by unfold State.reportStill; split <;> simp

@[simp] theorem State.countPosition_pending (s : State) : s.countPosition.pending = s.pending :=
  by unfold State.countPosition; simp only []; (repeat' split) <;> simp_all []
@[simp] theorem State.countPosition_run (s : State) : s.countPosition.run = s.run :=
  by unfold State.countPosition; simp only []; (repeat' split) <;> simp_all []
@[simp] theorem State.countPosition_rb (s : State) : s.countPosition.rb = s.rb :=
  by unfold State.countPosition; simp only []; (repeat' split) <;> simp_all []
@[simp] theorem State.countPosition_deck (s : State) : s.countPosition.deck = s.deck :=
  by unfold State.countPosition; simp only []; (repeat' split) <;> simp_all []
@[simp] theorem State.countPosition_seq (s : State) : s.countPosition.seq = s.seq :=
  by unfold State.countPosition; simp only []; (repeat' split) <;> simp_all []
@[simp] theorem State.countPosition_frame (s : State) : s.countPosition.frame = s.frame :=
  by unfold State.countPosition; simp only []; (repeat' split) <;> simp_all []
@[simp] theorem State.countPosition_ring (s : State) : s.countPosition.ring = s.ring :=
  by unfold State.countPosition; simp only []; (repeat' split) <;> simp_all []
@[simp] theorem State.countPosition_dp (s : State) : s.countPosition.dp = s.dp :=
  by unfold State.countPosition; simp only []; (repeat' split) <;> simp_all []
@[simp] theorem State.countPosition_tables (s : State) : s.countPosition.tables = s.tables :=
  by unfold State.countPosition; simp only []; (repeat' split) <;> simp_all []
@[simp] theorem State.countPosition_scan (s : State) : s.countPosition.scan = s.scan :=
  by unfold State.countPosition; simp only []; (repeat' split) <;> simp_all []
@[simp] theorem State.countPosition_power (s : State) : s.countPosition.power = s.power :=
  by unfold State.countPosition; simp only []; (repeat' split) <;> simp_all []
@[simp] theorem State.countPosition_pins (s : State) : s.countPosition.pins = s.pins :=
  by unfold State.countPosition; simp only []; (repeat' split) <;> simp_all []
@[simp] theorem State.countPosition_bus (s : State) : s.countPosition.bus = s.bus :=
  by unfold State.countPosition; simp only []; (repeat' split) <;> simp_all []
@[simp] theorem State.countPosition_nextId (s : State) : s.countPosition.nextId = s.nextId :=
  by unfold State.countPosition; simp only []; (repeat' split) <;> simp_all []

@[simp] theorem State.ownGood_pending (s : State) (c : FrameCtx) (passed : Bool) : (s.ownGood c passed).pending = s.pending :=
  by unfold State.ownGood; split <;> simp
@[simp] theorem State.ownGood_rb (s : State) (c : FrameCtx) (passed : Bool) : (s.ownGood c passed).rb = s.rb :=
  by unfold State.ownGood; split <;> simp
@[simp] theorem State.ownGood_scan (s : State) (c : FrameCtx) (passed : Bool) : (s.ownGood c passed).scan = s.scan :=
  by unfold State.ownGood; split <;> simp
@[simp] theorem State.ownGood_pins (s : State) (c : FrameCtx) (passed : Bool) : (s.ownGood c passed).pins = s.pins :=
  by unfold State.ownGood; split <;> simp

@[simp] theorem State.afterSpoiled_pending (s : State) (c : FrameCtx) (passed : Bool) : (s.afterSpoiled c passed).pending = s.pending :=
  by unfold State.afterSpoiled; (repeat' split) <;> simp
@[simp] theorem State.afterSpoiled_rb (s : State) (c : FrameCtx) (passed : Bool) : (s.afterSpoiled c passed).rb = s.rb :=
  by unfold State.afterSpoiled; (repeat' split) <;> simp
@[simp] theorem State.afterSpoiled_scan (s : State) (c : FrameCtx) (passed : Bool) : (s.afterSpoiled c passed).scan = s.scan :=
  by unfold State.afterSpoiled; (repeat' split) <;> simp
@[simp] theorem State.afterSpoiled_pins (s : State) (c : FrameCtx) (passed : Bool) : (s.afterSpoiled c passed).pins = s.pins :=
  by unfold State.afterSpoiled; (repeat' split) <;> simp

@[simp] theorem State.ownSpoiled_pending (s : State) (c : FrameCtx) (passed : Bool) : (s.ownSpoiled c passed).pending = s.pending :=
  by simp [State.ownSpoiled]
@[simp] theorem State.ownSpoiled_rb (s : State) (c : FrameCtx) (passed : Bool) : (s.ownSpoiled c passed).rb = s.rb :=
  by simp [State.ownSpoiled]
@[simp] theorem State.ownSpoiled_scan (s : State) (c : FrameCtx) (passed : Bool) : (s.ownSpoiled c passed).scan = s.scan :=
  by simp [State.ownSpoiled]
@[simp] theorem State.ownSpoiled_pins (s : State) (c : FrameCtx) (passed : Bool) : (s.ownSpoiled c passed).pins = s.pins :=
  by simp [State.ownSpoiled]

@[simp] theorem State.afterLeader_pending (s : State) (l : LeaderCard) (passed : Bool) : (s.afterLeader l passed).pending = s.pending :=
  by unfold State.afterLeader; (repeat' split) <;> simp
@[simp] theorem State.afterLeader_rb (s : State) (l : LeaderCard) (passed : Bool) : (s.afterLeader l passed).rb = s.rb :=
  by unfold State.afterLeader; (repeat' split) <;> simp
@[simp] theorem State.afterLeader_scan (s : State) (l : LeaderCard) (passed : Bool) : (s.afterLeader l passed).scan = s.scan :=
  by unfold State.afterLeader; (repeat' split) <;> simp
@[simp] theorem State.afterLeader_pins (s : State) (l : LeaderCard) (passed : Bool) : (s.afterLeader l passed).pins = s.pins :=
  by unfold State.afterLeader; (repeat' split) <;> simp

@[simp] theorem State.ownLeader_pending (s : State) (l : LeaderCard) (passed : Bool) : (s.ownLeader l passed).pending = s.pending :=
  by simp [State.ownLeader]
@[simp] theorem State.ownLeader_rb (s : State) (l : LeaderCard) (passed : Bool) : (s.ownLeader l passed).rb = s.rb :=
  by simp [State.ownLeader]
@[simp] theorem State.ownLeader_scan (s : State) (l : LeaderCard) (passed : Bool) : (s.ownLeader l passed).scan = s.scan :=
  by simp [State.ownLeader]
@[simp] theorem State.ownLeader_pins (s : State) (l : LeaderCard) (passed : Bool) : (s.ownLeader l passed).pins = s.pins :=
  by simp [State.ownLeader]

@[simp] theorem State.handCycle_pending (s : State) (cycle : Option Cycle) (passed : Bool) : (s.handCycle cycle passed).pending = s.pending :=
  by unfold State.handCycle; (repeat' split) <;> simp
@[simp] theorem State.handCycle_rb (s : State) (cycle : Option Cycle) (passed : Bool) : (s.handCycle cycle passed).rb = s.rb :=
  by unfold State.handCycle; (repeat' split) <;> simp
@[simp] theorem State.handCycle_scan (s : State) (cycle : Option Cycle) (passed : Bool) : (s.handCycle cycle passed).scan = s.scan :=
  by unfold State.handCycle; (repeat' split) <;> simp
@[simp] theorem State.handCycle_pins (s : State) (cycle : Option Cycle) (passed : Bool) : (s.handCycle cycle passed).pins = s.pins :=
  by unfold State.handCycle; (repeat' split) <;> simp

@[simp] theorem State.dwellEnd_pending (s : State) : s.dwellEnd.pending = s.pending :=
  by unfold State.dwellEnd; simp only []; (repeat' split) <;> simp_all []
@[simp] theorem State.dwellEnd_rb (s : State) : s.dwellEnd.rb = s.rb :=
  by unfold State.dwellEnd; simp only []; (repeat' split) <;> simp_all []
@[simp] theorem State.dwellEnd_scan (s : State) : s.dwellEnd.scan = s.scan :=
  by unfold State.dwellEnd; simp only []; (repeat' split) <;> simp_all []
@[simp] theorem State.dwellEnd_pins (s : State) : s.dwellEnd.pins = s.pins :=
  by unfold State.dwellEnd; simp only []; (repeat' split) <;> simp_all []

@[simp] theorem State.faultHalt_pending (s : State) : s.faultHalt.pending = s.pending := by simp [State.faultHalt]
@[simp] theorem State.faultHalt_rb (s : State) : s.faultHalt.rb = s.rb := by simp [State.faultHalt]
@[simp] theorem State.faultHalt_seq (s : State) : s.faultHalt.seq = s.seq := by simp [State.faultHalt]
@[simp] theorem State.faultHalt_frame (s : State) : s.faultHalt.frame = s.frame := by simp [State.faultHalt]
@[simp] theorem State.faultHalt_tables (s : State) : s.faultHalt.tables = s.tables := by simp [State.faultHalt]
@[simp] theorem State.faultHalt_scan (s : State) : s.faultHalt.scan = s.scan := by simp [State.faultHalt]
@[simp] theorem State.faultHalt_film (s : State) : s.faultHalt.film = s.film := by simp [State.faultHalt]
@[simp] theorem State.faultHalt_pins (s : State) : s.faultHalt.pins = s.pins := by simp [State.faultHalt]

end Sys2Proof.Machine
end

