-- ==== Sys2Proof/Laws/Shared.lean ====
section
/-! SUPPORT. What the shared operations leave in single registers: the gate and the run state after a change, the deck
reader's fields through a refresh, a result and the close of a run, the flush, and the attention causes. -/

namespace Sys2Proof.Machine

@[simp] theorem State.fetchOne_of_parked (s : State) (h : s.ring.cursor.state = .parked) : s.fetchOne = s := by
  simp [State.fetchOne, fetchReady, h]
@[simp] theorem State.fetch_of_parked (s : State) (h : s.ring.cursor.state = .parked) : s.fetch = s := by
  simp [State.fetch, h]
theorem State.flushParked_eq (s : State) : s.flushParked = s.setRing (s.ring.flushed s.ring.cursor.park) := by
  unfold State.flushParked; rw [State.fetch_of_parked]; rfl
@[simp] theorem State.updateGate_gateOpen (s : State) : s.updateGate.power.gateOpen = gateLaw s.scan.lock s.run.state := by
  unfold State.updateGate; dsimp only; split <;> rfl
@[simp] theorem State.updateGate_state (s : State) : s.updateGate.power.state = s.power.state := by
  unfold State.updateGate; dsimp only; split <;> rfl
@[simp] theorem State.updateGate_darkHaltPending (s : State) : s.updateGate.power.darkHaltPending = s.power.darkHaltPending := by
  unfold State.updateGate; dsimp only; split <;> rfl
@[simp] theorem State.enterRunState_run (s : State) (r) : (s.enterRunState r).run = { s.run with state := r } := by
  simp [State.enterRunState]
@[simp] theorem State.enterRunState_gateOpen (s : State) (r) : (s.enterRunState r).power.gateOpen = gateLaw s.scan.lock r := by
  simp [State.enterRunState]
@[simp] theorem State.enterRunState_state (s : State) (r) : (s.enterRunState r).power.state = s.power.state := by
  simp [State.enterRunState]
@[simp] theorem State.enterRunState_darkHaltPending (s : State) (r) : (s.enterRunState r).power.darkHaltPending = s.power.darkHaltPending := by
  simp [State.enterRunState]
@[simp] theorem State.changeRunState_run (s : State) (r) : (s.changeRunState r).run = { s.run with state := r } := by
  simp [State.changeRunState]
@[simp] theorem State.changeRunState_power (s : State) (r) : (s.changeRunState r).power = (s.enterRunState r).power := by
  simp [State.changeRunState]
theorem State.refresh_deck (s : State) : s.refresh.deck = { s.deck with generation := s.refresh.deck.generation } := by
  unfold State.refresh; split <;> rfl
@[simp] theorem State.refresh_taken (s : State) : s.refresh.deck.taken = s.deck.taken := by rw [State.refresh_deck]
@[simp] theorem State.refresh_seek (s : State) : s.refresh.deck.seek = s.deck.seek := by rw [State.refresh_deck]
@[simp] theorem State.refresh_headerRead (s : State) : s.refresh.deck.headerRead = s.deck.headerRead := by rw [State.refresh_deck]
@[simp] theorem State.refresh_pollTimer (s : State) : s.refresh.deck.pollTimer = s.deck.pollTimer := by rw [State.refresh_deck]
@[simp] theorem State.refresh_next (s : State) : s.refresh.deck.next = s.deck.next := by rw [State.refresh_deck]
@[simp] theorem State.refresh_snapshotEnabled (s : State) : s.refresh.deck.snapshotEnabled = s.deck.snapshotEnabled := by rw [State.refresh_deck]
theorem State.writeResult_deck (s : State) (i r) : (s.writeResult i r).deck = { s.deck with finishedCount := (s.writeResult i r).deck.finishedCount } := by
  unfold State.writeResult; (repeat' split) <;> rfl
@[simp] theorem State.writeResult_taken (s : State) (i r) : (s.writeResult i r).deck.taken = s.deck.taken := by rw [State.writeResult_deck]
@[simp] theorem State.writeResult_seek (s : State) (i r) : (s.writeResult i r).deck.seek = s.deck.seek := by rw [State.writeResult_deck]
@[simp] theorem State.writeResult_headerRead (s : State) (i r) : (s.writeResult i r).deck.headerRead = s.deck.headerRead := by rw [State.writeResult_deck]
@[simp] theorem State.writeResult_pollTimer (s : State) (i r) : (s.writeResult i r).deck.pollTimer = s.deck.pollTimer := by rw [State.writeResult_deck]
@[simp] theorem State.handResult_deck (s : State) (r) : (s.handResult r).deck = (s.writeResult s.seq.current.index r).deck := by
  simp [State.handResult]
@[simp] theorem State.closeCtx_ctx (s : State) : s.closeCtx.frame.ctx = none := by
  unfold State.closeCtx; split <;> simp_all [State.emptyCtx]
@[simp] theorem State.skipCards_taken (n i : Nat) (s : State) : (State.skipCards n i s).deck.taken = s.deck.taken := by
  induction n generalizing i s with | zero => rfl | succ n ih => simp [State.skipCards, ih]
@[simp] theorem State.skipCards_seek (n i : Nat) (s : State) : (State.skipCards n i s).deck.seek = s.deck.seek := by
  induction n generalizing i s with | zero => rfl | succ n ih => simp [State.skipCards, ih]
@[simp] theorem State.skipCards_headerRead (n i : Nat) (s : State) : (State.skipCards n i s).deck.headerRead = s.deck.headerRead := by
  induction n generalizing i s with | zero => rfl | succ n ih => simp [State.skipCards, ih]
@[simp] theorem State.skipCards_pollTimer (n i : Nat) (s : State) : (State.skipCards n i s).deck.pollTimer = s.deck.pollTimer := by
  induction n generalizing i s with | zero => rfl | succ n ih => simp [State.skipCards, ih]
@[simp] theorem State.endCurrent_ctx (s : State) : s.endCurrent.frame.ctx = none := by
  unfold State.endCurrent; split <;> simp
@[simp] theorem State.endCurrent_taken (s : State) : s.endCurrent.deck.taken = s.deck.taken := by unfold State.endCurrent; split <;> simp
@[simp] theorem State.endCurrent_seek (s : State) : s.endCurrent.deck.seek = s.deck.seek := by unfold State.endCurrent; split <;> simp
@[simp] theorem State.endCurrent_headerRead (s : State) : s.endCurrent.deck.headerRead = s.deck.headerRead := by unfold State.endCurrent; split <;> simp
@[simp] theorem State.endCurrent_pollTimer (s : State) : s.endCurrent.deck.pollTimer = s.deck.pollTimer := by unfold State.endCurrent; split <;> simp
@[simp] theorem State.endResults_ctx (s : State) : s.endResults.frame.ctx = none := by unfold State.endResults; split <;> simp
@[simp] theorem State.endResults_taken (s : State) : s.endResults.deck.taken = s.deck.taken := by unfold State.endResults; split <;> simp
@[simp] theorem State.endResults_seek (s : State) : s.endResults.deck.seek = s.deck.seek := by unfold State.endResults; split <;> simp
@[simp] theorem State.endResults_headerRead (s : State) : s.endResults.deck.headerRead = s.deck.headerRead := by unfold State.endResults; split <;> simp
@[simp] theorem State.endResults_pollTimer (s : State) : s.endResults.deck.pollTimer = s.deck.pollTimer := by unfold State.endResults; split <;> simp
@[simp] theorem State.returnDeck_taken (s : State) : s.returnDeck.deck.taken = none := by unfold State.returnDeck; split <;> simp_all
@[simp] theorem State.returnDeck_seek (s : State) : s.returnDeck.deck.seek = s.deck.seek := by unfold State.returnDeck; split <;> simp_all
@[simp] theorem State.returnDeck_headerRead (s : State) : s.returnDeck.deck.headerRead = s.deck.headerRead := by unfold State.returnDeck; split <;> simp_all
@[simp] theorem State.returnDeck_pollTimer (s : State) : s.returnDeck.deck.pollTimer = s.deck.pollTimer := by unfold State.returnDeck; split <;> simp_all
@[simp] theorem State.raise_enables (s : State) (c) : (s.raise c).regs.enables = s.regs.enables := rfl
@[simp] theorem State.raise_causes (s : State) (c) : (s.raise c).regs.causes = s.regs.causes ||| c.bit := rfl
@[simp] theorem State.returnDeck_enables (s : State) : s.returnDeck.regs.enables = s.regs.enables := by unfold State.returnDeck; split <;> simp_all
theorem State.returnDeck_raises (s : State) (h : s.deck.taken ≠ none) : s.returnDeck.regs.causes.getLsbD 0 = true := by
  unfold State.returnDeck; split <;> simp_all [Cause.bit]

/-! ## What whole operations do -/

@[simp] theorem State.updateGate_pwr (s : State) : s.updateGate.power.pwr = s.power.pwr := by
  unfold State.updateGate; dsimp only; split <;> rfl
@[simp] theorem State.updateGate_dark (s : State) : s.updateGate.power.dark = s.power.dark := by
  unfold State.updateGate; dsimp only; split <;> rfl
@[simp] theorem Power.halted_state (p : Power) (c) : (p.halted c).state = p.state := by cases c <;> rfl
@[simp] theorem Power.halted_pwr (p : Power) (c) : (p.halted c).pwr = p.pwr := by cases c <;> rfl
@[simp] theorem Power.halted_darkHaltPending (p : Power) (c) : (p.halted c).darkHaltPending = false := by cases c <;> rfl
theorem Power.halted_dark (p : Power) (c) : (p.halted c).dark = if c = .laserDark then .all 0 else p.dark := by
  cases c <;> rfl
@[simp] theorem State.stopSeekOfWaiting_taken (s : State) : s.stopSeekOfWaiting.deck.taken = s.deck.taken := by
  unfold State.stopSeekOfWaiting; split <;> rfl

/-- A halt that is taken, in the blocks that it touches. -/
theorem State.halt_taken (s : State) (c : HaltCause) (h : s.run.state.takesHalt = true) :
    (s.halt c).run = { haltRecord s c with state := .halted } ∧ (s.halt c).power.gateOpen = false ∧
    (s.halt c).power.state = s.power.state ∧ (s.halt c).power.pwr = s.power.pwr ∧
    (s.halt c).power.dark = (if c = .laserDark then .all 0 else s.power.dark) ∧
    (s.halt c).power.darkHaltPending = false ∧ (s.halt c).regs.causes = s.regs.causes ||| 8 ∧
    (s.halt c).deck.taken = s.deck.taken := by
  simp [State.halt, h, haltRecord, gateLaw, RunState.gateSet, Cause.bit, State.enterRunState, Power.halted_dark]

/-- A spoil, in the blocks that it touches but the ring. -/
theorem State.spoil_does (s : State) (c : FrameCtx) (cause : SpoilCause) :
    (s.spoil c cause).dp = s.dp.zeroOrder ∧ (s.spoil c cause).film = s.film.finish s.rb .spoiled ∧
    (s.spoil c cause).frame =
      { s.frame with ctx := some (c.spoiled cause (spoilLineOf c cause) s.run.stopPending) } := by
  simp only [State.spoil]; split <;> simp [State.zeroOrder, State.setCtx, State.flushToAttempt, State.flushParked]

/-- The close of a run, in the Datapath: a line that the context had pending is dropped. -/
theorem State.closeCtx_dp (s : State) :
    s.closeCtx.dp = match s.frame.ctx with | none => s.dp | some _ => { s.dp with pending := none } := by
  unfold State.closeCtx; split <;> simp_all [State.emptyCtx, State.dropPendingLine]

end Sys2Proof.Machine
end

