-- ==== Sys2Proof/WellFormed.lean ====
section
/-! DEFINITION. Which terms of `Instr` stand for a command or event that the outside can bring about as one row of the
opcode table. Meanings are total: they do not rest on these checks. -/

namespace Sys2Proof

/-- An answer carries a number of bytes that the read can have asked for. -/
def Answer.lengthIn (a : Answer) (ok : Nat → Bool) : Bool :=
  match a with
  | .good data => ok data.length
  | .error => true

/-- The same for a read that may have expired. -/
def ReadEnd.lengthIn (e : ReadEnd) (ok : Nat → Bool) : Bool :=
  match e with
  | .complete a => a.lengthIn ok
  | .expired => true

/-- Bytes of an image line: 4 for each of 16 to 4096 pixels, a multiple of 16 pixels (R28, R134). -/
def lineLength (n : Nat) : Bool := n % 64 == 0 && decide (64 ≤ n) && decide (n ≤ 16384)

/-- Bytes of a load read: 1 to 512, in whole words (R63, R66). -/
def loadLength (n : Nat) : Bool := n % 2 == 0 && decide (1 ≤ n) && decide (n ≤ 512)

/-- A term stands for the row of the table that its constructor names. An UNKNOWN_COMMAND's code names no command
(R158, R177); a REGISTER_WRITE is one that R179 ignores; read data have a length the read can have asked for. -/
def WellFormed : Instr → Bool
  | .start => true
  | .pause => true
  | .resume => true
  | .stop => true
  | .abort => true
  | .spinDown => true
  | .reset => true
  | .unknownCommand code => decodeCommand code == .unknownCommand code
  | .runaddrWrite _ _ => true
  | .attentionWrite _ => true
  | .registerWrite offset bytes value =>
    (bytes == 1 || bytes == 2 || bytes == 4) && decide (offset + bytes ≤ 32) &&
      decodeWrite offset bytes value == .registerWrite offset bytes value
  | .powerOn => true
  | .sosEvent => true
  | .indexEvent => true
  | .watchdogExpiry => true
  | .pixelWindowOpen => true
  | .pixelWindowEnd => true
  | .monitorWindowOpen => true
  | .monitorWindowEnd => true
  | .conversionCompletion _ => true
  | .frameLockWaitExpiry => true
  | .primingLockWaitExpiry => true
  | .settleLockTimeoutExpiry => true
  | .lineReadPart _ _ => true
  | .lineReadComplete _ answer => answer.lengthIn lineLength
  | .lineReadTimerExpiry _ => true
  | .loadReadComplete _ answer => answer.lengthIn loadLength
  | .loadReadExpiry _ => true
  | .runBlockReadEnd _ result => result.lengthIn fun n => n == 256
  | .headerReadEnd _ result => result.lengthIn fun n => n == 64
  | .cardReadEnd _ result => result.lengthIn fun n => n == 80
  | .pollTimerExpiry => true
  | .stepIssue => true
  | .settlingPeriodEnd => true
  | .dwellEnd => true
  | .perfEdge => true
  | .driverFault => true
  | .rasterPositionInterval => true
  | .motorReferenceToggle => true
  | .stepPulseEnd => true
  | .qualifiedLevelFall _ => true
  | .faultLevelClear => true

end Sys2Proof
end

