-- ==== Sys2Proof/Tests/Slice0.lean ====
section
/-! SUPPORT. Tests of the model against the spec's worked examples and tables, the well-formedness smoke tests, and a
witness for the hypotheses of every statement. Expected values are the spec's own. -/

namespace Sys2Proof.Tests

open Sys2Proof Sys2Proof.Machine

/-! ## Well-formedness: each check refuses an ill-formed term -/

theorem test_wf_known_command_code : WellFormed (.unknownCommand 3) = false := by decide
theorem test_wf_unknown_command_code : WellFormed (.unknownCommand 8) = true := by decide
theorem test_wf_write_that_is_not_ignored : WellFormed (.registerWrite 0x04 4 1) = false := by decide
theorem test_wf_write_of_three_bytes : WellFormed (.registerWrite 0x00 3 1) = false := by decide
theorem test_wf_write_past_the_window : WellFormed (.registerWrite 0x1F 2 1) = false := by decide
theorem test_wf_ignored_write : WellFormed (.registerWrite 0x0C 2 1) = true := by decide
theorem test_wf_line_length : WellFormed (.lineReadComplete 0 (.good [0, 0, 0, 0])) = false := by decide
theorem test_wf_load_length : WellFormed (.loadReadComplete 0 (.good [])) = false := by decide
theorem test_wf_run_block_length :
    WellFormed (.runBlockReadEnd 0 (.complete (.good [0, 1]))) = false := by decide
theorem test_wf_header_length :
    WellFormed (.headerReadEnd 0 (.complete (.good [1]))) = false := by decide
theorem test_wf_card_length :
    WellFormed (.cardReadEnd 0 (.complete (.good [0]))) = false := by decide

/-! ## Decoding -/

/-- No row of the opcode table gives bits. -/
theorem test_table_words_spell_nothing : decodeTableWord 32 1 = none := by decide
/-- The command codes of R177, written to CONTROL at 0x0C (R178); bits 31..8 are ignored (R179). -/
theorem test_control_codes :
    [1, 2, 3, 0xFFFFFF04, 5, 6, 7, 0x108].map (decodeWrite 0x0C 4) =
    [.start, .pause, .resume, .stop, .abort, .spinDown, .reset, .unknownCommand 8] := by decide
/-- A narrow write is no command (R179). -/
theorem test_narrow_write_is_no_command : decodeWrite 0x0C 2 1 = .registerWrite 0x0C 2 1 := by decide

/-! ## States that tests start from -/

/-- The state after a result; every meaning is a next state. -/
def after (r : Result) : State :=
  match r with
  | .next t => t
  | .fault _ => State.reset
  | .refused _ => State.reset

/-- The parameters of the worked examples of 05 section 5.10, 07 sections 7.10 and 7.11, and 01 section 1.9. -/
def sampleRb : RunBlock :=
  { version := 1, runNumber := 42, firstSerial := 7, spoilCapacity := 500, deckA := 0x10000, deckB := 0x20000,
    spoilList := 0x30000, height := 3112,
    polygon := { facets := 8, goodRevs := 2, period := 500000, tolerance := 200, window := 500, watchdog := 100000,
                 refdiv := 1000 },
    line := { divisor := 12, base := 2000, mgap := 400, mlen := 200 },
    high := 6, low := 2,
    power := { lref := .all 2000, tgt := .all 600, db := 4, step := 3, sstep := 20, lim := 100, n := 4, amax := 30,
               need := 3, haltOnLimit := 1 },
    film := { ms := 7780, mp := 3000, stepPeriod := 8000, dwell := 40, perfs := 4, edgeEnable := 1, eb := 40, eo := 100,
              startCounter := 1000, frames := 500, lowThreshold := 20 },
    readLimit := 10, pollInterval := 5, lockTimeout := 50 }

/-- A machine in a run state, with a run block and the lock STOPPED. -/
def inState (r : RunState) : State := { State.reset with rb := sampleRb, run := { RunCtl.reset with state := r } }

/-- A polygon at speed: facet 3 in the beam, its average 62,500, and the SOS after `i` ticks due now. -/
def atSpeed (l : LockState) (i : Nat) : ScanTiming :=
  { ScanTiming.reset with
    running := true, lock := l, facet := 3, interval := 1048575 - i, intervalValid := true, watchdog := some 1
    averages := List.replicate 8 62500 ++ List.replicate 8 0 }

/-- RUNNING with deck A taken, the polygon locked and the gate open. -/
def lockedRun (i : Nat) : State :=
  { inState .running with
    scan := atSpeed .locked i, power := { Power.reset with gateOpen := true },
    deck := { DeckReader.reset with taken := some .a, next := .b, cardCount := 5 } }

/-- The FRAME card of 01 section 1.9. -/
def sampleCard : FrameCard :=
  { stock := 1, retakes := 1, holdAfter := false, noEdge := false, tag := 0x2A11, image := 0x40000, stride := 16384,
    width := 4096, height := 3112, x0 := 0, y0 := 0 }

/-- Its context, EXPOSING at raster line r. -/
def exposing (r : Nat) : FrameCtx :=
  { FrameCtx.loaded 7 3 sampleCard with
    state := .exposing, r := r, position := some 1187, attemptsExposed := 1, firstFilm := some 1187,
    minOccupancy := 6 }

/-- A slot of that attempt. -/
def sampleSlot (id line : Nat) (st : SlotState) (tag : SlotTag) : Slot :=
  { readId := id, state := st, owner := (exposing 0).attemptId, line := line, tag := tag, words := 4096,
    data := [0x3FF00000] }

/-- The current record of a card that was dispatched. -/
def dispatched (b : CardBody) : CardRecord :=
  { state := .present, serial := 7, index := 3, read := none, outcome := .good b, finished := false, entered := true,
    acted := true }

/-- RUNNING with the FRAME card current and EXPOSING at raster line r. -/
def exposingRun (i r : Nat) (slots : List Slot) : State :=
  { lockedRun i with
    seq := { nextIndex := 4, current := dispatched (.frame sampleCard), lookahead := .emptied }
    frame := { FrameExposure.reset with ctx := some (exposing r) }
    ring := { LineRing.reset with slots := slots }
    film := { Film.reset with
      state := .scanning, counter := 1187, magazine := 313, scanRequested := 3010, scanIssued := 3010
      cycle := some { forFrame := true, kind := .good, position := 1187, edgeOn := true } } }

/-! ## Exposure arithmetic (02, sections 2.3 and 2.7) -/

/-- A shading table with the red knots 7, 8, 31 and 32 given. -/
def shadeWith (k7 k8 k31 k32 : Int) : TableStore :=
  { TableStore.reset with
    active := (TableStore.reset.active).put .shade
      { valid := true
        words := List.replicate 7 0 ++ [BitVec.ofInt 16 k7, BitVec.ofInt 16 k8] ++ List.replicate 22 0 ++
          [BitVec.ofInt 16 k31, BitVec.ofInt 16 k32] ++ List.replicate 67 0 } }

/-- Cases 1 and 2: position 1000 between knots 12 and 20, and between 20 and 12. -/
theorem test_shading_rounds_down :
    (shading (shadeWith 12 20 0 0) .red 1000, shading (shadeWith 20 12 0 0) .red 1000) = (18, 13) := by decide
/-- Case 5: position 4095 meets knot 32. -/
theorem test_shading_last_zone :
    (shading (shadeWith 0 0 40 (-40)) .red 4095, shading (shadeWith 0 0 40 120) .red 4095) = (-40, 119) := by decide
/-- Cases 1, 3 and 4 of the limit: 1860 is no clamp, 4134 a high one; exactly 0 and 4095 are none (R36). -/
theorem test_clamp_counts :
    [1860, 4134, 0, 4095, -1].map (fun l => (limitLog l, (Clamp.counted { low := 0, high := 0 } l))) =
      [(1860, { low := 0, high := 0 }), (4095, { low := 0, high := 1 }), (0, { low := 0, high := 0 }),
       (4095, { low := 0, high := 0 }), (0, { low := 1, high := 0 })] := by decide
/-- The bits of a pixel word (R28): red 29..20, green 19..10, blue 9..0, the two top bits ignored. -/
theorem test_code_values :
    (codeValue 0xFFF00801 .red, codeValue 0xFFF00801 .green, codeValue 0xFFF00801 .blue) = (1023, 2, 1) := by decide

/-! ## Scan timing (05, section 5.10) -/

/-- The averages of the four rows: 62,530, 62,470 and 62,540 in turn, then a violation at 63,100. -/
theorem test_facet_averages :
    (smoothed 62500 62530, smoothed 62501 62470, smoothed 62499 62540, smoothed 62500 62470) =
      (62501, 62499, 62501, 62498) ∧ violates 62501 63100 500 = true := by decide
/-- Windows of a line on facet 5 with trim +12: it opens at 2,012. -/
theorem test_window_offset :
    windowOffset { State.reset with
      rb := sampleRb, scan := { ScanTiming.reset with facet := 5 }
      tables.active.facet := { valid := true, words := [0, 1, 2, 3, 4, 12, 0, 0, 0, 0, 0, 0, 0, 0, 0, 0] } } = 2012 := by
  decide
/-- The least offset is 16 ticks (R92). -/
theorem test_window_offset_least :
    windowOffset { State.reset with
      rb := { sampleRb with line := { sampleRb.line with base := 3 } }
      tables.active.facet := { valid := true, words := List.replicate 16 (BitVec.ofInt 16 (-7)) } } = 16 := by decide
/-- The fit condition of the example holds, and fails when the divisor grows to 15 (R95). -/
theorem test_fit :
    sampleRb.fits = true ∧ ({ sampleRb with line := { sampleRb.line with divisor := 15 } } : RunBlock).fits = false := by
  decide
/-- A spurious index at facet 4 in LOCKED is a slip: LOCKING, facet 0, averages cleared, no line. -/
theorem test_spurious_index :
    let t := after (execSosEvent { lockedRun 62500 with
      scan := { atSpeed .locked 62500 with facet := 4, indexPending := true, rev := some .fresh } })
    (t.scan.lock, t.scan.facet, t.scan.averages, t.scan.window, t.power.gateOpen) =
      (.locking, 0, List.replicate 16 0, .none, false) := by decide
/-- An interval of exactly WIN from the average is no violation, and of WIN + 1 is one (R85). -/
theorem test_violation_boundary : violates 62500 63000 500 = false ∧ violates 62500 63001 500 = true := by decide
/-- SOS, index and watchdog events of a stopped reference change nothing but levels (R79). -/
theorem test_sos_discarded : (after (execSosEvent (inState .idle))).scan.lock = .stopped := by decide

/-! ## Power (06) -/

/-- The settle moves by SSTEP = 20 outside the band 596..604, and the regulation by STEP = 3 (R103, R108). -/
theorem test_power_steps :
    (settlePwr sampleRb.power .red 595 10, settlePwr sampleRb.power .red 596 10, settlePwr sampleRb.power .red 605 10) =
      (30, 10, -10) ∧
    (steppedPwr sampleRb.power .red 595 10, steppedPwr sampleRb.power .red 604 10, steppedPwr sampleRb.power .red 605 10) =
      (13, 10, 7) := by decide
/-- A settle reading of 0 is out of band for every target and steps up, also where TGT = 40 lies within DB = 63 of it,
while a reading of 1 there is in band (R108; log entry 33). -/
theorem test_settle_dark_reading :
    let f : PowerFields := { sampleRb.power with tgt := .all 40, db := 63 }
    [0, 1].map (fun m => (inBand f .red m, settlePwr f .red m 10)) = [(false, 30), (true, 10)] := by decide
/-- A value stepped past LIM is cut; one that lies exactly at LIM is not (R103). -/
theorem test_limit : (limitPwr 100 101, limitPwr 100 100, limitPwr 100 (-103)) = (100, 100, -100) := by decide

/-! ## Film (07, sections 7.10 and 7.11) -/

/-- Ms = 7780 over H = 3112 gives 2, 3, 2, 3; Ms = 7100 over H = 3000 the listed eleven. -/
theorem test_scan_steps :
    (List.range 4).map (stepsOf sampleRb) = [2, 3, 2, 3] ∧
    (List.range 11).map
      (stepsOf { sampleRb with height := 3000, film := { sampleRb.film with ms := 7100 } }) =
      [2, 2, 3, 2, 2, 3, 2, 2, 3, 2, 3] := by decide
/-- The edge code of position 1187, run 42, SPOILED, bit by bit. -/
theorem test_edge_code :
    (List.range 44).map (fun k => ((edgeCodeOf 1187 42 1).getLsbD k).toNat) =
      [1, 0, 1, 0] ++ [1, 1, 0, 0, 0, 1, 0, 1, 0, 0, 1] ++ List.replicate 13 0 ++ [0, 1, 0, 1, 0, 1] ++
        List.replicate 6 0 ++ [1, 0] ++ [1, 0] := by decide
/-- The underrun at raster line 1204: 4770 steps owed, kind SPOILED, the cursor of a retake at line 0 of attempt 2,
and 1 as the least occupancy (R13, R19, R20). -/
theorem test_underrun :
    let t := after (execSosEvent (exposingRun 62500 1204 [sampleSlot 9 1204 .filling .none]))
    (t.film.state, t.film.owed, t.film.cycle.map Cycle.kind, t.ring.slots.map Slot.line, t.ring.cursor.owner.attempt,
      t.frame.ctx.map FrameCtx.spoilLine) = (.catchup, 4770, some .spoiled, [0, 1], 2, some 1204) ∧
      t.frame.ctx.map FrameCtx.minOccupancy = some 1 := by decide
/-- The LED is lit from pull-down step 100, where bit 0 is presented, and dark from step 1860. -/
theorem test_led :
    let f (p : Nat) : Film := { Film.reset with
      state := .pulling, pullIssued := p, edgeCode := edgeCodeOf 1187 42 1
      cycle := some { forFrame := true, kind := .spoiled, position := 1187, edgeOn := true } }
    [99, 100, 139, 140, 1860].map (fun p => ledLaw (f p) 100 40) = [false, true, true, false, false] := by decide
/-- A dwell end with four perf edges counts the position; one with three makes the transport FAULTED. -/
theorem test_dwell_end :
    let s (p : Nat) : State := { inState .idle with
      film := { Film.reset with
        state := .dwell, perfCount := p, counter := 1188, magazine := 10
        cycle := some { forFrame := true, kind := .good, position := 1188, edgeOn := true } } }
    [4, 3].map (fun p => ((after (execDwellEnd (s p))).film.state, (after (execDwellEnd (s p))).film.counter)) =
      [(.still, 1189), (.faulted, 1189)] := by decide

/-! ## Tables (04, section 4.8) -/

/-- The facet image of the example. -/
def facetImage (w9 : BitVec 16) : List (BitVec 16) :=
  [0, 12, 65529, 3, 65516, 5, 0, 0, 0, w9, 0, 0, 0, 0, 0, 0]

theorem test_facet_image_passes : tableChecks .facet (facetImage 0) 131065 false = (.none, none) := by decide
theorem test_facet_image_range : tableChecks .facet (facetImage 1500) 132565 false = (.range, some 9) := by decide
/-- A failed read is reported before a wrong sum (R67). -/
theorem test_facet_image_order :
    (tableChecks .facet (facetImage 0) 1 true, tableChecks .facet (facetImage 0) 1 false) =
      ((.readError, none), (.sum, none)) := by decide
/-- Reads of an image: DRIVE 48, a curve 13 with a last one of 8 bytes, SHADE one of 200, FACET one of 32 (R66). -/
theorem test_image_reads :
    (imageReads .drive, imageReads .curve0, readBytesOf .curve0 12, readBytesOf .shade 0, readBytesOf .facet 0) =
      (48, 13, 8, 200, 32) := by decide

/-! ## Registers and reset (10, 11) -/

/-- IDENT and STATE after power-on; STATE with HALTED, TRANSPORT and film counter 1023 (R179). -/
theorem test_register_reads :
    (readRegister State.reset 0, readRegister State.reset 0x10,
      readRegister { inState .halted with
        run := { RunCtl.reset with state := .halted, haltCause := .transport }
        film := { Film.reset with counter := 1023 } } 0x10) = (0x5A010154, 0, 0xFFC0006D) := by decide
/-- An ATTENTION write clears SPOIL and enables HALT, which asserts the line (R171). -/
theorem test_attention :
    let t := after (execAttentionWrite 0x00080002
      { State.reset with regs := { RegWindow.reset with causes := 0x0A } })
    (t.regs.causes, t.regs.enables, t.regs.irq) = (8, 8, true) := by decide
/-- START in IDLE reads the run block at RUNADDR with its low six bits as 0 (R145). -/
theorem test_start_reads_run_block :
    (after (execStart { State.reset with regs := { RegWindow.reset with runaddrLo := 0x1234567F } })).bus =
      [.read 0 0x12345640 256] := by decide
/-- The first failing check gives the start fault: version before range (R159). -/
theorem test_start_fault_order :
    (startFaultOf sampleRb false, startFaultOf sampleRb true, startFaultOf { sampleRb with version := 2, height := 1 } false,
      startFaultOf { sampleRb with height := 15 } false) = (.none, .transport, .version, .rasterRange) := by decide
/-- Byte order: little-endian, signed fields in two's complement (R172). -/
theorem test_byte_order : toLE 4 0x12345678 = [0x78, 0x56, 0x34, 0x12] ∧ toLESigned 2 (-7) = [0xF9, 0xFF] := by decide

/-! ## Witnesses: a concrete state for the hypotheses of each statement, clause by clause -/

/-- A state with a command in front of its queue. -/
def queued (s : State) (c : Instr) : State := { s with pending := [c] }

/-- The lawful machine that the invariants' witnesses step from: RUNNING, LOCKED, the gate open, causes set. -/
def lawful : State :=
  { lockedRun 62500 with
    regs := { RegWindow.reset with causes := 3, enables := 2, irq := true }
    power := { Power.reset with gateOpen := true, pwr := { r := 100, g := -100, b := 0 }, dark := .all 2 }
    ring := { LineRing.reset with slots := [sampleSlot 1 0 .ready .none] }
    film := { Film.reset with perfCount := 255, state := .pulling }, frame.entriesWritten := 500 }

theorem witness_step : (queued lawful .perfEdge).pending = [.perfEdge] := rfl
theorem witness_idle_step : State.reset.pending = [] ∧ due State.reset = [] := ⟨rfl, by decide⟩
theorem witness_idle_step_due : due { lawful with scan.watchdog := some 0 } = [.watchdogExpiry] := by decide
/-- An SOS and the watchdog's expiry due at the same tick: the SOS is taken first and reloads the watchdog, which then
does not expire (R81). -/
theorem test_sos_before_watchdog :
    let s : State := { lawful with scan := { lawful.scan with sosRun := 4, watchdog := some 0 } }
    due s = [.sosEvent, .watchdogExpiry] ∧ s.idleStep.pending = [.sosEvent] ∧
      due (after (step s.idleStep)) = [] ∧ (after (step s.idleStep)).scan.watchdog = some 100000 := by decide
theorem witness_run_block_kept : exec .pause State.reset = .next (State.reset.answer .refused) := rfl
theorem witness_not_locked : (inState .idle).scan.lock ≠ .locked ∧ (inState .idle).pending.head? ≠ some .sosEvent ∧
    (queued (inState .idle) .indexEvent).pending.head? ≠ some .sosEvent := by decide
theorem witness_film_counter : (queued lawful .perfEdge).pending.head? ≠ some .dwellEnd ∧
    (queued lawful .perfEdge).pending.head? ≠ some .settlingPeriodEnd ∧
    (queued lawful .perfEdge).pending.head? ≠ some .powerOn ∧
    ∀ id r, (queued lawful .perfEdge).pending.head? ≠ some (.runBlockReadEnd id r) :=
  ⟨by decide, by decide, by decide, fun _ _ h => nomatch h⟩
theorem witness_gate_law : GateLawful lawful ∧ lawful.power.gateOpen = true := ⟨rfl, rfl⟩
theorem witness_interrupt_law : IrqLawful lawful ∧ lawful.regs.irq = true := ⟨rfl, rfl⟩
theorem witness_read_bounds : RingBounded lawful ∧ LoadsBounded lawful :=
  ⟨⟨by decide, by decide, by decide⟩, show lawful.tables.reads.length ≤ 4 by decide⟩
theorem witness_offsets : OffsetsLimited lawful := fun ch => by cases ch <;> decide
theorem witness_scan_laws : ReferenceLawful lawful ∧ WindowsLawful { lawful with scan.window := .pixel } :=
  ⟨fun h => absurd h (by decide), fun _ => rfl⟩
theorem witness_drive_law : DriveLawful { lawful with dp := { Datapath.reset with
    mode := .monitor, monitorChannel := some .green, drive := { r := 0, g := 9, b := 0 } } } :=
  ⟨fun _ h => absurd rfl h, fun _ ch h => by cases ch <;> first | rfl | exact absurd rfl h⟩
theorem witness_counters : SpoilListBounded lawful ∧ DarkCountsBounded lawful ∧ PerfCountBounded lawful :=
  ⟨show (500 : Nat) ≤ 500 by decide, fun ch => by cases ch <;> decide, show (255 : Nat) ≤ 255 by decide⟩
theorem witness_idle_quiet : SnapshotOffInIdle State.reset ∧ ContextLawful State.reset := ⟨fun _ => rfl, fun _ => rfl⟩
theorem witness_step_answers : (match step (queued lawful .perfEdge) with | .next _ => true | _ => false) = true := by
  decide

/-! ### Commands -/

theorem witness_accepted : accepts RunState.halted .lockTimeout .resume = true ∧
    accepts RunState.halted .transport .resume = false ∧ isCommand (.unknownCommand 9) = true := by decide
theorem witness_start : GateLawful State.reset ∧ State.reset.run.state = .idle ∧
    State.reset.deck.snapshotEnabled = false := ⟨rfl, rfl, rfl⟩
theorem witness_pause : GateLawful (exposingRun 62500 0 []) ∧ cardCurrent (exposingRun 62500 0 []) = true ∧
    GateLawful lawful ∧ cardCurrent lawful = false ∧ GateLawful (inState .waiting) := ⟨rfl, rfl, rfl, rfl, rfl⟩
theorem witness_resume : GateLawful (inState .held) ∧ (inState .held).deck.taken = none := ⟨rfl, rfl⟩
/-- A machine HALTED on a cause, with its resume point; the gate is CLOSED. -/
def haltedOn (h : HaltCause) (p : ResumePoint) (s : State) : State :=
  { s with
    run := { RunCtl.reset with state := .halted, haltCause := h, resume := p, stage := 5 }, power.gateOpen := false }
/-- HALTED on a lock timeout at PRIMING stage 5. -/
def lockHalted : State := haltedOn .lockTimeout (.priming 5) (inState .halted)
/-- Every resume point of PRIMING, and WAITING, with each lock state, regulator state and DRIVE copy. -/
theorem witness_resume_points (p : ResumePoint) (l : LockState) (g : RegulatorState) (v : Bool) :
    let s : State := { haltedOn .lockTimeout p lockHalted with
      scan.lock := l, power.state := g, tables.active.drive.valid := v }
    GateLawful s ∧ s.run.state = .halted ∧ accepts .halted s.run.haltCause .resume = true ∧ s.run.resume = p ∧
      s.scan.lock = l ∧ s.power.state = g ∧ s.tables.active.drive.valid = v := by
  refine ⟨?_, rfl, rfl, rfl, rfl, rfl, rfl⟩
  cases l <;> rfl
/-- A card dispatched to its owner, in a run whose gate stands at its law; the film is STILL. -/
def workingOn (r : RunCtl) (b : CardBody) : State :=
  { exposingRun 62500 5 [] with
    run := r, power := { Power.reset with gateOpen := gateLaw .locked r.state }
    seq := { nextIndex := 4, current := dispatched b, lookahead := .emptied }
    film := { Film.reset with leader := some { count := 9, noEdge := false, completed := 2 } } }
theorem witness_working (r : RunCtl) (b : CardBody) :
    working (workingOn r b) b ∧ GateLawful (workingOn r b) ∧ (workingOn r b).deck.taken = some .a ∧
      (workingOn r b).run = r ∧ cardCurrent (workingOn r b) = true :=
  ⟨⟨rfl, rfl, rfl, rfl, rfl⟩, rfl, rfl, rfl, rfl⟩
/-- HELD, or HALTED with RUNNING as the resume point, over a frame PREPARING or CLOSING with its retake pending. -/
theorem witness_resume_card :
    ∀ r ∈ [{ RunCtl.reset with state := .held },
           { RunCtl.reset with state := .halted, haltCause := .laserDark, resume := .running }],
    ∀ c ∈ [{ exposing 5 with state := .preparing }, { exposing 5 with state := .closing, retakePending := true }],
    ∀ m ∈ [0, 1], ∀ g ∈ [RegulatorState.settling, .unsettled, .settled],
    let s : State := { workingOn r (.leader 9 false) with
      frame.ctx := some c, film := { (workingOn r .calibrate).film with magazine := m }, power.state := g }
    (s.run.state = .held ∧ s.deck.taken ≠ none ∨
      s.run.state = .halted ∧ accepts .halted s.run.haltCause .resume = true ∧ s.run.resume = .running) ∧
    (c.state = .preparing ∨ c.state = .closing ∧ c.retakePending = true) ∧ s.film.state = .still ∧
    s.film.leader.map (fun l => decide (l.completed < l.count)) = some true ∧ s.run.stopPending = false ∧
    s.power.darkHaltPending = false ∧ s.film.magazine = m ∧ s.power.state = g ∧
    s.deck.finishedCount ≤ s.seq.current.index ∧ s.tables.staged.drive.state ≠ .valid := by decide
/-- A card whose read failed, acted on or not, and one that is finished, with the tables that its attempt needs. -/
theorem witness_resume_read :
    let held : RunCtl := { RunCtl.reset with state := .held }
    ∀ a ∈ [true, false],
    let s : State := { workingOn held .hold with
      seq.current := { dispatched .hold with outcome := .readFailed, acted := a } }
    s.seq.current.state = .present ∧ s.seq.current.entered = true ∧ s.seq.current.finished = false ∧
      s.seq.current.acted = a ∧
      currentUnfinished { s with seq.current := { dispatched .hold with finished := true } } = false := by decide
/-- RESUME reads the failed card again as the card at index 3, without another next index (R137). -/
theorem test_resume_reads_again :
    let t := after (execResume { workingOn { RunCtl.reset with state := .held } .hold with
      seq.current := { dispatched .hold with outcome := .readFailed } })
    (t.bus, t.seq.nextIndex, t.seq.current.state) = ([.read 0 (0x10000 + 64 + 128 * 3) 80], 4, .reading) := by decide
theorem witness_exposing : (exposingRun 62500 5 []).run.state = .running ∧
    cardCurrent (exposingRun 62500 5 []) = true ∧
    (exposingRun 62500 5 []).seq.current.outcome = .good (.frame sampleCard) ∧
    (exposingRun 62500 5 []).frame.ctx = some (exposing 5) ∧ (exposing 5).state = .exposing :=
  ⟨rfl, rfl, rfl, rfl, rfl⟩
theorem witness_end : (inState .waiting).run.state = .waiting ∧ (inState .held).run.state = .held ∧
    lockHalted.run.state = .halted ∧ (inState .priming).run.state = .priming := ⟨rfl, rfl, rfl, rfl⟩
/-- A deck with two cards done, in which the card at index 3 is current and one more follows, halted on a failed settle. -/
def unfinished (b : CardBody) : State :=
  { exposingRun 62500 5 [] with
    run := { RunCtl.reset with state := .halted, haltCause := .settleFail }
    seq := { nextIndex := 4, current := dispatched b, lookahead := .emptied }
    deck := { DeckReader.reset with taken := some .a, next := .b, cardCount := 5, finishedCount := 3 }
    film.leader := some { count := 9, noEdge := false, completed := 2 } }
theorem witness_ending_card : (∀ b ∈ [CardBody.frame sampleCard, .leader 9 false, .calibrate, .table 6 0 0, .dump 6 0],
    (unfinished b).deck.taken = some .a ∧ (unfinished b).seq.current.state = .present ∧
    (unfinished b).seq.current.entered = true ∧ (unfinished b).seq.current.finished = false ∧
    (unfinished b).deck.finishedCount = (unfinished b).seq.current.index ∧
    (unfinished b).seq.nextIndex = (unfinished b).seq.current.index + 1 ∧
    (unfinished b).seq.nextIndex ≤ (unfinished b).deck.cardCount ∧ (unfinished b).film.leader.isSome = true ∧
    (unfinished b).frame.ctx = some (exposing 5)) ∧
    (unfinished .calibrate).run.haltCause = .settleFail ∧
    ({ unfinished .hold with seq.current.outcome := .readFailed } : State).seq.current.entered = true := by decide
theorem witness_ending_rest :
    let s : State := { unfinished .calibrate with
      seq := { nextIndex := 4, current := .emptied, lookahead := .emptied }, deck.finishedCount := 4 }
    currentUnfinished s = false ∧ s.deck.finishedCount = s.seq.nextIndex ∧ s.seq.nextIndex ≤ 4 ∧
      4 < s.deck.cardCount ∧ s.seq.current.index ≠ 4 ∧ s.seq.lookahead.index ≠ 4 := by decide
/-- ENDING writes each result and its finished count in increasing index order, and RETURNED last (R142, R153): cards 3
and 4 of a deck of 5, and the header's state word. -/
theorem test_ending_order : (unfinished .calibrate).endRun.bus.map (fun o => match o with
      | .write a bs => (a.toNat, bs.headD 0)
      | .read _ _ _ => (0, 0)) =
    [(0x10000 + 64 + 384 + 80, 12), (0x10008, 4), (0x10000 + 64 + 512 + 80, 5), (0x10008, 5), (0x10000, 3)] := by decide
/-- STOP and ABORT in RUNNING: a frame PREPARING, or CLOSING with either kind; a LEADER card with the film at rest or
moving; no card current. -/
theorem witness_stop_in_running :
    let s : State := workingOn { RunCtl.reset with state := .running } (.frame sampleCard)
    s.run.state = .running ∧ s.run.stopPending = false ∧ cardCurrent lawful = false ∧ lawful.run.state = .running ∧
    lawful.run.stopPending = false ∧ s.film.state = .still ∧ lawful.film.state = .pulling ∧
    ({ exposing 5 with state := .preparing } : FrameCtx).state = .preparing ∧
    (∀ k ∈ [CloseKind.good, .spoiled], ({ exposing 5 with state := .closing, closeKind := k } : FrameCtx).closeKind = k) := by
  decide
/-- ENDING gives a CALIBRATE card halted on SETTLE_FAIL its result, once a TRANSPORT halt replaced that cause SKIPPED
(R109, R142; log entry 31). -/
theorem test_calibrate_ends :
    (currentEndResult (unfinished .calibrate)).outcome = .settleFailed ∧
    (currentEndResult ((unfinished .calibrate).halt .transport)).outcome = .skipped := by decide
/-- The first body that ENDING writes after a STOP in RUNNING over a CALIBRATE card, and after an ABORT in PRIMING, shows
the run ENDING and the settle ended: byte 0 is the run state, byte 4 the power state (R166, R167, R176). -/
theorem test_settle_ends_before_ending :
    let s (r : RunCtl) : State := { workingOn r .calibrate with
      deck.snapshotEnabled := true, frame.ctx := none, film.leader := none
      power := { Power.reset with state := .settling, gateOpen := true } }
    let body (t : State) : List Byte := match t.bus[1]? with
      | some (BusOp.write _ bs) => bs.take 5
      | _ => []
    body (after (execStop (s { RunCtl.reset with state := .running }))) = [6, 0, 0, 3, 0] ∧
      body (after (execAbort (s { RunCtl.reset with state := .priming, stage := 6 }))) = [6, 0, 0, 3, 0] := by
  decide +kernel
theorem witness_spin_down : (inState .idle).scan.running = false ∧
    ∀ w ∈ [WindowStage.none, .pixelWait, .pixel, .monitor],
      let s : State := { inState .idle with scan := { atSpeed .locked 5 with window := w } }
      s.run.state = .idle ∧ s.scan.running = true ∧ s.frame.ctx = none ∧
        s.power.gateOpen = gateLaw s.scan.lock s.run.state := by decide
theorem witness_runaddr : (inState .idle).run.state = .idle ∧ (inState .held).run.state ≠ .idle := ⟨rfl, by decide⟩
theorem witness_snapshot : State.reset.deck.snapshotEnabled = false ∧ State.reset.scan.averages.length = 16 ∧
    ({ State.reset with deck.snapshotEnabled := true } : State).deck.snapshotEnabled = true := ⟨rfl, rfl, rfl⟩

/-! ### The scan -/

/-- The reference RUNNING with the lock in a state before LOCKED. -/
def spinning (l : LockState) (idx : Bool) : State :=
  { inState .priming with scan := { atSpeed l 62500 with indexPending := idx } }
theorem witness_sos_before_lock : WindowsLawful (spinning .stopped false) ∧ WindowsLawful (spinning .spinning true) ∧
    WindowsLawful (spinning .spinning false) ∧ (spinning .spinning true).scan.running = true ∧
    (inState .idle).scan.running = false ∧ WindowsLawful (inState .idle) :=
  ⟨fun h => absurd rfl h, fun h => absurd rfl h, fun h => absurd rfl h, rfl, rfl, fun h => absurd rfl h⟩
/-- An interval exactly WIN away from the average still fits. -/
theorem witness_sos_line : sosReady (lockedRun 63000) ∧ (lockedRun 63000).scan.lock = .locked ∧
    intervalFits (lockedRun 63000) ∧ midRevolution (lockedRun 63000) ∧ (lockedRun 63000).frame.ctx = none ∧
    (lockedRun 63000).power.state = .unsettled ∧ (lockedRun 63000).tables.active.facet.valid = false :=
  ⟨⟨rfl, rfl, rfl, rfl⟩, rfl, .inr (by decide), ⟨rfl, by decide⟩, rfl, rfl, rfl⟩
/-- An SOS at facet 3 after an interval i, with every average a (0 is unset). -/
def sosAfter (l : LockState) (i a : Nat) : State :=
  { lockedRun i with scan := { atSpeed l i with averages := List.replicate 16 a, rev := some .fresh } }
/-- In LOCKED and in LOCKING: an interval WIN away from its average, one a tick further, and an average that is unset. -/
theorem witness_sos_mid : ∀ l ∈ [LockState.locked, .locking],
    (∀ f ∈ [(63000, 62500), (63001, 62500), (61234, 0)], sosReady (sosAfter l f.1 f.2) ∧ midRevolution (sosAfter l f.1 f.2) ∧
      (sosAfter l f.1 f.2).scan.lock = l ∧ (sosAfter l f.1 f.2).power.state = .unsettled ∧
      (sosAfter l f.1 f.2).frame.ctx = none ∧ (sosAfter l f.1 f.2).scan.facet < 15) ∧
    intervalFits (sosAfter l 63000 62500) ∧ ¬intervalFits (sosAfter l 63001 62500) ∧ intervalFits (sosAfter l 61234 0) ∧
    departingAverage (sosAfter l 61234 0) = 0 := by
  unfold sosReady midRevolution intervalFits
  decide
/-- Frame Exposure does not heed a line with no card in the context, in CLOSING, and in PREPARING while the run is HELD, the
ring holds too few slots, one is not READY, or one holds a line of another attempt (R7, R14, R57). -/
theorem witness_line_unheeded :
    let p : FrameCtx := FrameCtx.loaded 7 3 sampleCard
    let s (r : RunState) (c : FrameCtx) (slots : List Slot) : State := { lockedRun 62500 with
      run.state := r, frame.ctx := some c, ring.slots := slots }
    let others (k : Nat) : List Slot := (List.range k).map fun i => sampleSlot i i .ready .none
    lineUnheeded (lockedRun 62500) ∧ lineUnheeded (s .running { exposing 5 with state := .closing } []) ∧
    lineUnheeded (s .held p (others 6)) ∧ lineUnheeded (s .running p (others 5)) ∧
    lineUnheeded (s .running p (sampleSlot 9 0 .filling .none :: others 5)) ∧
    lineUnheeded (s .running p ({ sampleSlot 9 0 .ready .none with owner := { tag := 0, serial := 0, index := 0, attempt := 0 } } ::
      others 5)) := by
  refine ⟨fun c h => (nomatch h), ?_, ?_, ?_, ?_, ?_⟩ <;> intro c h <;> cases h
  · exact .inl rfl
  · exact .inr ⟨rfl, .inl (by decide)⟩
  · exact .inr ⟨rfl, .inr (by unfold ringPrimed; decide)⟩
  · exact .inr ⟨rfl, .inr (by unfold ringPrimed; decide)⟩
  · exact .inr ⟨rfl, .inr (by unfold ringPrimed; decide)⟩
/-- In LOCKING an unset average is seeded by its facet's interval, and a violation only marks the record (R85, R87). -/
theorem test_average_is_seeded :
    let t := after (execSosEvent (sosAfter .locking 61234 0))
    let u := after (execSosEvent (sosAfter .locking 63001 62500))
    (t.scan.averages.getD 3 0, t.scan.lock, t.scan.rev) =
      (61234, .locking, some { sum := 61234, intervals := 1, bad := false }) ∧
    (u.scan.averages.getD 3 0, u.scan.lock, u.scan.rev) =
      (62500, .locking, some { sum := 63001, intervals := 1, bad := true }) := by decide
/-- SETTLED with the gate open: a cadence short of N, and one that reaches it. -/
theorem witness_sos_mark : ∀ k ∈ [2, 3],
    let s : State := { lockedRun 62500 with power := { Power.reset with
      gateOpen := true, state := .settled, cadence := k } }
    s.power.gateOpen = true ∧ s.power.state = .settled ∧ s.run.state = .running ∧
      (k = 2 → s.power.cadence + 1 < s.rb.power.n) ∧ (k = 3 → s.rb.power.n ≤ s.power.cadence + 1) := by decide
/-- A settle that waits or does not, and regulation, in each run state of the gate. -/
theorem witness_regulator_line : ∀ r ∈ [RunState.priming, .running, .waiting, .held], ∀ w ∈ [true, false],
    let s : State := { lockedRun 62500 with
      run.state := r
      power := { Power.reset with
        gateOpen := true, state := .settling
        settle := { channel := .green, attempts := 1, inBand := 0, waiting := w, used := .all 0 } } }
    s.power.gateOpen = gateLaw s.scan.lock r ∧ s.power.state = .settling ∧ s.power.settle.waiting = w ∧ s.frame.ctx = none ∧
      (r ≠ .priming → r = .running ∨ r = .waiting ∨ r = .held) := by decide
/-- A loss of LOCKED by a violation and by the watchdog makes a settle under way wait, under a new lock timeout of 50 units
of 0.5 s at 20 MHz, and leaves one that is SETTLED alone (R89, R110). -/
theorem test_settle_waits_at_loss : ∀ f ∈ [execSosEvent, execWatchdogExpiry],
    let s (g : RegulatorState) : State := { lockedRun 63001 with power := { Power.reset with gateOpen := true, state := g } }
    let t := after (f (s .settling))
    let u := after (f (s .settled))
    (t.power.state, t.power.settle.waiting, t.power.settleTimeout) = (.settling, true, some 500000000) ∧
      (u.power.state, u.power.settle.waiting, u.power.settleTimeout) = (.settled, false, none) := by
  intro f hf
  simp only [List.mem_cons, List.not_mem_nil, or_false] at hf
  rcases hf with rfl | rfl <;> decide
theorem witness_violation : sosReady (exposingRun 63001 5 []) ∧ midRevolution (exposingRun 63001 5 []) ∧
    departingAverage (exposingRun 63001 5 []) ≠ 0 ∧
    (exposingRun 63001 5 []).rb.polygon.window <
      ((sosInterval (exposingRun 63001 5 []) : Int) - departingAverage (exposingRun 63001 5 [])).natAbs ∧
    (lockedRun 63001).frame.ctx = none :=
  ⟨⟨rfl, rfl, rfl, rfl⟩, ⟨rfl, by decide⟩, by decide, by decide, rfl⟩
theorem witness_overlap : let s : State := { exposingRun 62500 5 [] with scan.window := .pixel }
    s.scan.running = true ∧ s.scan.sosLevel = false ∧ s.scan.intervalValid = true ∧ s.scan.lock = .locked ∧
      s.scan.window ≠ .none ∧ s.scan.indexPending = false ∧ s.scan.facet + 1 < s.rb.polygon.facets := by decide
theorem witness_overlap_intervals : intervalFits { exposingRun 62500 5 [] with scan.window := .pixel } ∧
    ¬intervalFits { exposingRun 63001 5 [] with scan.window := .pixel } := by
  unfold intervalFits
  decide
/-- A slip in LOCKED and in LOCKING: an index at facet 3, and a wrap at facet 7 without one. -/
theorem witness_slip : ∀ l ∈ [LockState.locked, .locking], ∀ f ∈ [(true, 3), (false, 7)],
    let s : State := { exposingRun 62500 5 [] with
      scan := { atSpeed l 62500 with indexPending := f.1, facet := f.2, rev := some .fresh } }
    s.scan.window = .none ∧ s.scan.rev = some .fresh ∧ s.scan.lock = l ∧
      ((s.scan.indexPending = true ∧ s.scan.facet + 1 < s.rb.polygon.facets) ∨
        (s.scan.indexPending = false ∧ s.scan.facet + 1 = s.rb.polygon.facets)) := by decide
/-- At the last facet with an index pending, and a record of 7 intervals. -/
def lastFacet (l : LockState) (n : Nat) (bad : Bool) : State :=
  { lockedRun 62500 with
    scan := { atSpeed l 62500 with
      facet := 7, indexPending := true, goodCount := n, averages := List.replicate 8 62500 ++ List.replicate 8 0
      rev := some { sum := 437500, intervals := 7, bad := bad } } }
theorem witness_revolution : ∀ n ∈ [0, 1], ∀ l ∈ [LockState.locking, .locked],
    sosReady (lastFacet l n false) ∧ intervalFits (lastFacet l n false) ∧ (lastFacet l n false).scan.lock = l ∧
    (lastFacet l n false).scan.facet + 1 = (lastFacet l n false).rb.polygon.facets ∧
    ((437500 + sosInterval (lastFacet l n false) : Nat) - ((lastFacet l n false).rb.polygon.period : Int)).natAbs ≤ 200 :=
  fun n _ l _ => by
    have hi : sosInterval (lastFacet l n false) = 62500 := Nat.sub_sub_self (n := 1048575) (m := 62500) (by decide)
    have hd : departingAverage (lastFacet l n false) = 62500 := rfl
    have hp : (lastFacet l n false).rb.polygon.period = 500000 := rfl
    have hw : (lastFacet l n false).rb.polygon.window = 500 := rfl
    refine ⟨⟨rfl, rfl, rfl, rfl⟩, ?_, rfl, rfl, ?_⟩
    · simp [intervalFits, hi, hd, hw]
    · rw [hi, hp]; decide
/-- A revolution whose sum is T to the tick, and whose last interval is a facet violation. -/
def lastViolation (l : LockState) : State :=
  { lastFacet l 1 false with
    scan := { (lastFacet l 1 false).scan with
      interval := 1048575 - 63001, rev := some { sum := 436999, intervals := 7, bad := false } } }
theorem witness_last_violation : ∀ l ∈ [LockState.locking, .locked], sosReady (lastViolation l) ∧
    ¬intervalFits (lastViolation l) ∧ (lastViolation l).scan.lock = l ∧
    ((436999 + sosInterval (lastViolation l) : Nat) - (500000 : Int)).natAbs ≤ 200 := by
  unfold sosReady intervalFits
  decide
/-- That revolution is bad: the count and the averages are cleared, and a third revolution is begun (R85, R87). -/
theorem test_last_violation :
    let t := after (execSosEvent (lastViolation .locking))
    (t.scan.lock, t.scan.goodCount, t.scan.averages, t.scan.rev) = (.locking, 0, List.replicate 16 0, some .fresh) := by
  decide
theorem witness_revolution_counts :
    (lastFacet .locking 1 false).scan.goodCount + 1 = (lastFacet .locking 1 false).rb.polygon.goodRevs ∧
    (lastFacet .locking 0 true).scan.goodCount + 1 ≠ (lastFacet .locking 0 true).rb.polygon.goodRevs := by decide
/-- The K-th good revolution in RUNNING, in PRIMING stage 5 with each DRIVE copy, and under a settle that waits. -/
theorem witness_lock_made : ∀ v ∈ [true, false],
    let s : State := { lastFacet .locking 1 false with
      run := { RunCtl.reset with state := .priming, stage := 5 }, tables.active.drive.valid := v }
    s.run.state = .priming ∧ s.run.stage = 5 ∧ s.frame.ctx = none ∧ s.tables.active.drive.valid = v ∧
      (lastFacet .locking 1 false).run.state = .running ∧ (lastFacet .locking 1 false).power.state = .unsettled ∧
      ({ lastFacet .locking 1 false with power.settle.waiting := true } : State).power.settle.waiting = true := by decide
/-- A card whose image lies in raster lines 10 to 19: raster lines 9 and 20 are blank, 10 and 19 are image lines. -/
def smallCard : FrameCard := { sampleCard with height := 10, y0 := 10 }
theorem witness_raster_line : ∀ r ∈ [9, 20, 10, 19],
    let c : FrameCtx := { exposing r with card := smallCard }
    ((r = 9 ∨ r = 20) → c.r < c.card.y0 ∨ c.card.y0 + c.card.height ≤ c.r) ∧
    ((r = 10 ∨ r = 19) → c.card.y0 ≤ c.r ∧ c.r < c.card.y0 + c.card.height) := by decide
theorem witness_heads : (sampleSlot 1 0 .ready .error).tag = .error ∧ (sampleSlot 1 0 .ready .timeout).tag = .timeout ∧
    (sampleSlot 1 0 .filling .none).state = .filling ∧ (sampleSlot 1 0 .ready .none).state = .ready := by decide
/-- RUNNING with the small card PREPARING, its ring primed with six lines. -/
def preparing : State :=
  { exposingRun 62500 0 [] with
    frame := { FrameExposure.reset with ctx := some { FrameCtx.loaded 7 3 smallCard with state := .preparing } }
    film := Film.reset
    ring := { LineRing.reset with
      slots := (List.range 6).map fun k => { sampleSlot k k .ready .none with
        owner := (FrameCtx.loaded 7 3 smallCard).attemptId } } }
theorem witness_starts_exposing : ringPrimed preparing { FrameCtx.loaded 7 3 smallCard with state := .preparing } ∧
    0 < smallCard.y0 ∧ preparing.film.state = .still ∧ sosReady preparing ∧ intervalFits preparing ∧
    midRevolution preparing :=
  ⟨by unfold ringPrimed; decide, by decide, rfl, ⟨rfl, rfl, rfl, rfl⟩, .inr (by decide), ⟨rfl, by decide⟩⟩
/-- A SETTLED regulator with a card EXPOSING, as R5 leaves every attempt: the third line of four, and the fourth. -/
theorem witness_settled_line : ∀ k ∈ [2, 3],
    let s : State := { exposingRun 62500 5 [] with power := { Power.reset with
      gateOpen := true, state := .settled, cadence := k } }
    s.scan.lock = .locked ∧ s.frame.ctx = some (exposing 5) ∧ s.power.gateOpen = true ∧ s.power.state = .settled ∧
      s.run.state = .running ∧ (k = 2 → s.power.cadence + 1 < s.rb.power.n) ∧
      (k = 3 → s.rb.power.n ≤ s.power.cadence + 1) := by decide
/-- A card whose image begins at raster line 0, PREPARING, its ring primed and its head slot with a tag or without. -/
def preparingTop (tag : SlotTag) : State :=
  { preparing with
    frame.ctx := some (FrameCtx.loaded 7 3 sampleCard)
    ring.slots := sampleSlot 0 0 .ready tag :: (List.range 5).map fun k => sampleSlot (k + 1) (k + 1) .ready .none }
theorem witness_starts_at_line_0 : ∀ tag ∈ [SlotTag.none, .error, .timeout],
    ringPrimed (preparingTop tag) (FrameCtx.loaded 7 3 sampleCard) ∧ sampleCard.y0 = 0 ∧ 0 < sampleCard.height ∧
    (preparingTop tag).film.state = .still ∧ 0 < (preparingTop tag).rb.film.ms := by
  unfold ringPrimed
  decide
theorem witness_index : lawful.scan.indexLevel = false ∧ lawful.scan.lock ≠ .stopped ∧
    (inState .idle).scan.running = false ∧ (spinning .stopped false).scan.lock = .stopped := ⟨rfl, by decide, rfl, rfl⟩
theorem witness_watchdog : ∀ w ∈ [WindowStage.none, .pixel, .monitor],
    let s : State := { lawful with scan.window := w }
    s.scan.watchdog ≠ none ∧ s.frame.ctx = none ∧ s.power.gateOpen = gateLaw s.scan.lock s.run.state := by decide
/-- The watchdog runs out with a card EXPOSING, CLOSING, or PREPARING with its lock wait expired or not (R81, R89). -/
theorem witness_watchdog_frame :
    ∀ c ∈ [exposing 5, { exposing 5 with state := .closing },
           { exposing 5 with state := .closing, haltAfter := .laserDark }, FrameCtx.loaded 7 3 sampleCard,
           { FrameCtx.loaded 7 3 sampleCard with lockWait := .expired }],
    let s : State := { exposingRun 62500 5 [] with frame.ctx := some c }
    s.scan.watchdog ≠ none ∧ s.scan.lock = .locked ∧ s.power.gateOpen = gateLaw s.scan.lock s.run.state ∧
      s.run.state = .running := by decide
theorem witness_levels :
    let s : State := { lawful with scan.sosLevel := true, scan.indexLevel := true, film.perfLevel := true,
                                   film.faultLevel := true }
    s.scan.running = true ∧ s.scan.sosLevel = true ∧ s.scan.indexLevel = true ∧ s.film.perfLevel = true ∧
      s.film.faultLevel = true ∧ lawful.film.perfLevel = false ∧ lawful.film.state = .pulling ∧
      (inState .idle).film.state = .still := by decide

/-! ### Windows and power -/

/-- Whole tables: every word of a curve, drive and shade image. -/
def wholeTables : TableStore :=
  { TableStore.reset with
    active := ((((TableStore.reset.active).put .curve1 { valid := true, words := List.replicate 3076 7 }).put .drive
      { valid := true, words := List.replicate 12288 9 }).put .shade { valid := true, words := List.replicate 100 1 }) }
theorem witness_tables : tablesWhole wholeTables 1 := by
  have h : ∀ a b c, tablesWhole { TableStore.reset with
      active := ((((TableStore.reset.active).put .curve1 { valid := true, words := List.replicate a 7 }).put .drive
        { valid := true, words := List.replicate b 9 }).put .shade { valid := true, words := List.replicate c 1 }) } 1 =
      (True ∧ a = 3076 ∧ True ∧ b = 12288 ∧ (True → c = 100)) := by
    intro a b c
    simp [tablesWhole, curveTarget, PerTarget.put, PerTarget.get]
  exact (h 3076 12288 100).mpr ⟨trivial, rfl, trivial, rfl, fun _ => rfl⟩
/-- An IMAGE window of a card with x0 = 100 and w = 16 over the sample slot. -/
def imageWindow (x : Nat) : State :=
  { exposingRun 62500 5 [sampleSlot 9 4 .inUse .none] with
    tables := wholeTables, scan := { atSpeed .locked 62500 with window := .pixel }
    dp := { Datapath.reset with mode := .image, lineSlot := some 9, curveSlot := 1, x0 := 100, w := 16, nextPosition := x } }
/-- Positions 100 and 115 lie inside the span, 99 and 116 outside; 4095 is the last. -/
theorem witness_positions : ∀ x ∈ [99, 100, 115, 116, 4094, 4095],
    (imageWindow x).scan.window = .pixel ∧ (imageWindow x).dp.nextPosition < 4096 ∧
    ((x = 100 ∨ x = 115) → (imageWindow x).dp.x0 ≤ x ∧ x < (imageWindow x).dp.x0 + (imageWindow x).dp.w) ∧
    (imageWindow x).ring.slots.head? = some (sampleSlot 9 4 .inUse .none) := by decide
theorem witness_pixel_windows : (imageWindow 0).dp.mode = .image ∧ (imageWindow 0).dp.lineSlot = some 9 ∧
    (imageWindow 0).frame.ctx = some (exposing 5) ∧ (exposing 5).r < sampleRb.height ∧
    sampleRb.height ≤ (exposing 3112).r ∧ (exposing 3112).state = .exposing := by decide
/-- An IMAGE window over the head of n + 1 slots, with the fetch switch OFF: n slots are left after the return. -/
def returning (n : Nat) : State :=
  { imageWindow 4095 with ring := { LineRing.reset with
      switchOn := false
      slots := sampleSlot 9 4 .inUse .none :: (List.range n).map fun k => sampleSlot (10 + k) (5 + k) .ready .none } }
theorem witness_returning : ∀ n ∈ [2, 3, 5, 6],
    let left := (returning n).ring.slots.filter fun x => x.readId != 9
    left.length = n ∧ (n = 2 → left.length ≤ sampleRb.low) ∧ (n = 3 ∨ n = 5 → sampleRb.low < n ∧ n < sampleRb.high) ∧
      (n = 6 → sampleRb.high ≤ left.length) := by decide
/-- The switch becomes ON at LOW = 2 and keeps its state OFF at 3 (R47). -/
theorem test_switch_at_low :
    [2, 3].map (fun n => (after (execPixelWindowEnd (returning n))).ring.switchOn) = [true, false] := by decide
theorem witness_window_opening : ∀ p ∈ [none, some LineSource.blank, some (LineSource.image 9)],
    let s : State := { imageWindow 0 with scan.window := .pixelWait, dp.pending := p }
    s.scan.window = .pixelWait ∧ s.dp.pending = p ∧ s.frame.ctx = some (exposing 5) := by decide
/-- A TRANSPORT halt keeps the card EXPOSING, and the next SOS sets a blank line; after the STOP no card is EXPOSING, and
the window is DARK (R26, R30). -/
theorem test_window_after_stop :
    let c : FrameCtx := { exposing 20 with card := smallCard }
    let s : State := { imageWindow 0 with
      run := { RunCtl.reset with state := .halted, haltCause := .transport }
      scan.window := .pixelWait, frame.ctx := some c, dp.pending := some .blank }
    (after (execPixelWindowOpen s)).dp.mode = .blank ∧
      (after (execPixelWindowOpen (after (execStop s)))).dp.mode = .dark := by decide
theorem witness_monitor :
    let s (w : WindowStage) : State := { imageWindow 0 with
      scan.window := w, dp.monitorRequest := some .blue
      power := { Power.reset with marked := some { channel := .blue, purpose := .settle, valid := true } } }
    (s .monitorWait).scan.window = .monitorWait ∧ (s .monitorWait).dp.monitorRequest = some .blue ∧
      (s .monitor).scan.window = .monitor ∧ (s .monitor).power.marked.isSome = true ∧
      State.reset.tables.active.drive.valid = false := by decide
/-- A conversion under way for red. -/
def converting (p : Purpose) (r : RegulatorState) (v : Bool) (run : RunState) : State :=
  { inState run with
    power := { Power.reset with
      state := r, pwr := .all 99, dark := .all 2
      conversion := some { sample := { channel := .red, purpose := p, valid := v }, reading := 0, timer := 0 } } }
theorem witness_regulate : (converting .regulate .settled true .running).power.conversion =
      some { sample := { channel := .red, purpose := .regulate, valid := true }, reading := 0, timer := 0 } ∧
    (converting .regulate .settled true .running).power.state = .settled := by decide
/-- From 99, a step of 3 is cut at LIM = 100 while the flag is clear; from 97 the same step is not cut. -/
theorem witness_regulate_cut : (99 : Int) + sampleRb.power.step > sampleRb.power.lim ∧
    (97 : Int) + sampleRb.power.step ≤ sampleRb.power.lim ∧
    (converting .regulate .settled true .running).power.limited.get .red = false := by decide
theorem witness_dark : (converting .regulate .settled true .running).power.dark.get .red = 2 ∧
    (converting .regulate .settled true .running).frame.ctx = none ∧
    (converting .regulate .settled true .running).film.state = .still ∧
    (converting .regulate .settled false .running).power.conversion.map (fun c => c.sample.valid) = some false ∧
    (converting .regulate .settled true .halted).run.state ≠ .running := by decide
theorem witness_dark_with_frame :
    let s : State := { exposingRun 62500 5 [] with
      power := { (converting .regulate .settled true .running).power with gateOpen := true } }
    s.run.state = .running ∧ s.power.state = .settled ∧ s.power.dark.get .red = 2 ∧ s.frame.ctx = some (exposing 5) ∧
      (exposing 5).state = .exposing ∧
      ({ converting .regulate .settled true .running with film.state := .pulling } : State).film.state ≠ .still := by decide
/-- The third dark reading of red halts the run, and the counts of green and blue restart from 0 with it (R106). -/
theorem test_dark_counts_restart :
    let t := after (execConversionCompletion 0 (converting .regulate .settled true .running))
    t.run.haltCause = .laserDark ∧ t.power.dark = .all 0 := by decide
/-- The third dark reading with a card PREPARING, or CLOSING with a halt after cycle or none, in each run state that
regulates. -/
def darkThird (r : RunState) (c : FrameCtx) : State :=
  { converting .regulate .settled true r with frame.ctx := some c }
theorem witness_dark_contexts : ∀ r ∈ [RunState.running, .waiting, .held],
    ∀ c ∈ [FrameCtx.loaded 7 3 sampleCard, { exposing 5 with state := .closing },
           { exposing 5 with state := .closing, haltAfter := .polygonLost }],
    (darkThird r c).power.state = .settled ∧ (darkThird r c).power.dark.get .red = 2 ∧ (darkThird r c).run.state = r ∧
      (c.state = .preparing ∨ c.state = .closing) := by decide
/-- PREPARING halts at once; CLOSING fills an empty halt after cycle and keeps one that stands (R8, R14). -/
theorem test_dark_contexts :
    let t (c : FrameCtx) : State := after (execConversionCompletion 0 (darkThird .running c))
    let closing (h : HaltAfter) : FrameCtx := { exposing 5 with state := .closing, haltAfter := h }
    (t (FrameCtx.loaded 7 3 sampleCard)).run.haltCause = .laserDark ∧
    [HaltAfter.none, .polygonLost].map (fun h => (t (closing h)).frame.ctx.map FrameCtx.haltAfter) =
      [some .laserDark, some .polygonLost] ∧ (t (closing .none)).run.state = .running := by decide
theorem witness_settle : (converting .settle .settling true .priming).power.state = .settling ∧
    (converting .settle .settling true .priming).power.settle.channel = .red ∧
    (0 : Nat) < sampleRb.power.need ∧ (0 : Nat) + 1 < sampleRb.power.amax ∧
    (converting .settle .settling true .priming).run.state.takesHalt = true := by decide
/-- The third in-band reading settles the channel; the thirtieth attempt fails it; blue ends stage 6. -/
theorem witness_settle_ends : sampleRb.power.need ≤ 2 + 1 ∧ sampleRb.power.amax ≤ 29 + 1 ∧
    ({ inState .priming with run.stage := 6 } : State).run.stage = 6 := by decide
theorem witness_settle_card :
    let s : State := { workingOn { RunCtl.reset with state := .running } .calibrate with
      power := { Power.reset with
        state := .settling, settle := { channel := .blue, attempts := 9, inBand := 2, waiting := false, used := .all 5 }
        conversion := some { sample := { channel := .blue, purpose := .settle, valid := true }, reading := 0, timer := 0 } } }
    s.power.state = .settling ∧ s.power.settle.channel = .blue ∧ s.run.state = .running ∧ cardCurrent s = true ∧
      s.seq.current.acted = true ∧ s.seq.current.outcome = .good .calibrate ∧ s.deck.taken = some .a ∧
      s.deck.finishedCount ≤ s.seq.current.index ∧ s.rb.power.need ≤ s.power.settle.inBand + 1 := by decide
theorem witness_halt : (inState .priming).run.state = .priming ∧ (inState .running).run.state = .running ∧
    (inState .halted).run.state = .halted ∧ (inState .idle).run.state = .idle := by decide
/-- A marked sample with its monitor window open or still to come, and the gate OPEN or CLOSED. -/
theorem witness_marked : ∀ w ∈ [WindowStage.monitor, .monitorWait], ∀ g ∈ [true, false],
    let s : State := { lawful with
      scan.window := w
      power := { lawful.power with gateOpen := g, marked := some { channel := .blue, purpose := .settle, valid := true } } }
    s.power.marked.isSome = true ∧ s.power.gateOpen = g ∧ s.scan.window = w ∧ s.run.state = .running := by decide
/-- A halt closes the gate, which voids the sample in its open monitor window, and not one that waits for it (R102). -/
theorem test_halt_voids_sample :
    [WindowStage.monitor, .monitorWait].map (fun w =>
      (({ lawful with
          scan.window := w
          power := { lawful.power with marked := some { channel := .blue, purpose := .settle, valid := true } } } :
        State).halt .transport).power.marked.map Sample.valid) = [some false, some true] := by decide
theorem witness_lock_waits :
    let s : State := { preparing with
      frame.ctx := some { exposing 0 with state := .preparing, lockWait := .running 0 }
      run.lockWait := some 0, power.settleTimeout := some 0 }
    s.run.lockWait ≠ none ∧ s.power.settleTimeout ≠ none ∧ s.frame.ctx.map FrameCtx.lockWait = some (.running 0) := by
  decide

/-! ### Reads -/

/-- One line read outstanding, linked or voided, with a cursor at line 3. -/
def fetching (linked err : Bool) : State :=
  { inState .running with
    ring := { slots := [sampleSlot 5 2 .filling .none], switchOn := true
              reads := [{ id := 5, linked := linked, parts := 1, errorSeen := err, timer := 9 }]
              cursor := { Cursor.reset with state := .active, width := 4096, height := 3112, next := 3 } }
    nextId := 6 }
theorem witness_fetch : (fetching true false).ring.switchOn = true ∧ (fetching true false).ring.reads.length < 2 ∧
    (fetching true false).ring.slots.length < (fetching true false).rb.high ∧
    (fetching true false).ring.cursor.state = .active ∧ (3 : Nat) + 1 < 3112 ∧
    State.reset.ring.cursor.state ≠ .active := by decide
/-- The cursor at the last line of the card in the context, with the next FRAME card PRESENT in the lookahead. -/
def crossing (c : CursorState) : State :=
  { exposingRun 62500 5 [] with
    seq := { nextIndex := 4, current := dispatched (.frame sampleCard)
             lookahead := { dispatched (.frame { sampleCard with tag := 9 }) with index := 4, entered := false } }
    ring := { LineRing.reset with
      cursor := { Cursor.pointed (exposing 5).attemptId sampleCard none with state := c, next := 3111 } } }
theorem witness_crossing (c : CursorState) : mayCross (crossing c) { sampleCard with tag := 9 } ∧
    (crossing c).ring.cursor.state = c ∧
    (crossing c).ring.cursor.height ≤ (crossing c).ring.cursor.next + 1 ∧ (crossing c).ring.switchOn = true ∧
    (crossing c).ring.slots.length < (crossing c).rb.high :=
  ⟨⟨⟨exposing 5, rfl, rfl, rfl, rfl⟩, rfl, rfl⟩, rfl, Nat.le_refl 3112, rfl, show (0 : Nat) < 6 by decide⟩
theorem witness_no_crossing (k : FrameCard) :
    ¬mayCross { crossing .active with seq.lookahead := .emptied } k := fun h => nomatch h.2.1
/-- The last line's request takes the cursor across to line 0 of the lookahead card's attempt 1; without that card it is
SPENT (R56). -/
theorem test_crossing :
    let c := (crossing .active).fetchOne.ring.cursor
    (c.state, c.owner.tag, c.owner.index, c.owner.attempt, c.next, c.crossedFrom.isSome) = (.active, 9, 4, 1, 0, true) ∧
    ({ crossing .active with seq.lookahead := .emptied } : State).fetchOne.ring.cursor.state = .spent := by decide
theorem witness_line_reads : ∀ l ∈ [true, false], ∀ e ∈ [true, false],
    (fetching l e).ring.entry 5 = some { id := 5, linked := l, parts := 1, errorSeen := e, timer := 9 } := by decide
/-- A FACET load of one read of 32 bytes, and a curve load in its middle. -/
def loading (t : Target) (issued ended : Nat) : State :=
  { inState .running with
    tables := { TableStore.reset with
      staged := (TableStore.reset.staged).put t { state := .loading, words := [] }
      load := some { target := t, serial := 7, index := 3, source := 0, expected := 0, issued := issued, ended := ended,
                     failed := false }
      reads := [{ id := 4, live := true, number := 0, bytes := 32, timer := 9 }] } }
theorem witness_load_reads : (loading .facet 1 0).tables.entry 4 =
      some { id := 4, live := true, number := 0, bytes := 32, timer := 9 } ∧ (0 : Nat) + 1 = 1 ∧ (1 : Nat) + 1 < 4 ∧
    (loading .curve0 4 1).tables.load.isSome = true ∧ (loading .facet 1 0).run.stopPending = false := by decide
theorem witness_table_checks : tableChecks .facet (facetImage 1500) 132565 false = (.range, some 9) ∧
    ((facetImage 0).map BitVec.toNat).sum % 2 ^ 32 = 131065 := by decide
/-- The last read of a FACET load ends well, with a STOP, a power-limit halt or a PAUSE pending, with nothing pending, and
in a halt: an image that passes the checks, and one that does not. -/
theorem witness_load_ends : ∀ sum ∈ [131065, 0],
    ∀ r ∈ [{ RunCtl.reset with state := .running, pausePending := true }, { RunCtl.reset with state := .running },
           { RunCtl.reset with state := .running, powerLimitPending := true },
           { RunCtl.reset with state := .running, stopPending := true }, { RunCtl.reset with state := .halted }],
    let s : State := { loading .facet 1 0 with
      run := r
      deck := { DeckReader.reset with taken := some .a, next := .b, cardCount := 5, finishedCount := 3 }
      seq := { nextIndex := 4, current := dispatched (.table 6 0 sum), lookahead := .emptied } }
    (bytes16 (facetImage 0)).length = 32 ∧ imageReads .facet = 1 ∧
      writeWords [] 0 (words16 (bytes16 (facetImage 0))) = facetImage 0 ∧
      ((tableChecks .facet (facetImage 0) sum false).1 ≠ .none ∨
        tableChecks .facet (facetImage 0) sum false = (.none, none)) ∧
      s.deck.taken = some .a ∧ s.deck.finishedCount ≤ s.seq.current.index ∧ s.run = r := by decide
/-- A load that had failed before its last read, which ends well, with an error or by its expiry. -/
theorem witness_failed_load :
    let s : State := { loading .facet 1 0 with
      tables.load := (loading .facet 1 0).tables.load.map fun l => { l with failed := true }
      deck := { DeckReader.reset with taken := some .a, next := .b, cardCount := 5, finishedCount := 3 }
      seq := { nextIndex := 4, current := dispatched (.table 6 0 0), lookahead := .emptied } }
    s.tables.load.map Load.failed = some true ∧ s.tables.load.map (fun l => l.ended + 1 == l.issued) = some true ∧
      s.deck.taken = some .a ∧ s.deck.finishedCount ≤ s.seq.current.index := by decide
/-- Staged copies of DRIVE and FACET, the first VALID, the second LOADING. -/
def swapping : State :=
  { converting .regulate .settled true .running with
    tables := { TableStore.reset with
      staged := ((TableStore.reset.staged).put .drive { state := .valid, words := [1, 2] }).put .facet
        { state := .loading, words := [3] } } }
theorem witness_swap : swapping.tables.staged.drive.state = .valid ∧
    (swapping.tables.staged.get .facet).state ≠ .valid ∧ State.reset.tables.staged.drive.state ≠ .valid := by decide
/-- A DUMP card current, with a dump of the FACET table or of a DRIVE table of zeros in progress. -/
def dumping (g : Target) (valid : Bool) : State :=
  { inState .running with
    run := { RunCtl.reset with state := .running, pausePending := true }
    deck := { DeckReader.reset with taken := some .a, next := .b, cardCount := 1 }
    seq := { nextIndex := 1, current := { dispatched (.dump 6 0x1000) with index := 0 }, lookahead := .emptied }
    tables := { TableStore.reset with
      active := (TableStore.reset.active).put g { valid := valid, words := facetImage 0 }
      dump := some { target := g, dest := 0x1000, issued := 0 } } }
theorem witness_dump : (facetImage 0).length = imageWords .facet ∧ targetOf 6 = some .facet ∧
    (dumping .facet true).pending = [] ∧ due (dumping .facet true) = [] ∧
    ((dumping .facet true).tables.active.get .facet).valid = true ∧
    ((dumping .facet false).tables.active.get .facet).valid = false ∧ imageReads .facet ≤ 0 + 1 ∧
    0 + 1 < imageReads .drive ∧ due (dumping .drive true) = [] ∧ (dumping .facet true).deck.finishedCount ≤ 0 := by decide
/-- The last write of a dump with nothing pending, a STOP or a power-limit halt pending, and in a halt. -/
theorem witness_dump_ends :
    ∀ r ∈ [{ RunCtl.reset with state := .running }, { RunCtl.reset with state := .running, stopPending := true },
           { RunCtl.reset with state := .running, powerLimitPending := true }, { RunCtl.reset with state := .halted }],
    let s : State := { dumping .facet true with run := r }
    s.pending = [] ∧ due s = [] ∧ s.deck.taken = some .a ∧ s.deck.finishedCount ≤ s.seq.current.index ∧ s.run = r ∧
      s.tables.dump.map (fun d => decide (imageReads d.target ≤ d.issued + 1)) = some true := by decide
/-- A dump of a FACET image is one write of 32 bytes, then the result, the finished count and the HELD of the PAUSE
(R74, R75); an ABORT before that write leaves it unissued (R75). -/
theorem test_dump : (dumping .facet true).idleStep.bus.head? = some (.write 0x1000 (bytes16 (facetImage 0))) ∧
    (dumping .facet true).idleStep.bus.length = 3 ∧ (dumping .facet true).idleStep.run.state = .held ∧
    (after (execAbort (dumping .facet true))).tables.dump = none ∧
    (after (execAbort (dumping .facet true))).bus.length = 3 := by decide
/-- A DUMP card of an INVALID copy, read again after a CARD_READ halt, whose next card is already PRESENT: that card
becomes current at once (R74, R135 step 4), here one whose read failed. -/
theorem test_dump_read_again :
    let s : State := { dumping .facet false with
      run := { RunCtl.reset with state := .running }
      deck.cardCount := 3
      seq := { nextIndex := 1
               current := { dispatched (.dump 6 0x1000) with index := 0, acted := false }
               lookahead := { CardRecord.emptied with state := .present, index := 1, outcome := .readFailed } } }
    s.actAnew.seq.nextIndex = 2 ∧ s.actAnew.seq.current.index = 1 ∧ s.actAnew.seq.current.entered = true ∧
      s.actAnew.run.haltCause = .cardRead := by decide
/-- PRIMING stage 1 with the run block read in flight. -/
def stageOne : State :=
  { inState .priming with deck.runBlockRead := some { id := 2, timer := 9, stageBefore := 5 }, nextId := 3 }
theorem witness_run_block : stageOne.run.state = .priming ∧ stageOne.run.stage = 1 ∧
    stageOne.deck.snapshotEnabled = false ∧ stageOne.deck.runBlockRead.isSome = true ∧
    (inState .halted).run.state ≠ .priming ∧ startFaultOf sampleRb false = .none := by decide
/-- The fields of a run block at their offsets (R174), from 0x00 to 0x6E, with 0 in the rest of its 256 bytes. -/
def runBlockBytes : List Byte :=
  [1, 42, 7, 500].flatMap (toLE 2) ++ [0x10000, 0x20000, 0x30000].flatMap (toLE 8) ++
  (toLE 2 3112 ++ [8, 2] ++ [500000, 200, 500, 100000].flatMap (toLE 4) ++ toLE 2 1000) ++
  ([12, 0] ++ [2000, 400, 200].flatMap (toLE 2) ++ [6, 2]) ++
  ([2000, 2000, 2000, 600, 600, 600].flatMap (toLE 2) ++ [4, 3, 20, 100, 4, 30, 3, 1]) ++
  ([7780, 3000, 8000].flatMap (toLE 2) ++ [40, 4, 1, 40] ++ toLE 2 100 ++ [1000, 500, 20].flatMap (toLE 4)) ++
  [10, 5, 50] ++ List.replicate 145 0
theorem witness_run_block_bytes : runBlockBytes.length = 256 ∧ parseRunBlock runBlockBytes = sampleRb := by decide +kernel
/-- START with the lock in every state, and with a line in its windows. -/
theorem witness_run_block_scan : ∀ l ∈ [LockState.stopped, .spinning, .locking, .locked], ∀ w ∈ [WindowStage.none, .pixel],
    let s : State := { stageOne with scan := { atSpeed l 5 with window := w } }
    s.deck.runBlockRead = some { id := 2, timer := 9, stageBefore := 5 } ∧ s.run.state = .priming ∧ s.run.stage = 1 ∧
      s.deck.snapshotEnabled = false ∧ s.film.faultLevel = false ∧ s.scan.lock = l ∧ s.scan.window = w := by decide
/-- A START over a polygon still locked: SPINNING at facet 0 with every average unset, the film at its start values (R96,
R113). -/
theorem test_start_values :
    let t := after (execRunBlockReadEnd 2 (.complete (.good runBlockBytes))
      { stageOne with scan := atSpeed .locked 5, film.good := 9 })
    (t.scan.lock, t.scan.facet, t.scan.averages, t.run.stage, t.film.counter, t.film.good) =
      (.spinning, 0, List.replicate 16 0, 5, 1000, 0) := by decide +kernel
theorem witness_start_checks : (startFaultOf { sampleRb with version := 2 } false).code = 2 ∧
    (startFaultOf { sampleRb with film := { sampleRb.film with startCounter := 16777215 } } false).code = 18 ∧
    (startFaultOf sampleRb true).code = 19 ∧ (∀ ok ∈ sampleRb.checks.map Prod.snd, ok = true) := by decide
/-- The first check fails, and the last alone. -/
theorem witness_first_to_fail : firstToFail (startChecks { sampleRb with version := 2 }) 0 ∧
    firstToFail (startChecks { sampleRb with film := { sampleRb.film with startCounter := 16777215 } }) 16 := by
  refine ⟨⟨nofun, _, rfl, by decide⟩, ⟨?_, _, rfl, by decide⟩⟩
  simp only [startChecks, List.take_succ_cons, List.take_zero, List.forall_mem_cons]
  and_intros <;> first | decide | (intro ch; cases ch <;> decide) | nofun
/-- WAITING with a header read in flight for a deck of serial 7. -/
def seeking (r : RunState) : State :=
  { inState r with deck := { DeckReader.reset with
      expectedSerial := 7, seek := .reading, headerRead := some { id := 2, timer := 9 }, pollTimer := some 0 } }
/-- The words of a header: state, serial and card count. -/
def headerBytes (st serial count : Nat) : List Byte :=
  toLE 4 st ++ toLE 2 serial ++ [byteOf count] ++ List.replicate 57 0
theorem witness_header : (seeking .waiting).deck.headerRead = some { id := 2, timer := 9 } ∧
    (seeking .waiting).deck.pollTimer ≠ none ∧ (headerBytes 1 7 1).length = 64 ∧
    parseHeader (headerBytes 1 7 1) = { state := 1, serial := 7, count := 1 } ∧
    parseHeader (headerBytes 1 8 1) = { state := 1, serial := 8, count := 1 } ∧
    parseHeader (headerBytes 3 7 1) = { state := 3, serial := 7, count := 1 } ∧
    (seeking .running).run.state = .running ∧ (seeking .held).run.state = .held := by decide
/-- RUNNING with the card at index 0 being read, and a lookahead read beside it. -/
def readingCard (r : RunState) : State :=
  { lockedRun 62500 with
    run.state := r
    seq := { nextIndex := 0
             current := { CardRecord.emptied with state := .reading, read := some { id := 8, timer := 9 } }
             lookahead := { CardRecord.emptied with state := .reading, index := 1, read := some { id := 9, timer := 9 } } } }
theorem witness_card : (readingCard .running).seq.current.read = some { id := 8, timer := 9 } ∧
    (readingCard .running).seq.lookahead.read = some { id := 9, timer := 9 } ∧
    (readingCard .running).seq.current.awaits 9 = false ∧ (readingCard .running).seq.current.entered = false ∧
    cardOutcomeOf 3112 .expired = .readFailed ∧ validateBody 3112 (.leader 0 false) = .invalid .fieldRange 1 (.leader 0 false) ∧
    (readingCard .running).deck.taken = some .a ∧ (readingCard .held).run.state ≠ .running := by decide
/-- The witness of an INVALID card through its 80 bytes: kind 0 is unknown (R177). -/
theorem witness_card_invalid :
    cardOutcomeOf 3112 (.complete (.good (List.replicate 80 0))) = .invalid .badKind 0 (.unknown 0) := by
  simp [cardOutcomeOf, endData, answerOf, validateBody, parseBody, fieldAt, leNat]

/-- The 80 bytes of a card: kind, two byte fields, flags, and what follows (R175). -/
def cardBytes (kind a b flags : Nat) (rest : List Byte) : List Byte :=
  ([kind, a, b, flags].map (BitVec.ofNat 8)) ++ rest ++ List.replicate (76 - rest.length) 0
/-- The FRAME card of 01 section 1.9 with 16 image lines. -/
def frameBytes : List Byte :=
  cardBytes 1 1 1 0 (toLE 4 0x2A11 ++ toLE 8 0x40000 ++ toLE 4 16384 ++ toLE 2 4096 ++ toLE 2 16 ++ toLE 2 0 ++ toLE 2 0)
theorem witness_good_cards :
    [frameBytes, cardBytes 2 0 0 2 (toLE 2 9), cardBytes 3 6 0 0 (toLE 4 5 ++ toLE 8 0x40), cardBytes 4 6 0 0 [],
      cardBytes 5 0 0 0 [], cardBytes 6 0 0 0 [], cardBytes 7 0 0 0 []].map
      (fun bs => cardOutcomeOf 3112 (.complete (.good bs))) =
    [.good (.frame { sampleCard with height := 16 }), .good (.leader 9 true), .good (.table 6 0x40 5), .good (.dump 6 0),
      .good .calibrate, .good .hold, .good .endCard] := by decide
/-- Every kind of body, known and unknown, is 80 bytes long and carries its kind in byte 0. -/
theorem witness_card_bytes : ∀ kind ∈ [0, 1, 2, 3, 4, 5, 6, 7, 8],
    (cardBytes kind 1 1 0 []).length = 80 ∧ numberAt (cardBytes kind 1 1 0 []) 0 1 = kind := by decide
theorem witness_frame_checks : firstToFail (frameChecks 3112 { sampleCard with stock := 4 }) 0 ∧
    firstToFail (frameChecks 3112 { sampleCard with x0 := 1 }) 6 ∧ (∀ p ∈ frameChecks 3112 sampleCard, p) :=
  ⟨⟨nofun, _, rfl, by decide⟩, ⟨by simp [frameChecks, sampleCard], _, rfl, by decide⟩, by simp [frameChecks, sampleCard]⟩
/-- A FRAME card fails at the number of its first bad field: 2 (retakes 4) before 8 (y0), 4 (width 4100) before 5 (R134). -/
theorem test_card_field_numbers :
    [{ sampleCard with retakes := 4, y0 := 1 }, { sampleCard with width := 4100 }, { sampleCard with y0 := 1 }].map
      (fun c => validateBody 3112 (.frame c)) =
    [.invalid .fieldRange 2 (.frame { sampleCard with retakes := 4, y0 := 1 }),
     .invalid .fieldRange 4 (.frame { sampleCard with width := 4100 }),
     .invalid .fieldRange 8 (.frame { sampleCard with y0 := 1 })] := by decide
/-- A lookahead read in flight beside a SPENT cursor, and a card being read again (R56, R137). -/
theorem witness_card_again :
    let s : State := { crossing .spent with
      seq.lookahead := { CardRecord.emptied with state := .reading, index := 4, read := some { id := 9, timer := 9 } } }
    s.seq.lookahead.read = some { id := 9, timer := 9 } ∧ s.seq.current.awaits 9 = false ∧
      s.ring.cursor.state = .spent ∧
      ({ readingCard .running with seq.current.entered := true } : State).seq.current.entered = true := by decide
/-- A card read with no lookahead, the tables VALID or not, the magazine full or empty, the regulator SETTLED or not. -/
def readingFirst (valid : Bool) (magazine : Nat) (r : RegulatorState) : State :=
  { readingCard .running with
    seq.lookahead := .emptied, film.magazine := magazine, power := { Power.reset with gateOpen := true, state := r }
    tables := { TableStore.reset with
      active := ((TableStore.reset.active).put .curve1 { valid := valid, words := [] }).put .drive
        { valid := valid, words := [] } } }
theorem witness_dispatch : ∀ v ∈ [true, false], ∀ m ∈ [0, 1], ∀ r ∈ [RegulatorState.settled, .unsettled],
    let s := readingFirst v m r
    s.seq.current.read = some { id := 8, timer := 9 } ∧ s.run.state = .running ∧ s.seq.current.entered = false ∧
      s.seq.lookahead.state = .empty ∧ s.film.magazine = m ∧ s.power.state = r ∧ s.film.state = .still ∧
      s.tables.active.drive.valid = v ∧ s.tables.staged.drive.state ≠ .valid ∧ s.deck.taken = some .a ∧
      s.deck.finishedCount ≤ s.seq.current.index ∧ s.power.darkHaltPending = false := by decide
/-- What the owners' statements ask of the state in which a card is acted on. -/
def readyFor (u : State) (v : Bool) (m : Nat) (g : RegulatorState) : Prop :=
  u.film.magazine = m ∧ u.power.state = g ∧ u.tables.active.drive.valid = v ∧ u.swapTables.tables.active.drive.valid = v ∧
  u.tables.staged.drive.state ≠ .valid ∧ u.film.state = .still ∧ u.run.stopPending = false ∧
  u.power.darkHaltPending = false ∧ u.deck.finishedCount ≤ u.seq.current.index ∧ u.seq.nextIndex ≤ u.deck.cardCount
/-- A first read's end, with any outcome. -/
theorem witness_acted_at_read (r : ReadEnd) (v : Bool) (m : Nat) (g : RegulatorState) : ∃ u answer,
    cardActedOn (readingFirst v m g) .a (cardOutcomeOf 3112 r) u answer ∧ readyFor u v m g :=
  ⟨_, _, ⟨rfl, .inl ⟨{ id := 8, timer := 9 }, r, _, rfl, rfl, rfl, rfl, rfl, rfl⟩⟩,
    rfl, rfl, rfl, rfl, nofun, rfl, rfl, rfl, Nat.le_refl 0, show (1 : Nat) ≤ 5 by decide⟩
/-- The end of a card's second read. -/
theorem witness_acted_at_read_again (r : ReadEnd) (v : Bool) (m : Nat) (g : RegulatorState) : ∃ u answer,
    cardActedOn { readingFirst v m g with
      seq.nextIndex := 1, seq.current := { (readingFirst v m g).seq.current with entered := true } } .a (cardOutcomeOf 3112 r)
      u answer ∧ readyFor u v m g :=
  ⟨_, _, ⟨rfl, .inl ⟨{ id := 8, timer := 9 }, r, _, rfl, rfl, rfl, rfl, rfl, rfl⟩⟩,
    rfl, rfl, rfl, rfl, nofun, rfl, rfl, rfl, Nat.le_refl 0, show (1 : Nat) ≤ 5 by decide⟩
/-- An advance that finds the lookahead PRESENT. -/
theorem witness_acted_from_lookahead (o : CardOutcome) (v : Bool) (m : Nat) (g : RegulatorState) : ∃ u answer,
    cardActedOn { readingFirst v m g with seq := {
        nextIndex := 1, current := { dispatched .hold with index := 0, finished := true }
        lookahead := { CardRecord.emptied with state := .present, index := 1, outcome := o } } } .a o u answer ∧
      readyFor u v m g :=
  ⟨_, _, ⟨rfl, .inr (.inl ⟨rfl, show (1 : Nat) < 5 by decide, .inr rfl, rfl, rfl, rfl, rfl, rfl, rfl⟩)⟩,
    rfl, rfl, rfl, rfl, nofun, rfl, rfl, rfl, show (0 : Nat) ≤ 1 by decide, show (2 : Nat) ≤ 5 by decide⟩
/-- An advance that finds the current record PRESENT, its read having ended while the run was HELD. -/
theorem witness_acted_from_current (o : CardOutcome) (v : Bool) (m : Nat) (g : RegulatorState) : ∃ u answer,
    cardActedOn { readingFirst v m g with
      seq.current := { CardRecord.emptied with state := .present, outcome := o } } .a o u answer ∧ readyFor u v m g :=
  ⟨_, _, ⟨rfl, .inr (.inr (.inl ⟨rfl, show (0 : Nat) < 5 by decide, rfl, rfl, rfl, rfl, rfl, rfl⟩))⟩,
    rfl, rfl, rfl, rfl, nofun, rfl, rfl, rfl, Nat.le_refl 0, show (1 : Nat) ≤ 5 by decide⟩
/-- RESUME, in HELD or in a halt that RUNNING resumes, with the outcome of a second read still held. -/
theorem witness_acted_at_resume (o : CardOutcome) (v : Bool) (m : Nat) (g : RegulatorState) : ∃ u answer,
    cardActedOn { readingFirst v m g with
      run := { RunCtl.reset with state := .held }
      seq := { nextIndex := 1, current := { CardRecord.emptied with state := .present, outcome := o, entered := true }
               lookahead := .emptied } } .a o u answer ∧ readyFor u v m g :=
  ⟨_, _, ⟨rfl, .inr (.inr (.inr ⟨rfl, .inl rfl, rfl, rfl, rfl, rfl, rfl, rfl, rfl⟩))⟩,
    rfl, rfl, rfl, rfl, nofun, rfl, rfl, rfl, Nat.le_refl 0, show (1 : Nat) ≤ 5 by decide⟩
theorem witness_cursor_within : let c := FrameCtx.loaded 0 0 sampleCard
    (readingFirst true 1 .settled).ring.cursor.within c.attemptId = false ∧
    (Cursor.pointed c.attemptId sampleCard none).within c.attemptId = true := by decide
/-- A card done in RUNNING or HELD, with a lookahead record in a state and the deck of a length. -/
def cardDone (r : RunState) (l : RecState) (count : Nat) : State :=
  { lockedRun 62500 with
    run.state := r, deck := { DeckReader.reset with taken := some .a, next := .b, cardCount := count }
    seq := { nextIndex := 4, current := { dispatched .hold with finished := true }
             lookahead := { CardRecord.emptied with state := l, index := 4, outcome := .readFailed } } }
theorem witness_advance : ∀ l ∈ [RecState.empty, .reading, .present], ∀ n ∈ [4, 5, 6],
    let s := cardDone .running l n
    s.deck.taken = some .a ∧ s.run.state = .running ∧ s.seq.current.entered = true ∧ s.seq.lookahead.state = l ∧
      s.seq.lookahead.index = s.seq.nextIndex ∧ s.seq.lookahead.entered = false ∧
      (n = 4 → s.seq.nextIndex = s.deck.cardCount) ∧ (n = 5 → s.seq.nextIndex < s.deck.cardCount) ∧
      (n = 6 → s.seq.nextIndex + 1 < s.deck.cardCount) := by decide
/-- A lookahead that is PRESENT becomes current and is acted on: a GOOD HOLD card holds the run with its result written, an
INVALID one halts it with CARD_REFUSED, and in both cases the card after it is read (R135, R136, R138, R139). -/
theorem test_present_lookahead :
    let s (o : CardOutcome) : State := { cardDone .running .present 6 with
      seq.lookahead := { CardRecord.emptied with state := .present, index := 4, outcome := o } }
    let t := (s (.good .hold)).advance
    let u := (s (.invalid .badKind 0 (.unknown 9))).advance
    (t.run.state, t.seq.nextIndex, t.seq.current.index, t.seq.lookahead.index, t.deck.finishedCount, t.bus.length) =
      (.held, 5, 4, 5, 1, 3) ∧
    (u.run.haltCause, u.seq.nextIndex, u.seq.current.finished, u.seq.lookahead.index, u.bus.length) =
      (.cardRefused, 5, true, 5, 3) := by decide
theorem witness_advance_waits : (readingCard .running).seq.current.state = .reading ∧
    (readingCard .running).seq.current.entered = false ∧
    (readingCard .running).seq.current.index = (readingCard .running).seq.nextIndex ∧
    (readingCard .running).seq.nextIndex < (readingCard .running).deck.cardCount := by decide
theorem witness_advance_held : (cardDone .held .empty 5).run.state = .held ∧
    currentUnfinished (cardDone .held .empty 5) = false := by decide

/-! ### The film -/

/-- A frame cycle in a state of the transport. -/
def cycling (st : TransportState) (scan pull owed : Nat) (k : CycleKind) : State :=
  { exposingRun 62500 0 [] with
    film := { Film.reset with
      state := st, scanIssued := scan, pullIssued := pull, owed := owed, counter := 1187, magazine := 21, perfCount := 4
      settlingTimer := some 0, cycle := some { forFrame := true, kind := k, position := 1187, edgeOn := true } } }
theorem witness_steps : (cycling .catchup 7778 0 2 .spoiled).film.scanIssued + 1 < sampleRb.film.ms ∧
    sampleRb.film.ms ≤ (cycling .catchup 7779 0 1 .spoiled).film.scanIssued + 1 ∧
    0 < (cycling .pulling 7780 2999 1 .spoiled).film.owed ∧
    sampleRb.film.mp ≤ (cycling .pulling 7780 2999 1 .spoiled).film.pullIssued + 1 := by decide
theorem witness_edge_code : (1187 : Nat) < 2 ^ 24 ∧ (42 : Nat) < 2 ^ 12 ∧ (1 : Nat) < 4 := by decide
theorem witness_dwell : (cycling .dwell 7780 3000 0 .good).film.state = .dwell ∧
    (cycling .pulling 7780 3000 0 .good).film.settlingTimer ≠ none ∧ 0 < sampleRb.film.dwell ∧
    (cycling .dwell 7780 3000 0 .good).film.magazine - 1 = sampleRb.film.lowThreshold := by decide
theorem witness_dwell_frame :
    (cycling .dwell 7780 3000 0 .good).film.perfCount = sampleRb.film.perfs ∧
    ({ cycling .dwell 7780 3000 0 .spoiled with film.perfCount := 3 } : State).film.perfCount ≠ sampleRb.film.perfs ∧
    (cycling .dwell 7780 3000 0 .good).frame.ctx = some (exposing 0) ∧
    (cycling .dwell 7780 3000 0 .good).deck.finishedCount ≤ (cycling .dwell 7780 3000 0 .good).seq.current.index ∧
    (exposing 0).haltAfter = .none ∧ (exposing 0).lastSpoil = .none := by decide
/-- The dwell of a GOOD cycle under each thing that may follow the finish. -/
theorem witness_dwell_follows : ∀ b ∈ [true, false], ∀ h ∈ [HaltAfter.none, .polygonLost, .laserDark],
    ∀ k ∈ [SpoilCause.none, .abort],
    let c : FrameCtx := { exposing 5 with
      state := .closing, haltAfter := h, lastSpoil := k, card := { sampleCard with holdAfter := b } }
    let s : State := { cycling .dwell 7780 3000 0 .good with
      run := { RunCtl.reset with state := .running, stopPending := b, powerLimitPending := b, pausePending := b }
      frame.ctx := some c }
    s.film.state = .dwell ∧ s.run.state = .running ∧ s.film.perfCount = s.rb.film.perfs ∧
      s.power.darkHaltPending = false ∧ s.deck.taken = some .a ∧ s.deck.finishedCount ≤ s.seq.current.index ∧
      c.haltAfter = h ∧ c.lastSpoil = k ∧ c.card.holdAfter = b ∧ s.run.pausePending = b := by decide
/-- The dwell of a spoiled cycle: with a retake pending or not, a halt after cycle or not, and film for one more
position or for none. -/
def spoiledDwell (again : Bool) (h : HaltAfter) (cause : SpoilCause) (magazine written : Nat) (tables : TableStore) : State :=
  { cycling .dwell 7780 3000 0 .spoiled with
    film := { (cycling .dwell 7780 3000 0 .spoiled).film with magazine := magazine }
    power := { Power.reset with gateOpen := true, state := .settled }, tables := tables
    frame := { FrameExposure.reset with
      entriesWritten := written
      ctx := some { exposing 5 with state := .closing, closeKind := .spoiled, lastSpoil := cause, retakePending := again,
                                    haltAfter := h } } }
theorem witness_spoiled_cycle : ∀ again ∈ [true, false], ∀ h ∈ [HaltAfter.none, .polygonLost, .laserDark],
    ∀ cause ∈ [SpoilCause.underrun, .abort], ∀ m ∈ [1, 2], ∀ w ∈ [499, 500],
    let s := spoiledDwell again h cause m w TableStore.reset
    s.film.state = .dwell ∧ s.run.state = .running ∧ s.film.perfCount = s.rb.film.perfs ∧
      s.power.darkHaltPending = false ∧ s.power.state = .settled ∧ s.film.magazine = m ∧
      s.rb.spoilCapacity = 500 ∧ s.deck.taken = some .a ∧ s.deck.finishedCount ≤ s.seq.current.index := by decide
theorem witness_retake_tables :
    let s := spoiledDwell true .none .underrun 2 0 { TableStore.reset with
      active := ((TableStore.reset.active).put .curve1 { valid := true, words := [] }).put .drive
        { valid := true, words := [] } }
    s.tables.staged.drive.state ≠ .valid ∧ (s.swapTables.tables.active.get (curveTarget sampleCard.stock)).valid = true ∧
      s.swapTables.tables.active.drive.valid = true := by decide
/-- The dwell of a leader cycle, with the cycles completed before it. -/
def leaderDwell (completed perfs magazine : Nat) (dark stop pause : Bool) : State :=
  { lockedRun 62500 with
    run := { RunCtl.reset with state := .running, stopPending := stop, pausePending := pause }
    power := { Power.reset with gateOpen := true, darkHaltPending := dark }
    film := { Film.reset with
      state := .dwell, counter := 1187, magazine := magazine, perfCount := perfs
      cycle := some { forFrame := false, kind := .leader, position := 1187, edgeOn := true }
      leader := some { count := 9, noEdge := false, completed := completed } } }
theorem witness_leader_cycle : ∀ k ∈ [0, 7, 8], ∀ p ∈ [3, 4], ∀ m ∈ [1, 2], ∀ dark ∈ [true, false],
    ∀ stop ∈ [true, false],
    let s := leaderDwell k p m dark stop true
    s.film.state = .dwell ∧ s.run.state = .running ∧ (p = 4 → s.film.perfCount = s.rb.film.perfs) ∧
      (p = 3 → s.film.perfCount ≠ s.rb.film.perfs) ∧ (k + 1 < 9 ∨ 9 ≤ k + 1) ∧ s.deck.taken = some .a ∧
      s.deck.finishedCount ≤ s.seq.current.index ∧ s.run.powerLimitPending = false := by decide
/-- At its count with a power-limit halt pending, a PAUSE, or nothing. -/
theorem witness_leader_count : ∀ dark ∈ [true, false], ∀ limit ∈ [true, false], ∀ pause ∈ [true, false],
    let s : State := { leaderDwell 8 4 2 dark false pause with
      run := { (leaderDwell 8 4 2 dark false pause).run with powerLimitPending := limit } }
    s.film.leader.map (fun l => decide (l.count ≤ l.completed + 1)) = some true ∧ s.deck.taken = some .a ∧
      s.deck.finishedCount ≤ s.seq.current.index ∧ s.run.powerLimitPending = limit ∧ s.run.pausePending = pause ∧
      s.power.darkHaltPending = dark ∧ s.film.perfCount = s.rb.film.perfs := by decide
theorem witness_driver_fault : lawful.film.faultLevel = false ∧ lawful.film.state ≠ .faulted ∧
    ({ lawful with film.state := .faulted } : State).film.state = .faulted ∧
    (exposingRun 62500 5 []).frame.ctx ≠ none := by decide
/-- A driver fault during a settle leaves the regulator UNSETTLED and PWR as it was (R111, R124). -/
theorem test_driver_fault_in_settle :
    let s : State := { lawful with power := { lawful.power with state := .settling, settleTimeout := some 9 } }
    let t := after (execDriverFault s)
    (s.run.state, s.power.state, t.run.haltCause, t.power.state, t.power.pwr) =
      (.running, .settling, .transport, .unsettled, { r := 100, g := -100, b := 0 }) := by decide
theorem witness_film_requests : (exposingRun 62500 5 []).film.state = .scanning ∧
    (exposingRun 62500 5 []).film.scanIssued < sampleRb.film.ms ∧ Film.reset.state ≠ .scanning := by decide

end Sys2Proof.Tests
end

/-! PROOF. The end of a pixel window (R12, R38, R46, R92, R93): what the fetch engine rests on, what the fetch switch and
the close of the last line do, and the statement PixelWindowEnds. -/

namespace Sys2Proof.Machine

/-! ## What the fetch engine rests on (R48, R56) -/

/-- Two states that the fetch engine cannot tell apart: of the context it sees only whether an attempt is of its card. -/
structure FetchAlike (s t : State) : Prop where
  rb : s.rb = t.rb
  seq : s.seq = t.seq
  ring : s.ring = t.ring
  bus : s.bus = t.bus
  nextId : s.nextId = t.nextId
  card : ∀ a, s.frame.ctx.map (ofCard a) = t.frame.ctx.map (ofCard a)

theorem FetchAlike.crossedCursor_eq {s t : State} (h : FetchAlike s t) : crossedCursor s = crossedCursor t := by
  have hcard := h.card s.ring.cursor.owner
  have hlook : lookaheadFrame s = lookaheadFrame t := by simp only [lookaheadFrame, h.seq]
  unfold crossedCursor
  cases hs : s.frame.ctx with
  | none =>
    have ht : t.frame.ctx = none := by simpa [hs, eq_comm] using hcard
    rw [ht]
  | some c =>
    obtain ⟨d, ht, hd⟩ : ∃ d, t.frame.ctx = some d ∧ ofCard s.ring.cursor.owner d = ofCard s.ring.cursor.owner c := by
      simpa [hs, eq_comm] using hcard
    rw [ht, hlook, h.seq, h.ring]
    rw [h.ring] at hd
    cases lookaheadFrame t with
    | none => rfl
    | some card => simp only [hd]

theorem FetchAlike.tryCross {s t : State} (h : FetchAlike s t) : FetchAlike s.tryCross t.tryCross := by
  have hring : s.tryCross.ring = t.tryCross.ring := by
    simp only [State.tryCross, h.crossedCursor_eq]
    split <;> simp [h.ring]
  exact ⟨by simp [h.rb], by simp [h.seq], hring, by simp [h.bus], by simp [h.nextId], by simpa using h.card⟩

theorem FetchAlike.fetchReady_eq {s t : State} (h : FetchAlike s t) : fetchReady s = fetchReady t := by
  simp only [fetchReady, h.ring, h.rb]

theorem FetchAlike.issuedRing_eq {s t : State} (h : FetchAlike s t) : issuedRing s = issuedRing t := by
  simp only [issuedRing, newSlot, h.ring, h.rb, h.nextId]

theorem FetchAlike.fetchOne {s t : State} (h : FetchAlike s t) : FetchAlike s.fetchOne t.fetchOne := by
  unfold State.fetchOne
  rw [h.fetchReady_eq]
  split
  · apply FetchAlike.tryCross
    exact ⟨by simp [h.rb], by simp [h.seq], by simp [h.issuedRing_eq], by simp [State.busRead, h.bus, h.nextId, h.ring],
      by simp [State.busRead, h.nextId], by simpa using h.card⟩
  · exact h

theorem FetchAlike.fetch {s t : State} (h : FetchAlike s t) : FetchAlike s.fetch t.fetch := h.fetchOne.fetchOne

/-! ## The return of a slot (R46, R47) -/

theorem LineRing.applySwitch_eq (g : LineRing) (high low : Nat) :
    g.applySwitch high low =
      { g with
        switchOn := if high ≤ g.slots.length then false else if g.slots.length ≤ low then true else g.switchOn } := by
  unfold LineRing.applySwitch LineRing.occupancy
  split
  · rfl
  · split <;> rfl

/-- The ring with a slot taken from its list and the fetch switch examined. -/
def LineRing.without (g : LineRing) (id high low : Nat) : LineRing :=
  LineRing.applySwitch { g with slots := g.slots.filter fun x => x.readId != id } high low

theorem State.returnSlot_eq (s : State) (id : Nat) :
    s.returnSlot id = (s.setRing (s.ring.without id s.rb.high s.rb.low)).fetch := rfl

/-! ## The clamp counts of a line (R12) -/

@[simp] theorem ofCard_addClamps (a : AttemptId) (c : FrameCtx) (k : Tri Clamp) :
    ofCard a (c.addClamps k) = ofCard a c := rfl

@[simp] theorem FrameCtx.addClamps_r (c : FrameCtx) (k : Tri Clamp) : (c.addClamps k).r = c.r := rfl
@[simp] theorem FrameCtx.addClamps_state (c : FrameCtx) (k : Tri Clamp) : (c.addClamps k).state = c.state := rfl

theorem FrameCtx.addClamps_get (c : FrameCtx) (k : Tri Clamp) (ch : Channel) :
    (c.addClamps k).clamps.get ch = (c.clamps.get ch).plus (k.get ch) := by
  cases ch <;> rfl

@[simp] theorem State.imageLineEnded_frame (s : State) (slot : Nat) (k : Tri Clamp) :
    (s.imageLineEnded slot k).frame = { s.frame with ctx := s.frame.ctx.map fun c => c.addClamps k } := by
  simp [State.imageLineEnded]

theorem State.imageLineEnded_ctx {s : State} {c : FrameCtx} (slot : Nat) (k : Tri Clamp) (hctx : s.frame.ctx = some c) :
    (s.imageLineEnded slot k).frame.ctx = some (c.addClamps k) := by
  simp [hctx]

/-- The clamp counts handed to the context do not reach the fetch engine, so an IMAGE line's slot is returned as from
any state that it cannot tell apart. -/
theorem State.imageLineEnded_fetchAlike {s t : State} (h : FetchAlike s t) (slot : Nat) (k : Tri Clamp) :
    FetchAlike (s.imageLineEnded slot k) (t.setRing (t.ring.without slot t.rb.high t.rb.low)).fetch := by
  rw [State.imageLineEnded, State.returnSlot_eq]
  apply FetchAlike.fetch
  exact ⟨by simp [h.rb], by simp [h.seq], by simp [LineRing.without, h.ring, h.rb], by simp [h.bus], by simp [h.nextId],
    by simpa [Function.comp_def] using h.card⟩

/-! ## The close of the last line (R14) -/

theorem State.closeIfLast_of_lt {s : State} {c : FrameCtx} (hctx : s.frame.ctx = some c) (hr : c.r < s.rb.height) :
    s.closeIfLast = s := by
  have hlast : ¬ s.rb.height ≤ c.r := Nat.not_le.mpr hr
  simp only [State.closeIfLast, hctx, if_neg hlast]
  split <;> rfl

theorem State.closeIfLast_of_last {s : State} {c : FrameCtx} (hctx : s.frame.ctx = some c) (hst : c.state = .exposing)
    (hr : s.rb.height ≤ c.r) :
    s.closeIfLast =
      (s.setCtx { c with state := .closing, closeKind := .good }).setFilm (s.film.finish s.rb .good) := by
  simp only [State.closeIfLast, hctx, hst, if_pos hr]

/-- The close keeps the raster line and the clamp counts, and a line that is not the last keeps the attempt state. -/
theorem State.closeIfLast_ctx {s : State} {c : FrameCtx} (hctx : s.frame.ctx = some c) :
    ∃ d, s.closeIfLast.frame = { s.frame with ctx := some d } ∧ d.r = c.r ∧ d.clamps = c.clamps ∧
      (c.r < s.rb.height → d.state = c.state) := by
  by_cases hclose : c.state = .exposing ∧ s.rb.height ≤ c.r
  · obtain ⟨hst, hr⟩ := hclose
    refine ⟨{ c with state := .closing, closeKind := .good }, ?_, rfl, rfl, fun hlt => absurd hr (Nat.not_le.mpr hlt)⟩
    rw [State.closeIfLast_of_last hctx hst hr]
    rfl
  · have hsame : s.closeIfLast = s := by
      simp only [State.closeIfLast, hctx]
      split
      · next hst => exact if_neg fun hr => hclose ⟨hst, hr⟩
      · rfl
      · rfl
    exact ⟨c, by rw [hsame, ← hctx], rfl, rfl, fun _ => rfl⟩

/-- What the end of line H - 1 leaves: the attempt CLOSING with kind GOOD, and the transport asked to finish. -/
theorem State.closeIfLast_closes {s : State} {c : FrameCtx} (hctx : s.frame.ctx = some c) (hst : c.state = .exposing)
    (hr : s.rb.height ≤ c.r) :
    (∃ d, s.closeIfLast.frame = { s.frame with ctx := some d } ∧ d.state = .closing ∧ d.closeKind = .good ∧ d.r = c.r) ∧
      s.closeIfLast.film = s.film.finish s.rb .good := by
  rw [State.closeIfLast_of_last hctx hst hr]
  exact ⟨⟨_, rfl, rfl, rfl, rfl⟩, rfl⟩

/-- The end of an IMAGE line in the context: the clamp counts are handed on (R12). -/
theorem State.imageLineEnded_closeIfLast_ctx {s : State} {c : FrameCtx} (id : Nat) (k : Tri Clamp)
    (hctx : s.frame.ctx = some c) :
    ∃ d, (s.imageLineEnded id k).closeIfLast.frame = { s.frame with ctx := some d } ∧ d.r = c.r ∧
      (c.r < s.rb.height → d.state = c.state) ∧
      ∀ ch, (d.clamps.get ch).low = (c.clamps.get ch).low + (k.get ch).low ∧
        (d.clamps.get ch).high = (c.clamps.get ch).high + (k.get ch).high := by
  obtain ⟨d, hframe, hr, hclamps, hst⟩ := State.closeIfLast_ctx (State.imageLineEnded_ctx id k hctx)
  refine ⟨d, by simpa using hframe, hr, by simpa using hst, fun ch => ?_⟩
  rw [hclamps, FrameCtx.addClamps_get]
  exact ⟨rfl, rfl⟩

/-- The end of an IMAGE line that is not the last asks nothing of the transport. -/
theorem State.imageLineEnded_closeIfLast_film {s : State} {c : FrameCtx} (id : Nat) (k : Tri Clamp)
    (hctx : s.frame.ctx = some c) (hr : c.r < s.rb.height) : (s.imageLineEnded id k).closeIfLast.film = s.film := by
  rw [State.closeIfLast_of_lt (State.imageLineEnded_ctx id k hctx) (by simpa using hr), State.imageLineEnded_film]

/-! ## What the Datapath reports, mode by mode (R38) -/

theorem State.reportPixelEnd_dark (s : State) {d : Datapath} (hm : d.mode = .dark) : s.reportPixelEnd d = s := by
  simp only [State.reportPixelEnd, hm]

theorem State.reportPixelEnd_blank (s : State) {d : Datapath} (hm : d.mode = .blank) :
    s.reportPixelEnd d = s.closeIfLast := by
  simp only [State.reportPixelEnd, hm]

theorem State.reportPixelEnd_image (s : State) {d : Datapath} {id : Nat} (hm : d.mode = .image)
    (hslot : d.lineSlot = some id) : s.reportPixelEnd d = (s.imageLineEnded id d.clamps).closeIfLast := by
  simp only [State.reportPixelEnd, hm, hslot]

/-- The end of a last line closes the attempt in both modes, and in IMAGE with its slot returned or with none named. -/
theorem State.reportPixelEnd_closes {s : State} {d : Datapath} {c : FrameCtx} (hm : d.mode = .blank ∨ d.mode = .image)
    (hctx : s.frame.ctx = some c) (hst : c.state = .exposing) (hr : s.rb.height ≤ c.r) :
    (∃ e, (s.reportPixelEnd d).frame = { s.frame with ctx := some e } ∧ e.state = .closing ∧ e.closeKind = .good ∧
        e.r = c.r) ∧
      (s.reportPixelEnd d).film = s.film.finish s.rb .good := by
  rcases hm with hm | hm
  · rw [State.reportPixelEnd_blank s hm]
    exact State.closeIfLast_closes hctx hst hr
  · cases hslot : d.lineSlot with
    | none =>
      have hrep : s.reportPixelEnd d = s.closeIfLast := by simp only [State.reportPixelEnd, hm, hslot]
      rw [hrep]
      exact State.closeIfLast_closes hctx hst hr
    | some id =>
      rw [State.reportPixelEnd_image s hm hslot]
      simpa using State.closeIfLast_closes (State.imageLineEnded_ctx id d.clamps hctx) hst (by simpa using hr)

/-! ## The window's end -/

theorem ScanTiming.pixelEnded_eq (c : ScanTiming) (mgap : Nat) :
    c.pixelEnded mgap =
      { c with
        window := if c.mark then .monitorWait else .none
        windowTimer := if c.mark then some mgap else none } := by
  unfold ScanTiming.pixelEnded
  split <;> rfl

/-- The state with its pixel window over and the modulator inputs dark, before Frame Exposure hears of it. -/
def State.pixelDarkened (s : State) : State :=
  (s.setScan (s.scan.pixelEnded s.rb.line.mgap)).setDp s.dp.endPixel

theorem exec_pixelWindowEnd {s : State} (hw : s.scan.window = .pixel) :
    exec .pixelWindowEnd s = .next (s.pixelDarkened.reportPixelEnd s.dp) := by
  show execPixelWindowEnd s = _
  simp only [execPixelWindowEnd, hw, State.pixelDarkened]

theorem State.pixelDarkened_fetchAlike (s : State) : FetchAlike s.pixelDarkened s :=
  ⟨rfl, rfl, rfl, rfl, rfl, fun _ => rfl⟩

/-- The end of an IMAGE line in the ring and on the bus (R46, R47, R48). -/
theorem State.pixelDarkened_returns (s : State) (id : Nat) (k : Tri Clamp) :
    FetchAlike (s.pixelDarkened.imageLineEnded id k) (s.setRing (s.ring.without id s.rb.high s.rb.low)).fetch :=
  State.imageLineEnded_fetchAlike s.pixelDarkened_fetchAlike id k

/-- Settles O35: the state after the window's end is taken apart by the Datapath's mode, and the IMAGE line's return is
compared with a fetch from the state before by FetchAlike. -/
theorem pixelWindowEnds : Obligations.PixelWindowEnds := by
  intro s hw
  refine ⟨_, exec_pixelWindowEnd hw, ?scan, ?dp, ?dark, ?blank, ?image, ?last, ?rest⟩
  case scan => exact (State.reportPixelEnd_scan _ _).trans (ScanTiming.pixelEnded_eq _ _)
  case dp => exact State.reportPixelEnd_dp _ _
  case dark =>
    intro hm
    rw [State.reportPixelEnd_dark _ hm]
    exact ⟨rfl, rfl, rfl⟩
  case blank =>
    intro c hm hctx hr
    rw [State.reportPixelEnd_blank _ hm, State.closeIfLast_of_lt (s := s.pixelDarkened) hctx hr]
    exact ⟨rfl, rfl, rfl⟩
  case image =>
    intro c id hm hslot hctx
    rw [State.reportPixelEnd_image _ hm hslot]
    refine ⟨State.imageLineEnded_closeIfLast_ctx (s := s.pixelDarkened) id _ hctx, ?_,
      State.imageLineEnded_closeIfLast_film (s := s.pixelDarkened) id _ hctx⟩
    rintro left g rfl rfl
    have hreturn := s.pixelDarkened_returns id s.dp.clamps
    rw [LineRing.without, LineRing.applySwitch_eq] at hreturn
    simp only [State.closeIfLast_ring, State.closeIfLast_bus]
    exact ⟨hreturn.ring, hreturn.bus⟩
  case last =>
    intro c hm hctx hst hr
    exact State.reportPixelEnd_closes (s := s.pixelDarkened) hm hctx hst hr
  case rest =>
    simp only [State.reportPixelEnd_run, State.reportPixelEnd_regs, State.reportPixelEnd_power,
      State.reportPixelEnd_tables, State.reportPixelEnd_seq]
    exact ⟨rfl, rfl, rfl, rfl, rfl⟩

end Sys2Proof.Machine

/-! PROOF. The checks of a table image (R67, R68, R69): the two scans over the words as searches through positions, the
first check that fails, and the statement TableChecksInOrder. -/

namespace Sys2Proof.Machine

theorem imageSum_eq_sumOfImage (t : Target) (ws : List (BitVec 16)) : imageSum t ws = sumOfImage t ws := by
  rw [imageSum, sumOfImage, List.sum_eq_foldl, List.foldl_map]
  rfl

/-- The first words of an image are the image's words. -/
theorem getD_take_of_lt {ws : List (BitVec 16)} {n k : Nat} (hk : k < n) : (ws.take n).getD k 0 = ws.getD k 0 := by
  rw [List.getD_eq_getElem?_getD, List.getD_eq_getElem?_getD, List.getElem?_take_of_lt hk]

/-! ## The range check (R68) -/

theorem wordInRange_iff (t : Target) (k : Nat) (w : BitVec 16) : wordInRange t k w = true ↔ fieldRange t k w := by
  cases t
  case drive => simp [wordInRange, fieldRange]
  case shade => simp [wordInRange, fieldRange]
  case facet => simp [wordInRange, fieldRange]
  all_goals
    simp only [wordInRange, fieldRange]
    split <;> simp

/-- The range scan, begun after the words `before`, is a search through the positions of the words `rest`. -/
theorem firstOutOfRange_eq_find? (t : Target) (before rest : List (BitVec 16)) :
    firstOutOfRange t before.length rest =
      (List.range' before.length rest.length).find? fun j => !wordInRange t j ((before ++ rest).getD j 0) := by
  induction rest generalizing before with
  | nil => rfl
  | cons w rest ih =>
    have hnext := ih (before ++ [w])
    rw [List.length_append, List.length_singleton, List.append_assoc, List.singleton_append] at hnext
    have hword : (before ++ w :: rest).getD before.length 0 = w := by simp
    rw [firstOutOfRange, List.length_cons, List.range'_succ, List.find?_cons, hword, hnext]
    cases wordInRange t before.length w <;> rfl

theorem firstOutOfRange_eq_some_iff (t : Target) (ws : List (BitVec 16)) (k : Nat) :
    firstOutOfRange t 0 ws = some k ↔
      k < ws.length ∧ ¬fieldRange t k (ws.getD k 0) ∧ ∀ j < k, fieldRange t j (ws.getD j 0) := by
  have hscan := firstOutOfRange_eq_find? t [] ws
  rw [List.length_nil, List.nil_append] at hscan
  rw [hscan, List.find?_range'_eq_some, and_left_comm, List.mem_range'_1]
  simp only [Nat.zero_le, Nat.zero_add, true_and, true_imp_iff, Bool.not_not, Bool.not_eq_true', ← Bool.not_eq_true,
    wordInRange_iff]

/-- The range check of the first n words of an image fails at the lowest of them that is out of range (R68). -/
theorem firstOutOfRange_take_eq_some_iff (t : Target) (ws : List (BitVec 16)) (n k : Nat) :
    firstOutOfRange t 0 (ws.take n) = some k ↔
      k < (ws.take n).length ∧ ¬fieldRange t k (ws.getD k 0) ∧ ∀ j < k, fieldRange t j (ws.getD j 0) := by
  rw [firstOutOfRange_eq_some_iff]
  refine and_congr_right fun hk => ?_
  have hword : ∀ j ≤ k, (ws.take n).getD j 0 = ws.getD j 0 := fun j hj =>
    getD_take_of_lt (by rw [List.length_take] at hk; omega)
  rw [hword k le_rfl]
  exact and_congr_right fun _ => forall₂_congr fun j hj => by rw [hword j hj.le]

theorem firstOutOfRange_take_eq_none {t : Target} {ws : List (BitVec 16)} {n : Nat}
    (hall : ∀ j < (ws.take n).length, fieldRange t j (ws.getD j 0)) : firstOutOfRange t 0 (ws.take n) = none := by
  rw [Option.eq_none_iff_forall_ne_some]
  intro k hk
  obtain ⟨hlt, hout, -⟩ := (firstOutOfRange_take_eq_some_iff t ws n k).mp hk
  exact hout (hall k hlt)

/-! ## The order check (R69) -/

/-- The order scan's test at position j of the words `ws`. -/
def fallsAt (n : Nat) (ws : List (BitVec 16)) (j : Nat) : Bool :=
  j % n != 0 && decide ((ws.getD j 0).toNat < (ws.getD (j - 1) 0).toNat)

/-- The order scan, begun after the words `before` and the word `prev`, is a search through the positions of the words
`rest`. -/
theorem firstDecrease_eq_find? (n : Nat) (before : List (BitVec 16)) (prev : BitVec 16) (rest : List (BitVec 16)) :
    firstDecrease n (before.length + 1) prev rest =
      (List.range' (before.length + 1) rest.length).find? (fallsAt n (before ++ prev :: rest)) := by
  induction rest generalizing before prev with
  | nil => rfl
  | cons w rest ih =>
    have hnext := ih (before ++ [prev]) w
    rw [List.length_append, List.length_singleton, List.append_assoc, List.singleton_append] at hnext
    have htest : fallsAt n (before ++ prev :: w :: rest) (before.length + 1) =
        ((before.length + 1) % n != 0 && decide (w.toNat < prev.toNat)) := by
      simp [fallsAt]
    rw [firstDecrease, List.length_cons, List.range'_succ, List.find?_cons, htest, hnext]
    cases (before.length + 1) % n != 0 && decide (w.toNat < prev.toNat) <;> rfl

theorem orderFailure_eq_find? (t : Target) (ws : List (BitVec 16)) :
    orderFailure t ws =
      (List.range' 1 ((ws.take (3 * channelWords t)).length - 1)).find?
        (fallsAt (channelWords t) (ws.take (3 * channelWords t))) := by
  rw [orderFailure]
  cases ws.take (3 * channelWords t) with
  | nil => rfl
  | cons w rest => exact firstDecrease_eq_find? (channelWords t) [] w rest

/-- R69 by the model's channel length: a position of the ordered words after the first, at which the scan's test
holds. -/
theorem decreasesAt_iff (t : Target) (ws : List (BitVec 16)) (k : Nat) :
    decreasesAt t ws k ↔
      k ∈ List.range' 1 ((ws.take (3 * channelWords t)).length - 1) ∧
        fallsAt (channelWords t) (ws.take (3 * channelWords t)) k = true := by
  have hdef : decreasesAt t ws k ↔ 0 < k ∧ k < ws.length ∧ k < 3 * channelWords t ∧ k % channelWords t ≠ 0 ∧
      (ws.getD k 0).toNat < (ws.getD (k - 1) 0).toNat := by cases t <;> rfl
  rw [hdef, List.mem_range'_1, List.length_take]
  by_cases hk : k < 3 * channelWords t
  · rw [fallsAt, getD_take_of_lt hk, getD_take_of_lt (by omega), Bool.and_eq_true, bne_iff_ne, decide_eq_true_iff]
    omega
  · omega

/-- A search through the positions of a range finds k exactly if k is the lowest position of the range that passes. -/
theorem find?_range'_eq_some_iff_lowest (p : Nat → Bool) (start len k : Nat) :
    (List.range' start len).find? p = some k ↔
      (k ∈ List.range' start len ∧ p k = true) ∧ ∀ j < k, ¬(j ∈ List.range' start len ∧ p j = true) := by
  rw [List.find?_range'_eq_some, and_left_comm, ← and_assoc]
  refine and_congr_right fun ⟨hk, _⟩ => forall_congr' fun j => ?_
  rw [List.mem_range'_1] at hk ⊢
  constructor
  · rintro hbelow hj ⟨⟨hs, -⟩, hp⟩
    exact absurd (hbelow hs hj) (by simp [hp])
  · intro hbelow hs hj
    simpa using fun hp => hbelow hj ⟨⟨hs, by omega⟩, hp⟩

theorem orderFailure_eq_some_iff (t : Target) (ws : List (BitVec 16)) (k : Nat) :
    orderFailure t ws = some k ↔ decreasesAt t ws k ∧ ∀ j < k, ¬decreasesAt t ws j := by
  simp only [orderFailure_eq_find?, find?_range'_eq_some_iff_lowest, decreasesAt_iff]

theorem orderFailure_eq_none_iff (t : Target) (ws : List (BitVec 16)) :
    orderFailure t ws = none ↔ ∀ j, ¬decreasesAt t ws j := by
  simp only [orderFailure_eq_find?, List.find?_eq_none, decreasesAt_iff, not_and]

/-! ## The first check that fails (R67) -/

section
variable {t : Target} {ws : List (BitVec 16)} {expected : Nat}

theorem tableChecks_of_failed : tableChecks t ws expected true = (.readError, none) := rfl

theorem tableChecks_of_sum_ne (hsum : sumOfImage t ws ≠ expected) :
    tableChecks t ws expected false = (.sum, none) := by
  simp [tableChecks, imageSum_eq_sumOfImage, hsum]

theorem tableChecks_of_outOfRange {k : Nat} (hsum : sumOfImage t ws = expected)
    (hrange : firstOutOfRange t 0 (ws.take (checkedWords t)) = some k) :
    tableChecks t ws expected false = (.range, some k) := by
  simp [tableChecks, imageSum_eq_sumOfImage, hsum, hrange]

theorem tableChecks_of_orderFailure {k : Nat} (hsum : sumOfImage t ws = expected)
    (hrange : firstOutOfRange t 0 (ws.take (checkedWords t)) = none) (horder : orderFailure t ws = some k) :
    tableChecks t ws expected false = (.order, some k) := by
  simp [tableChecks, imageSum_eq_sumOfImage, hsum, hrange, horder]

theorem tableChecks_of_passed (hsum : sumOfImage t ws = expected)
    (hrange : firstOutOfRange t 0 (ws.take (checkedWords t)) = none) (horder : orderFailure t ws = none) :
    tableChecks t ws expected false = (.none, none) := by
  simp [tableChecks, imageSum_eq_sumOfImage, hsum, hrange, horder]

theorem tableChecks_eq_range_iff (hsum : sumOfImage t ws = expected) (k : Nat) :
    tableChecks t ws expected false = (.range, some k) ↔
      firstOutOfRange t 0 (ws.take (checkedWords t)) = some k := by
  cases hrange : firstOutOfRange t 0 (ws.take (checkedWords t)) with
  | some j => simp [tableChecks_of_outOfRange hsum hrange]
  | none =>
    cases horder : orderFailure t ws with
    | some j => simp [tableChecks_of_orderFailure hsum hrange horder]
    | none => simp [tableChecks_of_passed hsum hrange horder]

theorem tableChecks_eq_order_iff (hsum : sumOfImage t ws = expected)
    (hrange : firstOutOfRange t 0 (ws.take (checkedWords t)) = none) (k : Nat) :
    tableChecks t ws expected false = (.order, some k) ↔ orderFailure t ws = some k := by
  cases horder : orderFailure t ws with
  | some j => simp [tableChecks_of_orderFailure hsum hrange horder]
  | none => simp [tableChecks_of_passed hsum hrange horder]

end

/-- Settles O42: each scan is a search through positions, so what it finds is the lowest position that fails; the checks
are then taken in their order. -/
theorem tableChecksInOrder : Obligations.TableChecksInOrder := by
  intro g ws expected failed
  refine ⟨?read, ?sum, ?scans, ?words⟩
  case read =>
    rintro rfl
    exact tableChecks_of_failed
  case sum =>
    rintro rfl hsum
    exact tableChecks_of_sum_ne hsum
  case scans =>
    rintro rfl hsum
    refine ⟨fun k => ?range, fun hall => ?order⟩
    case range => exact (tableChecks_eq_range_iff hsum k).trans (firstOutOfRange_take_eq_some_iff g ws _ k)
    case order =>
      have hrange := firstOutOfRange_take_eq_none hall
      exact ⟨fun k => (tableChecks_eq_order_iff hsum hrange k).trans (orderFailure_eq_some_iff g ws k),
        fun hnone => tableChecks_of_passed hsum hrange ((orderFailure_eq_none_iff g ws).mpr hnone)⟩
  case words => cases g <;> rfl

end Sys2Proof.Machine

/-! PROOF. A REGULATE reading other than 0 (R102 to R104): the update's value, its flag and its rise, what the rise does
beyond the flag, and the statement RegulateReadingMovesPower. -/

namespace Sys2Proof.Machine

/-! ## The update's value and flag (R103, R104) -/

theorem limitPwr_eq_max_min (lim : Nat) (v : Int) : limitPwr lim v = max (-(lim : Int)) (min (lim : Int) v) := by
  unfold limitPwr
  split_ifs <;> omega

/-- The step toward the band as one addend (R103). -/
theorem steppedPwr_eq_add (p : PowerFields) (ch : Channel) (m : Nat) (v : Int) :
    steppedPwr p ch m v = v +
      (if (m : Int) < p.tgt.get ch - p.db then (p.step : Int)
       else if (p.tgt.get ch + p.db : Int) < m then -(p.step : Int) else 0) := by
  unfold steppedPwr
  split_ifs
  · rfl
  · exact Int.sub_eq_add_neg
  · exact (Int.add_zero v).symm

theorem limitedAfter_eq_ite (lim : Nat) (v : Int) (flag : Bool) :
    limitedAfter lim v flag =
      if limitPwr lim v ≠ v then true else if (limitPwr lim v).natAbs < lim then false else flag := by
  simp only [limitedAfter, bne_iff_ne]

theorem limitRises_iff (p : Power) (f : PowerFields) (ch : Channel) (m : Nat) :
    limitRises p f ch m = true ↔
      limitPwr f.lim (steppedPwr f ch m (p.pwr.get ch)) ≠ steppedPwr f ch m (p.pwr.get ch) ∧
        p.limited.get ch = false := by
  simp [limitRises]

/-! ## A rise beyond the flag (R104) -/

theorem State.limitRise_run (s : State) :
    s.limitRise.run = { s.run with
      powerLimitPending := s.run.powerLimitPending || s.rb.power.haltOnLimit == 1 } := by
  unfold State.limitRise
  by_cases hpolicy : s.rb.power.haltOnLimit = 1
  · simp [hpolicy]
  · simp [hpolicy, beq_eq_false_iff_ne.mpr hpolicy]

theorem State.limitRise_frame (s : State) :
    s.limitRise.frame = { s.frame with ctx := s.frame.ctx.map FrameCtx.markLimited } := by
  unfold State.limitRise
  split <;> simp

theorem State.limitRise_frame_of_none {s : State} (hctx : s.frame.ctx = none) : s.limitRise.frame = s.frame := by
  rw [State.limitRise_frame, hctx, Option.map_none, ← hctx]

theorem State.limitRise_causes (s : State) : s.limitRise.regs.causes = s.regs.causes ||| Cause.powerLimit.bit := by
  unfold State.limitRise
  split <;> simp

theorem FrameCtx.markLimited_of_exposing {c : FrameCtx} (hst : c.state = .exposing) :
    c.markLimited = { c with powerLimited := true } := by
  simp [FrameCtx.markLimited, hst]

/-! ## The update as a whole (R103, R104) -/

theorem State.regulate_power (s : State) (ch : Channel) (m : Nat) :
    (s.regulate ch m).power = s.power.regulated s.rb.power ch m := by
  unfold State.regulate
  dsimp only
  split <;> simp

theorem State.regulate_of_rises {s : State} {ch : Channel} {m : Nat} (h : limitRises s.power s.rb.power ch m = true) :
    s.regulate ch m = (s.setPower (s.power.regulated s.rb.power ch m)).limitRise := by
  simp [State.regulate, h]

theorem State.regulate_of_not_rises {s : State} {ch : Channel} {m : Nat}
    (h : limitRises s.power s.rb.power ch m = false) :
    s.regulate ch m = s.setPower (s.power.regulated s.rb.power ch m) := by
  simp [State.regulate, h]

/-- The state with the conversion over, in which a completion's reading is used (R102). -/
def State.conversionOver (s : State) : State := s.setPower { s.power with conversion := none }

/-- A valid REGULATE reading that fits and is not dark is the regulation update, the conversion being over (R102). -/
theorem exec_conversionCompletion_regulate {s : State} {c : Conversion} {m : BitVec 10} {ch : Channel}
    (hconv : s.power.conversion = some c) (hsample : c.sample = { channel := ch, purpose := .regulate, valid := true })
    (hsettled : s.power.state = .settled)
    (hrun : s.run.state = .running ∨ s.run.state = .waiting ∨ s.run.state = .held) (hm : m ≠ 0) :
    exec (.conversionCompletion m) s = .next (s.conversionOver.regulate ch m.toNat) := by
  have hregulates : s.run.state.regulates = true := by
    obtain h | h | h := hrun <;> rw [h] <;> rfl
  have hbright : m.toNat ≠ 0 := fun h => hm (BitVec.eq_of_toNat_eq h)
  simp [exec, execConversionCompletion, hconv, hsample, State.useReading, readingFits, hsettled, hregulates,
    State.useRegulate, hbright, State.conversionOver]

/-- Settles O36: the reading is the regulation update of the state with the conversion over, taken apart by whether the
limited flag rises. -/
theorem regulateReadingMovesPower : Obligations.RegulateReadingMovesPower := by
  intro s c m ch hconv hsample hsettled hrun hm v w f hv hw hf
  rw [← steppedPwr_eq_add] at hv
  rw [← limitPwr_eq_max_min, hv] at hw
  have hflag : f = limitedAfter s.rb.power.lim v (s.power.limited.get ch) := by
    rw [limitedAfter_eq_ite, hf, hw, hv]
  refine ⟨_, exec_conversionCompletion_regulate hconv hsample hsettled hrun hm, ?power, ?still, ?rise⟩
  case power =>
    rw [State.regulate_power, hflag, hw, hv]
    rfl
  case still =>
    intro hstill
    rw [State.regulate_of_not_rises]
    · rfl
    · rw [Bool.eq_false_iff, Ne, limitRises_iff]
      rintro ⟨hcut, hclear⟩
      obtain h | h := hstill
      · exact hcut (hw.symm.trans (h.trans hv))
      · exact Bool.false_ne_true (hclear.symm.trans h)
  case rise =>
    intro hcut hclear
    rw [hw, hv] at hcut
    rw [State.regulate_of_rises (s := s.conversionOver) ((limitRises_iff _ _ _ _).mpr ⟨hcut, hclear⟩)]
    refine ⟨State.limitRise_causes _, State.limitRise_run _, ?_, ?_, ?_⟩
    · intro x hctx hst
      rw [State.limitRise_frame]
      simp [State.conversionOver, hctx, FrameCtx.markLimited_of_exposing hst]
    · exact fun hctx => State.limitRise_frame_of_none hctx
    · simp [State.conversionOver]

end Sys2Proof.Machine

/-! PROOF. The law of the laser gate (R98): an operation that leaves the lock state, the run state and the gate keeps the
law; one that brings the gate to its law makes it, whatever stood before. Every meaning is made of the two kinds, and the
statement is StepKeepsGateLaw. -/

namespace Sys2Proof.Machine

/-! ## What the law rests on -/

/-- The law speaks of three values: an operation that leaves them keeps it. -/
theorem GateLawful.of_unchanged {s t : State} (h : GateLawful s)
    (hsame : t.scan.lock = s.scan.lock ∧ t.run.state = s.run.state ∧ t.power.gateOpen = s.power.gateOpen) :
    GateLawful t := by
  obtain ⟨hlock, hrun, hgate⟩ := hsame
  unfold GateLawful
  rw [hlock, hrun, hgate]
  exact h

theorem gateLaw_of_not_locked {l : LockState} (r : RunState) (hl : l ≠ .locked) : gateLaw l r = false := by
  simp [gateLaw, hl]

/-- The lock states other than LOCKED are one to the gate. -/
theorem GateLawful.of_not_locked {s t : State} (h : GateLawful s) (hs : s.scan.lock ≠ .locked)
    (ht : t.scan.lock ≠ .locked) (hgate : t.power.gateOpen = s.power.gateOpen) : GateLawful t := by
  unfold GateLawful at h ⊢
  rw [hgate, h, gateLaw_of_not_locked _ hs, gateLaw_of_not_locked _ ht]

theorem GateLawful.ite {t u : State} {p : Prop} [Decidable p] (ht : GateLawful t) (hu : GateLawful u) :
    GateLawful (if p then t else u) := by
  split
  · exact ht
  · exact hu

/-! ## The gate in the Regulator's operations (R98, R99) -/

@[simp] theorem Power.clearDarkHalt_gateOpen (p : Power) : p.clearDarkHalt.gateOpen = p.gateOpen := rfl
@[simp] theorem Power.driveSwapped_gateOpen (p : Power) : p.driveSwapped.gateOpen = p.gateOpen := rfl
@[simp] theorem Power.regulated_gateOpen (p : Power) (f : PowerFields) (ch : Channel) (m : Nat) :
    (p.regulated f ch m).gateOpen = p.gateOpen := rfl
@[simp] theorem Power.endSettle_gateOpen (p : Power) : p.endSettle.gateOpen = p.gateOpen := by
  unfold Power.endSettle
  split <;> rfl
@[simp] theorem Power.sampled_gateOpen (p : Power) (m : BitVec 10) : (p.sampled m).gateOpen = p.gateOpen := by
  unfold Power.sampled
  split <;> rfl
@[simp] theorem Power.countDark_gateOpen (p : Power) (ch : Channel) : (p.countDark ch).1.gateOpen = p.gateOpen := by
  unfold Power.countDark
  split <;> rfl
@[simp] theorem Power.channelSettled_gateOpen (p : Power) : p.channelSettled.1.gateOpen = p.gateOpen := by
  unfold Power.channelSettled
  split <;> rfl
@[simp] theorem Power.settleStep_gateOpen (p : Power) (f : PowerFields) (m : Nat) :
    (p.settleStep f m).1.gateOpen = p.gateOpen := by
  have hcounted : (p.settleCounted f m).gateOpen = p.gateOpen := rfl
  unfold Power.settleStep
  dsimp only
  split_ifs <;> simp [hcounted]

@[simp] theorem State.beginSettle_gateOpen (s : State) : s.beginSettle.power.gateOpen = s.power.gateOpen := by
  unfold State.beginSettle
  dsimp only
  split <;> rfl
@[simp] theorem State.endSettle_gateOpen (s : State) : s.endSettle.power.gateOpen = s.power.gateOpen := by
  simp [State.endSettle]
@[simp] theorem State.resumeSettleWait_gateOpen (s : State) : s.resumeSettleWait.power.gateOpen = s.power.gateOpen := by
  unfold State.resumeSettleWait
  split <;> rfl
@[simp] theorem State.settleLockLost_gateOpen (s : State) : s.settleLockLost.power.gateOpen = s.power.gateOpen := by
  unfold State.settleLockLost
  split <;> rfl
@[simp] theorem State.settleLockGained_gateOpen (s : State) : s.settleLockGained.power.gateOpen = s.power.gateOpen := by
  unfold State.settleLockGained
  split <;> rfl
@[simp] theorem State.swapTables_gateOpen (s : State) : s.swapTables.power.gateOpen = s.power.gateOpen := by
  unfold State.swapTables
  dsimp only
  split <;> simp
@[simp] theorem State.dropMarked_gateOpen (s : State) : s.dropMarked.power.gateOpen = s.power.gateOpen := rfl
@[simp] theorem State.cutLine_gateOpen (s : State) : s.cutLine.power.gateOpen = s.power.gateOpen := by
  unfold State.cutLine
  split <;> simp
@[simp] theorem State.regulateLine_gateOpen (s : State) : s.regulateLine.1.power.gateOpen = s.power.gateOpen := by
  unfold State.regulateLine
  split <;> rfl
@[simp] theorem State.regulatorLine_gateOpen (s : State) : s.regulatorLine.1.power.gateOpen = s.power.gateOpen := by
  unfold State.regulatorLine
  split
  · split
    · split
      · rfl
      · rfl
    · split
      · exact State.regulateLine_gateOpen s
      · rfl
    · rfl
  · rfl

/-! ## The lock state in the Scan Timing Unit's updates -/

@[simp] theorem ScanTiming.noWindow_lock (c : ScanTiming) : c.noWindow.lock = c.lock := rfl
@[simp] theorem ScanTiming.stopReference_lock (c : ScanTiming) : c.stopReference.lock = c.lock := rfl
@[simp] theorem ScanTiming.reloaded_lock (c : ScanTiming) (n : Nat) : (c.reloaded n).lock = c.lock := rfl
@[simp] theorem ScanTiming.markBad_lock (c : ScanTiming) : c.markBad.lock = c.lock := rfl
@[simp] theorem ScanTiming.gather_lock (c : ScanTiming) (i : Nat) : (c.gather i).lock = c.lock := rfl
@[simp] theorem ScanTiming.badRevolution_lock (c : ScanTiming) : c.badRevolution.lock = c.lock := rfl
@[simp] theorem ScanTiming.takeIndex_lock (c : ScanTiming) : c.takeIndex.lock = c.lock := by
  unfold ScanTiming.takeIndex
  split <;> rfl
@[simp] theorem ScanTiming.pixelEnded_lock (c : ScanTiming) (n : Nat) : (c.pixelEnded n).lock = c.lock := by
  unfold ScanTiming.pixelEnded
  split <;> rfl
@[simp] theorem State.cutLine_lock (s : State) : s.cutLine.scan.lock = s.scan.lock := by
  unfold State.cutLine
  split <;> simp
@[simp] theorem State.loseLock_lock (s : State) (l : LockState) : (s.loseLock l).scan.lock = l := by
  simp [State.loseLock]

/-! ## Changes of run state (R98, R164, R168) -/

theorem gateLawful_updateGate (s : State) : GateLawful s.updateGate := by simp [GateLawful]

theorem gateLawful_enterRunState (s : State) (r : RunState) : GateLawful (s.enterRunState r) :=
  gateLawful_updateGate _

theorem GateLawful.refresh {s : State} (h : GateLawful s) : GateLawful s.refresh := h.of_unchanged (by simp)

theorem GateLawful.raise {s : State} (h : GateLawful s) {c : Cause} : GateLawful (s.raise c) := h.of_unchanged (by simp)

theorem gateLawful_changeRunState (s : State) (r : RunState) : GateLawful (s.changeRunState r) :=
  (gateLawful_enterRunState s r).refresh

theorem gateLawful_enterHeld (s : State) (mark : Bool) : GateLawful (s.enterHeld mark) := by
  have hheld := gateLawful_enterRunState (s.stopSeekOfWaiting.setRun { s.run with pausePending := false }) .held
  exact (hheld.raise.ite hheld).refresh

theorem gateLawful_toIdle (s : State) : GateLawful s.toIdle := by simp [GateLawful, State.toIdle]

/-- The close of a run ends with the return to IDLE, which closes the gate. -/
theorem gateLawful_endRun (s : State) : GateLawful s.endRun := gateLawful_toIdle _

/-- A halt that is taken closes the gate; one that is not taken leaves run state and gate. -/
theorem GateLawful.halt {s : State} (h : GateLawful s) (c : HaltCause) : GateLawful (s.halt c) := by
  unfold State.halt
  split
  · exact (gateLawful_enterRunState _ _).raise.refresh
  · split
    · exact h.of_unchanged (by simp)
    · exact h

theorem GateLawful.haltPowerLimit {s : State} (h : GateLawful s) : GateLawful s.haltPowerLimit :=
  GateLawful.halt (h.of_unchanged (by simp)) _

/-! ## Frame Exposure and the transport (R5, R7, R8, R106, R125) -/

theorem GateLawful.refuseFrame {s : State} (h : GateLawful s) (c : FrameCtx) (why : Reason) :
    GateLawful (s.refuseFrame c why) :=
  GateLawful.halt (h.of_unchanged (by simp)) _

theorem GateLawful.enterPreparing {s : State} (h : GateLawful s) (c : FrameCtx) : GateLawful (s.enterPreparing c) := by
  unfold State.enterPreparing
  dsimp only
  split
  · exact GateLawful.halt (h.of_unchanged (by simp)) _
  · split
    · exact h.of_unchanged (by simp)
    · exact GateLawful.refuseFrame (h.of_unchanged (by simp)) _ _

theorem GateLawful.laserDark {s : State} (h : GateLawful s) : GateLawful s.laserDark := by
  unfold State.laserDark
  split
  · split
    · exact h.halt _
    · exact h.of_unchanged (by simp)
    · exact h.of_unchanged (by simp)
  · split
    · exact h.halt _
    · exact h.of_unchanged (by simp)

theorem GateLawful.leaderCycle {s : State} (h : GateLawful s) : GateLawful s.leaderCycle := by
  unfold State.leaderCycle
  split
  · exact h
  · split_ifs
    · exact h.halt _
    · exact h.of_unchanged (by simp)
    · exact h

/-! ## The Card Sequencer (R70, R135 to R140) -/

theorem GateLawful.takeCourse {s : State} {adv : State → State} (h : GateLawful s)
    (hadv : ∀ u, GateLawful u → GateLawful (adv u)) (c : Course) : GateLawful (s.takeCourse c adv) := by
  cases c with
  | ending => exact gateLawful_endRun s
  | tableLoad => exact h.halt _
  | powerLimit => exact h.haltPowerLimit
  | held => exact gateLawful_enterHeld s _
  | advance => exact hadv s h
  | stays => exact h

theorem GateLawful.takeFrameCourse {s : State} {adv : State → State} (h : GateLawful s)
    (hadv : ∀ u, GateLawful u → GateLawful (adv u)) (c : FrameCourse) : GateLawful (s.takeFrameCourse c adv) := by
  cases c with
  | ending => exact gateLawful_endRun s
  | halt cause => exact h.halt cause
  | powerLimit => exact h.haltPowerLimit
  | held mark => exact gateLawful_enterHeld s mark
  | advance => exact hadv s h

theorem GateLawful.advanceRecord {s : State} (h : GateLawful s) : GateLawful s.advanceRecord := h.of_unchanged (by simp)

theorem GateLawful.dispatchDump {s : State} (h : GateLawful s) (target : Nat) (dest : Addr) :
    GateLawful (s.dispatchDump target dest) := by
  unfold State.dispatchDump
  split
  · split
    · exact h.of_unchanged (by simp)
    · exact GateLawful.takeCourse (h.of_unchanged (by simp)) (fun _ hu => hu.advanceRecord) _
  · exact h

theorem GateLawful.dispatchCalibrate {s : State} (h : GateLawful s) : GateLawful s.dispatchCalibrate := by
  unfold State.dispatchCalibrate
  exact (h.of_unchanged (by simp)).ite (GateLawful.halt (h.of_unchanged (by simp)) _)

theorem GateLawful.dispatchBody {s : State} (h : GateLawful s) (b : CardBody) : GateLawful (s.dispatchBody b) := by
  cases b with
  | frame c => exact h.enterPreparing _
  | leader count noEdge => exact GateLawful.leaderCycle (h.of_unchanged (by simp))
  | table target source sum => exact h.of_unchanged (t := s.dispatchTable target source sum) (by simp)
  | dump target dest => exact h.dispatchDump target dest
  | calibrate => exact h.dispatchCalibrate
  | hold => exact gateLawful_enterHeld _ _
  | endCard => exact gateLawful_endRun _
  | unknown kind => exact h

theorem GateLawful.refuseInvalid {s : State} (h : GateLawful s) (why : Reason) (field : Nat) (b : CardBody) :
    GateLawful (s.refuseInvalid why field b) :=
  GateLawful.halt (h.of_unchanged (by simp)) _

theorem GateLawful.actOnCard {s : State} (h : GateLawful s) : GateLawful s.actOnCard := by
  unfold State.actOnCard
  dsimp only
  split
  · exact GateLawful.dispatchBody (h.of_unchanged (by simp)) _
  · exact GateLawful.refuseInvalid (h.of_unchanged (by simp)) _ _ _
  · exact GateLawful.halt (h.of_unchanged (by simp)) _
  · exact h.of_unchanged (by simp)

theorem GateLawful.becomeCurrent {s : State} (h : GateLawful s) : GateLawful s.becomeCurrent :=
  GateLawful.actOnCard (h.of_unchanged (by simp))

theorem GateLawful.takeUp {s : State} (h : GateLawful s) : GateLawful s.takeUp := by
  unfold State.takeUp
  exact h.becomeCurrent.ite h

theorem GateLawful.advance {s : State} (h : GateLawful s) : GateLawful s.advance := h.advanceRecord.takeUp

theorem GateLawful.actAnew {s : State} (h : GateLawful s) : GateLawful s.actAnew := h.actOnCard.takeUp

theorem GateLawful.finishFrame {s : State} (h : GateLawful s) (c : FrameCtx) (o : ResultOutcome) :
    GateLawful (s.finishFrame c o) :=
  GateLawful.takeFrameCourse (h.of_unchanged (by simp)) (fun _ hu => hu.advance) _

theorem GateLawful.finishLeader {s : State} (h : GateLawful s) (l : LeaderCard) : GateLawful (s.finishLeader l) :=
  GateLawful.takeCourse (h.of_unchanged (by simp)) (fun _ hu => hu.advance) _

theorem GateLawful.finishLoad {s : State} (h : GateLawful s) (l : Load) : GateLawful (s.finishLoad l) :=
  GateLawful.takeCourse (h.of_unchanged (by simp)) (fun _ hu => hu.advance) _

theorem GateLawful.finishDump {s : State} (h : GateLawful s) (d : Dump) : GateLawful (s.finishDump d) :=
  GateLawful.takeCourse (h.of_unchanged (by simp)) (fun _ hu => hu.advance) _

theorem GateLawful.finishCalibrate {s : State} (h : GateLawful s) : GateLawful s.finishCalibrate :=
  GateLawful.takeCourse (h.of_unchanged (by simp)) (fun _ hu => hu.advance) _

theorem GateLawful.dumpOn {s : State} (h : GateLawful s) : GateLawful s.dumpOn := by
  unfold State.dumpOn
  split
  · exact h
  · split
    · exact h.of_unchanged (by simp)
    · exact GateLawful.finishDump (h.of_unchanged (by simp)) _

/-! ## PRIMING and the decks (R96, R148, R149, R159 to R161, R165) -/

theorem GateLawful.primingStage7 {s : State} (h : GateLawful s) : GateLawful s.primingStage7 :=
  h.of_unchanged (by simp [State.primingStage7])

theorem GateLawful.primingStage6 {s : State} (h : GateLawful s) : GateLawful s.primingStage6 := by
  unfold State.primingStage6
  exact (h.of_unchanged (by simp)).ite (GateLawful.primingStage7 (h.of_unchanged (by simp)))

theorem GateLawful.primingStage5 {s : State} (h : GateLawful s) : GateLawful s.primingStage5 :=
  h.of_unchanged ⟨rfl, rfl, rfl⟩

theorem GateLawful.primingLocked {s : State} (h : GateLawful s) : GateLawful s.primingLocked := by
  unfold State.primingLocked
  split
  · split
    · exact h.primingStage6
    · exact h
  · exact h

theorem GateLawful.resumePriming {s : State} (h : GateLawful s) (stage : Nat) : GateLawful (s.resumePriming stage) := by
  unfold State.resumePriming
  split
  · split
    · exact h.primingStage6
    · exact h.primingStage5
  · split
    · split
      · exact h.of_unchanged (by simp)
      · exact h.primingStage7
      · exact h.primingStage6
    · split
      · exact h.primingStage7
      · exact h

theorem GateLawful.settleLockLost {s : State} (h : GateLawful s) : GateLawful s.settleLockLost :=
  h.of_unchanged (by simp)

theorem gateLawful_primeScan (s : State) : GateLawful s.primeScan := by
  unfold State.primeScan
  exact (gateLawful_updateGate _).settleLockLost.ite (gateLawful_updateGate _)

/-- Of stages 2 to 4 stage 3 has the last word on the lock and the gate; the START values keep the gate (R96, R99). -/
theorem gateLawful_setUp (s : State) : GateLawful s.setUp :=
  GateLawful.of_unchanged (gateLawful_primeScan _) ⟨rfl, rfl, rfl⟩

theorem gateLawful_validateStart (s : State) (data : Option (List Byte)) (stageBefore : Nat) :
    GateLawful (s.validateStart data stageBefore) := by
  unfold State.validateStart
  split
  · exact gateLawful_toIdle _
  · split
    · exact (gateLawful_setUp _).primingStage5
    · exact gateLawful_toIdle _

theorem GateLawful.takeDeck {s : State} (h : GateLawful s) (d : DeckHeader) : GateLawful (s.takeDeck d) := by
  unfold State.takeDeck
  apply GateLawful.advance
  split
  · exact h.of_unchanged (by simp)
  · exact gateLawful_changeRunState _ _
  · exact gateLawful_changeRunState _ _

theorem GateLawful.waitForDeck {s : State} (h : GateLawful s) : GateLawful s.waitForDeck := by
  unfold State.waitForDeck
  dsimp only
  split
  · exact h.of_unchanged (by simp)
  · exact gateLawful_changeRunState _ _

theorem GateLawful.actOnHeader {s : State} (h : GateLawful s) (data : Option (List Byte)) :
    GateLawful (s.actOnHeader data) := by
  unfold State.actOnHeader
  dsimp only
  split
  · exact GateLawful.halt (h.of_unchanged (by simp)) _
  · split_ifs
    · exact GateLawful.takeDeck (h.of_unchanged (by simp)) _
    · exact GateLawful.halt (h.of_unchanged (by simp)) _
    · exact GateLawful.waitForDeck (h.of_unchanged (by simp))

/-! ## The Scan Timing Unit (R81 to R94) -/

theorem GateLawful.settleLockGained {s : State} (h : GateLawful s) : GateLawful s.settleLockGained :=
  h.of_unchanged (by simp)

theorem gateLawful_loseLock (s : State) (l : LockState) : GateLawful (s.loseLock l) :=
  (gateLawful_updateGate _).settleLockLost

theorem gateLawful_gainLock (s : State) : GateLawful s.gainLock :=
  (gateLawful_updateGate _).settleLockGained.primingLocked

theorem GateLawful.failLock {s : State} (h : GateLawful s) : GateLawful s.failLock := by
  unfold State.failLock
  exact (gateLawful_loseLock s _).ite h

theorem State.failLock_not_locked (s : State) : s.failLock.scan.lock ≠ .locked := by
  unfold State.failLock
  split <;> simp_all

theorem GateLawful.stopScan {s : State} (h : GateLawful s) : GateLawful s.stopScan := by
  unfold State.stopScan
  dsimp only
  split
  next => exact (gateLawful_updateGate _).settleLockLost
  next hlock => exact h.of_not_locked (by simpa using hlock) (by simp [ScanTiming.stopped]) (by simp)

theorem GateLawful.overlapStage {s : State} (h : GateLawful s) : GateLawful s.overlapStage := by
  unfold State.overlapStage
  split
  · exact h
  · exact GateLawful.failLock (h.of_unchanged (by simp))

theorem State.overlapStage_not_locked {s : State} (hlock : s.scan.lock ≠ .locked) :
    s.overlapStage.scan.lock ≠ .locked := by
  unfold State.overlapStage
  split
  · exact hlock
  · exact State.failLock_not_locked _

theorem GateLawful.slip {s : State} (h : GateLawful s) : GateLawful s.slip := by
  unfold State.slip
  exact (GateLawful.failLock (h.of_unchanged (by simp))).ite (h.of_unchanged (by simp))

/-- Stage 3 moves the lock state among STOPPED, SPINNING and LOCKING by itself, and reports a loss of LOCKED (R84). -/
theorem GateLawful.facetStage {s : State} (h : GateLawful s) {start : LockState}
    (hstart : start ≠ .locked → s.scan.lock ≠ .locked) : GateLawful (s.facetStage start) := by
  unfold State.facetStage
  split
  · exact h.of_not_locked (hstart (by decide)) (by simp) (by simp)
  · split
    · exact h.of_not_locked (hstart (by decide)) (by simp) (by simp)
    · exact h.of_unchanged (by simp)
  · dsimp only
    split
    · exact GateLawful.slip (h.of_unchanged (by simp))
    · exact h.of_unchanged (by simp)

theorem GateLawful.averageStage {s : State} (h : GateLawful s) (d i : Nat) : GateLawful (s.averageStage d i) := by
  unfold State.averageStage
  exact (GateLawful.failLock (h.of_unchanged (by simp))).ite (h.of_unchanged (by simp))

theorem GateLawful.checkRevolution {s : State} (h : GateLawful s) (v : Revolution) :
    GateLawful (s.checkRevolution v) := by
  unfold State.checkRevolution
  dsimp only
  split
  · split
    · split
      · exact gateLawful_gainLock _
      · exact h.of_unchanged (by simp)
    · exact h.of_unchanged (by simp)
  · exact GateLawful.failLock (h.of_unchanged (by simp))

theorem GateLawful.revolutionStage {s : State} (h : GateLawful s) : GateLawful s.revolutionStage := by
  unfold State.revolutionStage
  split
  · split
    · exact h.checkRevolution _
    · exact h
  · exact h

theorem GateLawful.judgeStages {s : State} (h : GateLawful s) (start : LockState) (d : Nat) (i : Option Nat) :
    GateLawful (s.judgeStages start d i) := by
  unfold State.judgeStages
  split
  · exact h
  · exact h
  · split
    · exact (h.averageStage _ _).revolutionStage
    · exact h.revolutionStage

theorem GateLawful.lineStage {s : State} (h : GateLawful s) : GateLawful s.lineStage := by
  unfold State.lineStage
  split
  · exact h.of_unchanged (by simp)
  · exact h

theorem GateLawful.sosStages {s : State} (h : GateLawful s) : GateLawful s.sosStages := by
  have hreload : GateLawful (s.setScan (s.scan.reloaded s.rb.polygon.watchdog)) := h.of_unchanged (by simp)
  have hfacet := hreload.overlapStage.facetStage (start := s.scan.lock) fun hlock => State.overlapStage_not_locked hlock
  exact (hfacet.judgeStages _ _ _).lineStage

/-! ## The commands (R158 to R170) -/

/-- A meaning's outcome keeps the law. -/
def NextGateLawful (r : Result) : Prop := ∀ t, r = .next t → GateLawful t

theorem nextGateLawful_next {t : State} (h : GateLawful t) : NextGateLawful (.next t) := by
  rintro _ ⟨⟩
  exact h

theorem GateLawful.answer {s : State} (h : GateLawful s) (o : CommandOutcome) : GateLawful (s.answer o) :=
  h.of_unchanged ⟨rfl, rfl, rfl⟩

theorem nextGateLawful_execStart {s : State} (h : GateLawful s) : NextGateLawful (execStart s) := by
  unfold execStart
  split
  · exact nextGateLawful_next (GateLawful.of_unchanged (gateLawful_changeRunState _ .priming) ⟨rfl, rfl, rfl⟩)
  · exact nextGateLawful_next (h.answer _)

theorem GateLawful.acceptPause {s : State} (h : GateLawful s) : GateLawful s.acceptPause := by
  unfold State.acceptPause
  split
  · split
    · exact h.of_unchanged (by simp)
    · exact gateLawful_enterHeld s _
  · exact gateLawful_enterHeld s _

theorem nextGateLawful_execPause {s : State} (h : GateLawful s) : NextGateLawful (execPause s) := by
  unfold execPause
  split
  · exact nextGateLawful_next (h.answer _).acceptPause
  · exact nextGateLawful_next (h.answer _).acceptPause
  · exact nextGateLawful_next (h.answer _)

theorem GateLawful.resumeFrame {s : State} (h : GateLawful s) : GateLawful s.resumeFrame := by
  unfold State.resumeFrame
  split
  · exact h
  · split
    · exact h.enterPreparing _
    · split
      · exact h.enterPreparing _
      · exact h
    · exact h

theorem GateLawful.resumeCalibrate {s : State} (h : GateLawful s) : GateLawful s.resumeCalibrate := by
  unfold State.resumeCalibrate
  split
  · exact h.of_unchanged (by simp)
  · exact h.of_unchanged (by simp)
  · exact h

theorem GateLawful.resumeCard {s : State} (h : GateLawful s) : GateLawful s.resumeCard := by
  unfold State.resumeCard
  split
  · exact h.of_unchanged (by simp)
  · exact h.resumeFrame
  · exact h.leaderCycle
  · exact h.resumeCalibrate
  all_goals exact h

theorem GateLawful.resumeRunning {s : State} (h : GateLawful s) : GateLawful s.resumeRunning := by
  unfold State.resumeRunning
  split
  · split
    · exact h.resumeCard
    · split
      · exact h.actAnew
      · exact h
  · exact h.advance

theorem GateLawful.resumeAt {s : State} (h : GateLawful s) (p : ResumePoint) : GateLawful (s.resumeAt p) := by
  cases p with
  | priming stage => exact h.resumePriming stage
  | waiting => exact h.of_unchanged (t := s.seekDeck) (by simp)
  | running => exact h.resumeRunning

theorem gateLawful_acceptResume (s : State) (p : ResumePoint) : GateLawful (s.acceptResume p) :=
  (gateLawful_changeRunState _ _).resumeAt p

theorem nextGateLawful_execResume {s : State} (h : GateLawful s) : NextGateLawful (execResume s) := by
  unfold execResume
  split
  · exact nextGateLawful_next (gateLawful_acceptResume s _)
  · split
    · exact nextGateLawful_next (gateLawful_acceptResume s _)
    · exact nextGateLawful_next (h.answer _)
  · exact nextGateLawful_next (h.answer _)

theorem GateLawful.stopCard {s : State} (h : GateLawful s) : GateLawful s.stopCard := by
  unfold State.stopCard
  split
  · split
    · exact gateLawful_endRun s
    · split
      · exact gateLawful_endRun s
      · exact h
      · exact h
      · exact h.of_unchanged (by simp)
  · split
    · exact h
    · exact gateLawful_endRun s
  · exact h
  · exact h
  · exact gateLawful_endRun _
  · exact gateLawful_endRun s

theorem GateLawful.acceptStop {s : State} (h : GateLawful s) : GateLawful s.acceptStop := by
  have hpending : GateLawful (s.setRun { s.run with stopPending := true }) := h.of_unchanged ⟨rfl, rfl, rfl⟩
  unfold State.acceptStop
  dsimp only
  split
  · split_ifs
    · exact hpending
    · exact hpending.stopCard
    · exact gateLawful_endRun _
  · exact gateLawful_endRun _

theorem nextGateLawful_execStop {s : State} (h : GateLawful s) : NextGateLawful (execStop s) := by
  unfold execStop
  split
  · exact nextGateLawful_next (h.answer _).acceptStop
  · exact nextGateLawful_next (h.answer _).acceptStop
  · exact nextGateLawful_next (h.answer _).acceptStop
  · exact nextGateLawful_next (h.answer _).acceptStop
  · exact nextGateLawful_next (h.answer _)

theorem GateLawful.abortCard {s : State} (h : GateLawful s) : GateLawful s.abortCard := by
  unfold State.abortCard
  split
  · split
    · exact gateLawful_endRun s
    · split
      · exact gateLawful_endRun s
      · exact h.of_unchanged (by simp)
      · exact h
      · exact h.of_unchanged (by simp)
  · split
    · exact h
    · exact gateLawful_endRun s
  · exact gateLawful_endRun _
  · exact gateLawful_endRun s

theorem GateLawful.acceptAbort {s : State} (h : GateLawful s) : GateLawful s.acceptAbort := by
  have hpending : GateLawful (s.setRun { s.run with stopPending := true, abortRecord := true }) :=
    h.of_unchanged ⟨rfl, rfl, rfl⟩
  unfold State.acceptAbort
  dsimp only
  split
  · exact h
  · exact gateLawful_endRun _
  · split
    · exact hpending.abortCard
    · exact gateLawful_endRun _
  · exact gateLawful_endRun _

theorem nextGateLawful_execAbort {s : State} (h : GateLawful s) : NextGateLawful (execAbort s) := by
  unfold execAbort
  split
  · exact nextGateLawful_next (h.answer _)
  · exact nextGateLawful_next (h.answer _).acceptAbort

theorem nextGateLawful_execSpinDown {s : State} (h : GateLawful s) : NextGateLawful (execSpinDown s) := by
  unfold execSpinDown
  dsimp only
  split
  · split
    · exact nextGateLawful_next ((h.answer .accepted).of_unchanged (by simp)).stopScan
    · exact nextGateLawful_next (h.answer _)
  · exact nextGateLawful_next (h.answer _)

theorem nextGateLawful_execRunaddrWrite {s : State} (h : GateLawful s) (high : Bool) (value : BitVec 32) :
    NextGateLawful (execRunaddrWrite high value s) := by
  unfold execRunaddrWrite
  split
  · exact nextGateLawful_next (h.of_unchanged (by simp))
  · exact nextGateLawful_next h

/-! ## The scan's events (R78 to R110) -/

theorem nextGateLawful_execSosEvent {s : State} (h : GateLawful s) : NextGateLawful (execSosEvent s) := by
  unfold execSosEvent
  dsimp only
  split_ifs
  · exact nextGateLawful_next h
  · exact nextGateLawful_next (GateLawful.sosStages (h.of_unchanged (by simp)))
  · exact nextGateLawful_next (h.of_unchanged (by simp))

theorem nextGateLawful_execIndexEvent {s : State} (h : GateLawful s) : NextGateLawful (execIndexEvent s) := by
  unfold execIndexEvent
  split
  · exact nextGateLawful_next h
  · exact nextGateLawful_next (h.of_unchanged (by simp))

theorem nextGateLawful_execWatchdogExpiry {s : State} (h : GateLawful s) : NextGateLawful (execWatchdogExpiry s) := by
  unfold execWatchdogExpiry
  split
  · exact nextGateLawful_next h.stopScan
  · exact nextGateLawful_next h

theorem nextGateLawful_execQualifiedLevelFall {s : State} (h : GateLawful s) (input : SensorInput) :
    NextGateLawful (execQualifiedLevelFall input s) := by
  cases input with
  | startOfScan => exact nextGateLawful_next ((h.of_unchanged (by simp)).ite h)
  | index => exact nextGateLawful_next ((h.of_unchanged (by simp)).ite h)
  | perforation => exact nextGateLawful_next ((h.of_unchanged (by simp)).ite h)

theorem nextGateLawful_execPixelWindowOpen {s : State} (h : GateLawful s) : NextGateLawful (execPixelWindowOpen s) := by
  unfold execPixelWindowOpen
  split
  · exact nextGateLawful_next (h.of_unchanged (by simp))
  · exact nextGateLawful_next h

theorem nextGateLawful_execRasterPositionInterval {s : State} (h : GateLawful s) :
    NextGateLawful (execRasterPositionInterval s) := by
  unfold execRasterPositionInterval
  split
  · split
    · exact nextGateLawful_next (h.of_unchanged (by simp))
    · exact nextGateLawful_next h
  · exact nextGateLawful_next h

theorem nextGateLawful_execPixelWindowEnd {s : State} (h : GateLawful s) : NextGateLawful (execPixelWindowEnd s) := by
  unfold execPixelWindowEnd
  split
  · exact nextGateLawful_next (h.of_unchanged (by simp))
  · exact nextGateLawful_next h

theorem nextGateLawful_execMonitorWindowOpen {s : State} (h : GateLawful s) :
    NextGateLawful (execMonitorWindowOpen s) := by
  unfold execMonitorWindowOpen
  split
  · exact nextGateLawful_next (h.of_unchanged (by simp))
  · exact nextGateLawful_next h

theorem nextGateLawful_execMonitorWindowEnd {s : State} (h : GateLawful s) :
    NextGateLawful (execMonitorWindowEnd s) := by
  unfold execMonitorWindowEnd
  split
  · exact nextGateLawful_next (h.of_unchanged (by simp))
  · exact nextGateLawful_next h

theorem GateLawful.settleDone {s : State} (h : GateLawful s) : GateLawful s.settleDone := by
  unfold State.settleDone
  split
  · split
    · exact h.primingStage7
    · exact h
  · split
    · exact h.finishCalibrate
    · exact h

theorem GateLawful.useSettle {s : State} (h : GateLawful s) (m : Nat) : GateLawful (s.useSettle m) := by
  have hstep : GateLawful (s.setPower (s.power.settleStep s.rb.power m).1) := h.of_unchanged (by simp)
  unfold State.useSettle
  dsimp only
  split
  · exact hstep
  · exact hstep.settleDone
  · exact hstep.halt _

theorem GateLawful.regulate {s : State} (h : GateLawful s) (ch : Channel) (m : Nat) : GateLawful (s.regulate ch m) := by
  cases hrises : limitRises s.power s.rb.power ch m with
  | true =>
    rw [State.regulate_of_rises hrises]
    exact h.of_unchanged (by simp [State.limitRise_run])
  | false =>
    rw [State.regulate_of_not_rises hrises]
    exact h.of_unchanged (by simp)

theorem GateLawful.useRegulate {s : State} (h : GateLawful s) (ch : Channel) (m : Nat) :
    GateLawful (s.useRegulate ch m) := by
  unfold State.useRegulate
  dsimp only
  split
  · split
    · exact GateLawful.laserDark (h.of_unchanged (by simp))
    · exact h.of_unchanged (by simp)
  · exact h.regulate ch m

theorem GateLawful.useReading {s : State} (h : GateLawful s) (m : Sample) (reading : Nat) :
    GateLawful (s.useReading m reading) := by
  unfold State.useReading
  split
  · split
    · exact h.useRegulate _ _
    · exact h.useSettle _
  · exact h

theorem nextGateLawful_execConversionCompletion {s : State} (h : GateLawful s) (reading : BitVec 10) :
    NextGateLawful (execConversionCompletion reading s) := by
  unfold execConversionCompletion
  split
  · exact nextGateLawful_next (GateLawful.useReading (h.of_unchanged (by simp)) _ _)
  · exact nextGateLawful_next h

theorem nextGateLawful_execFrameLockWaitExpiry {s : State} (h : GateLawful s) :
    NextGateLawful (execFrameLockWaitExpiry s) := by
  unfold execFrameLockWaitExpiry
  split
  · exact nextGateLawful_next h
  · split
    · dsimp only
      split
      · exact nextGateLawful_next (h.of_unchanged (by simp))
      · exact nextGateLawful_next (GateLawful.halt (h.of_unchanged (by simp)) _)
    · exact nextGateLawful_next h
    · exact nextGateLawful_next h

theorem nextGateLawful_execPrimingLockWaitExpiry {s : State} (h : GateLawful s) :
    NextGateLawful (execPrimingLockWaitExpiry s) := by
  unfold execPrimingLockWaitExpiry
  split
  · dsimp only
    split
    · exact nextGateLawful_next (h.of_unchanged (by simp))
    · exact nextGateLawful_next (GateLawful.halt (h.of_unchanged (by simp)) _)
  · exact nextGateLawful_next h

theorem nextGateLawful_execSettleLockTimeoutExpiry {s : State} (h : GateLawful s) :
    NextGateLawful (execSettleLockTimeoutExpiry s) := by
  unfold execSettleLockTimeoutExpiry
  split
  · dsimp only
    split
    · exact nextGateLawful_next (h.of_unchanged (by simp))
    · exact nextGateLawful_next (GateLawful.halt (h.of_unchanged (by simp)) _)
  · exact nextGateLawful_next h

theorem nextGateLawful_execMotorReferenceToggle {s : State} (h : GateLawful s) :
    NextGateLawful (execMotorReferenceToggle s) := by
  unfold execMotorReferenceToggle
  split
  · exact nextGateLawful_next (h.of_unchanged (by simp))
  · exact nextGateLawful_next h

/-! ## The ends of reads and the poll timer (R50 to R53, R66, R133, R145, R148) -/

theorem nextGateLawful_execLineReadComplete {s : State} (h : GateLawful s) (id : Nat) (answer : Answer) :
    NextGateLawful (execLineReadComplete id answer s) := by
  unfold execLineReadComplete
  split
  · exact nextGateLawful_next (h.of_unchanged (by simp))
  · exact nextGateLawful_next h

theorem nextGateLawful_execLineReadTimerExpiry {s : State} (h : GateLawful s) (id : Nat) :
    NextGateLawful (execLineReadTimerExpiry id s) := by
  unfold execLineReadTimerExpiry
  split
  · exact nextGateLawful_next (h.of_unchanged (by simp))
  · exact nextGateLawful_next h

theorem GateLawful.afterLoadRead {s : State} (h : GateLawful s) : GateLawful s.afterLoadRead := by
  unfold State.afterLoadRead
  split
  · split
    · exact h.finishLoad _
    · exact h.of_unchanged (by simp)
  · exact h

theorem GateLawful.endLoadRead {s : State} (h : GateLawful s) (e : LoadRead) (data : Option (List Byte)) :
    GateLawful (s.endLoadRead e data) := by
  unfold State.endLoadRead
  dsimp only
  split
  · exact GateLawful.afterLoadRead (h.of_unchanged (by simp))
  · exact h.of_unchanged (by simp)

theorem nextGateLawful_execLoadReadComplete {s : State} (h : GateLawful s) (id : Nat) (answer : Answer) :
    NextGateLawful (execLoadReadComplete id answer s) := by
  unfold execLoadReadComplete
  split
  · exact nextGateLawful_next (h.endLoadRead _ _)
  · exact nextGateLawful_next h

theorem nextGateLawful_execLoadReadExpiry {s : State} (h : GateLawful s) (id : Nat) :
    NextGateLawful (execLoadReadExpiry id s) := by
  unfold execLoadReadExpiry
  split
  · exact nextGateLawful_next (h.endLoadRead _ _)
  · exact nextGateLawful_next h

theorem nextGateLawful_execRunBlockReadEnd {s : State} (h : GateLawful s) (id : Nat) (result : ReadEnd) :
    NextGateLawful (execRunBlockReadEnd id result s) := by
  unfold execRunBlockReadEnd
  split
  · dsimp only
    split_ifs
    · exact nextGateLawful_next (gateLawful_validateStart _ _ _)
    · exact nextGateLawful_next (h.of_unchanged (by simp))
    · exact nextGateLawful_next h
  · exact nextGateLawful_next h

theorem nextGateLawful_execHeaderReadEnd {s : State} (h : GateLawful s) (id : Nat) (result : ReadEnd) :
    NextGateLawful (execHeaderReadEnd id result s) := by
  unfold execHeaderReadEnd
  split
  · split_ifs
    · exact nextGateLawful_next (h.actOnHeader _)
    · exact nextGateLawful_next (h.of_unchanged (by simp))
    · exact nextGateLawful_next h
  · exact nextGateLawful_next h

theorem nextGateLawful_execPollTimerExpiry {s : State} (h : GateLawful s) : NextGateLawful (execPollTimerExpiry s) := by
  unfold execPollTimerExpiry
  split
  · exact nextGateLawful_next (h.of_unchanged (by simp))
  · exact nextGateLawful_next h

theorem GateLawful.currentDelivered {s : State} (h : GateLawful s) : GateLawful s.currentDelivered := by
  unfold State.currentDelivered
  split
  · split
    · exact h.actAnew
    · exact h.becomeCurrent
  · exact h

theorem nextGateLawful_execCardReadEnd {s : State} (h : GateLawful s) (id : Nat) (result : ReadEnd) :
    NextGateLawful (execCardReadEnd id result s) := by
  unfold execCardReadEnd
  dsimp only
  split_ifs
  · exact nextGateLawful_next (GateLawful.currentDelivered (h.of_unchanged (by simp)))
  · exact nextGateLawful_next (h.of_unchanged (by simp))
  · exact nextGateLawful_next h

/-! ## The film's events (R115 to R125) -/

theorem nextGateLawful_execStepIssue {s : State} (h : GateLawful s) : NextGateLawful (execStepIssue s) := by
  unfold execStepIssue
  split
  · exact nextGateLawful_next h
  · split
    · exact nextGateLawful_next (h.of_unchanged (by simp))
    · exact nextGateLawful_next (h.of_unchanged (by simp))
    · exact nextGateLawful_next (h.of_unchanged (by simp))
    · exact nextGateLawful_next h

theorem GateLawful.reportStill {s : State} (h : GateLawful s) : GateLawful s.reportStill := by
  unfold State.reportStill
  exact (h.halt _).ite h

theorem GateLawful.ownGood {s : State} (h : GateLawful s) (c : FrameCtx) (passed : Bool) :
    GateLawful (s.ownGood c passed) := by
  unfold State.ownGood
  dsimp only
  split
  · exact GateLawful.finishFrame (h.of_unchanged (by simp)) _ _
  · exact h.refresh.halt _

theorem GateLawful.afterSpoiled {s : State} (h : GateLawful s) (c : FrameCtx) (passed : Bool) :
    GateLawful (s.afterSpoiled c passed) := by
  unfold State.afterSpoiled
  split
  · exact GateLawful.halt (h.of_unchanged (by simp)) _
  · split
    · exact h.finishFrame _ _
    · split
      · exact h.halt _
      · exact h.halt _
      · exact h.enterPreparing _

theorem GateLawful.ownSpoiled {s : State} (h : GateLawful s) (c : FrameCtx) (passed : Bool) :
    GateLawful (s.ownSpoiled c passed) :=
  GateLawful.afterSpoiled (h.of_unchanged (by simp)) _ _

theorem GateLawful.afterLeader {s : State} (h : GateLawful s) (l : LeaderCard) (passed : Bool) :
    GateLawful (s.afterLeader l passed) := by
  unfold State.afterLeader
  split_ifs
  · exact h.halt _
  · exact h.finishLeader _
  · exact gateLawful_endRun s
  · exact h.leaderCycle

theorem GateLawful.ownLeader {s : State} (h : GateLawful s) (l : LeaderCard) (passed : Bool) :
    GateLawful (s.ownLeader l passed) :=
  GateLawful.afterLeader (h.of_unchanged (by simp)) _ _

theorem GateLawful.handCycle {s : State} (h : GateLawful s) (cycle : Option Cycle) (passed : Bool) :
    GateLawful (s.handCycle cycle passed) := by
  unfold State.handCycle
  split
  · exact h.refresh
  · split
    · split
      · split
        · exact h.ownSpoiled _ _
        · exact h.ownGood _ _
      · exact h.refresh
    · split
      · exact h.ownLeader _ _
      · exact h.refresh

theorem GateLawful.dwellEnd {s : State} (h : GateLawful s) : GateLawful s.dwellEnd := by
  have hcounted : GateLawful (s.countPosition.setFilm (s.countPosition.film.checked (perfPasses s))) :=
    h.of_unchanged (by simp)
  unfold State.dwellEnd
  exact (hcounted.reportStill.ite hcounted).handCycle _ _

theorem nextGateLawful_execDwellEnd {s : State} (h : GateLawful s) : NextGateLawful (execDwellEnd s) := by
  unfold execDwellEnd
  split
  · exact nextGateLawful_next h.dwellEnd
  · exact nextGateLawful_next h

theorem nextGateLawful_execSettlingPeriodEnd {s : State} (h : GateLawful s) :
    NextGateLawful (execSettlingPeriodEnd s) := by
  unfold execSettlingPeriodEnd
  split
  · dsimp only
    split
    · exact nextGateLawful_next (GateLawful.dwellEnd (h.of_unchanged (by simp)))
    · exact nextGateLawful_next (h.of_unchanged (by simp))
  · exact nextGateLawful_next h

theorem nextGateLawful_execPerfEdge {s : State} (h : GateLawful s) : NextGateLawful (execPerfEdge s) := by
  unfold execPerfEdge
  split
  · exact nextGateLawful_next h
  · exact nextGateLawful_next (h.of_unchanged (by simp))

theorem GateLawful.faultHalt {s : State} (h : GateLawful s) : GateLawful s.faultHalt :=
  GateLawful.halt (h.of_unchanged (by simp)) _

theorem nextGateLawful_execDriverFault {s : State} (h : GateLawful s) : NextGateLawful (execDriverFault s) := by
  unfold execDriverFault
  dsimp only
  split
  · exact nextGateLawful_next h
  · split
    · exact nextGateLawful_next (h.of_unchanged (by simp))
    · split
      · exact nextGateLawful_next (h.of_unchanged (by simp))
      · exact nextGateLawful_next (h.of_unchanged (by simp))
      · exact nextGateLawful_next (GateLawful.faultHalt (h.of_unchanged (by simp)))

theorem nextGateLawful_execFaultLevelClear {s : State} (h : GateLawful s) : NextGateLawful (execFaultLevelClear s) :=
  nextGateLawful_next ((h.of_unchanged (by simp)).ite h)

/-! ## One step -/

/-- Every command and event keeps the law. RESET and POWER_ON make it anew: STOPPED, IDLE and the gate CLOSED. -/
theorem nextGateLawful_exec {s : State} (h : GateLawful s) (i : Instr) : NextGateLawful (exec i s) := by
  cases i with
  | start => exact nextGateLawful_execStart h
  | pause => exact nextGateLawful_execPause h
  | resume => exact nextGateLawful_execResume h
  | stop => exact nextGateLawful_execStop h
  | abort => exact nextGateLawful_execAbort h
  | spinDown => exact nextGateLawful_execSpinDown h
  | reset => exact nextGateLawful_next rfl
  | unknownCommand code => exact nextGateLawful_next (h.answer _)
  | runaddrWrite high value => exact nextGateLawful_execRunaddrWrite h high value
  | attentionWrite value => exact nextGateLawful_next (h.of_unchanged (by simp))
  | registerWrite offset bytes value => exact nextGateLawful_next h
  | powerOn => exact nextGateLawful_next rfl
  | sosEvent => exact nextGateLawful_execSosEvent h
  | indexEvent => exact nextGateLawful_execIndexEvent h
  | watchdogExpiry => exact nextGateLawful_execWatchdogExpiry h
  | pixelWindowOpen => exact nextGateLawful_execPixelWindowOpen h
  | pixelWindowEnd => exact nextGateLawful_execPixelWindowEnd h
  | monitorWindowOpen => exact nextGateLawful_execMonitorWindowOpen h
  | monitorWindowEnd => exact nextGateLawful_execMonitorWindowEnd h
  | conversionCompletion reading => exact nextGateLawful_execConversionCompletion h reading
  | frameLockWaitExpiry => exact nextGateLawful_execFrameLockWaitExpiry h
  | primingLockWaitExpiry => exact nextGateLawful_execPrimingLockWaitExpiry h
  | settleLockTimeoutExpiry => exact nextGateLawful_execSettleLockTimeoutExpiry h
  | lineReadPart id error => exact nextGateLawful_next (h.of_unchanged (by simp))
  | lineReadComplete id answer => exact nextGateLawful_execLineReadComplete h id answer
  | lineReadTimerExpiry id => exact nextGateLawful_execLineReadTimerExpiry h id
  | loadReadComplete id answer => exact nextGateLawful_execLoadReadComplete h id answer
  | loadReadExpiry id => exact nextGateLawful_execLoadReadExpiry h id
  | runBlockReadEnd id result => exact nextGateLawful_execRunBlockReadEnd h id result
  | headerReadEnd id result => exact nextGateLawful_execHeaderReadEnd h id result
  | cardReadEnd id result => exact nextGateLawful_execCardReadEnd h id result
  | pollTimerExpiry => exact nextGateLawful_execPollTimerExpiry h
  | stepIssue => exact nextGateLawful_execStepIssue h
  | settlingPeriodEnd => exact nextGateLawful_execSettlingPeriodEnd h
  | dwellEnd => exact nextGateLawful_execDwellEnd h
  | perfEdge => exact nextGateLawful_execPerfEdge h
  | driverFault => exact nextGateLawful_execDriverFault h
  | rasterPositionInterval => exact nextGateLawful_execRasterPositionInterval h
  | motorReferenceToggle => exact nextGateLawful_execMotorReferenceToggle h
  | stepPulseEnd => exact nextGateLawful_next (h.of_unchanged (by simp))
  | qualifiedLevelFall input => exact nextGateLawful_execQualifiedLevelFall h input
  | faultLevelClear => exact nextGateLawful_execFaultLevelClear h

/-- The clock counts and samples; of the meanings it takes the dump's next write alone. -/
theorem GateLawful.idleStep {s : State} (h : GateLawful s) : GateLawful s.idleStep := by
  have htick : GateLawful s.tick := h.of_unchanged ⟨rfl, rfl, rfl⟩
  unfold State.idleStep
  split
  · exact htick.dumpOn
  · exact h.of_unchanged (by simp)

/-- Settles O5: a step is a command or event with the queue's rest in place, or the clock's, and each keeps the law. -/
theorem stepKeepsGateLaw : Obligations.StepKeepsGateLaw := by
  intro s t h hstep
  unfold step at hstep
  split at hstep
  · exact nextGateLawful_next h.idleStep t hstep
  · exact nextGateLawful_exec (h.of_unchanged (by simp)) _ t hstep

end Sys2Proof.Machine

/-! PROOF. The edge code (R127): the parity bits, the fields read back bit by bit, the code that the entry to PULLING
assembles, and the statement EdgeCodeFields. -/

namespace Sys2Proof.Machine

/-! ## The parity bits -/

/-- The ones among the low `w` bits of n, counted with their parity bit, are even in number. -/
theorem ones_add_evenParity_even (w n : Nat) :
    (((List.range w).map fun k => (n.testBit k).toNat).sum + (evenParity w n).toNat) % 2 = 0 := by
  induction w with
  | zero => rfl
  | succ w ih =>
    have hparity : (evenParity (w + 1) n).toNat = ((n.testBit w).toNat + (evenParity w n).toNat) % 2 := by
      rw [evenParity]
      cases n.testBit w <;> cases evenParity w n <;> rfl
    rw [List.range_succ, List.map_append, List.sum_append, List.map_singleton, List.sum_singleton, hparity]
    omega

/-! ## The fields, bit by bit -/

/-- Run number and kind as one number: the 14 bits that the code carries after the position. -/
def edgeTail (run kind : Nat) : Nat := run % 4096 + 4096 * (kind % 4)

theorem edgeTail_testBit {run kind : Nat} (hrun : run < 2 ^ 12) (hkind : kind < 4) (k : Nat) :
    (edgeTail run kind).testBit k = if k < 12 then run.testBit k else kind.testBit (k - 12) := by
  have htail : edgeTail run kind = 2 ^ 12 * kind + run := by unfold edgeTail; omega
  rw [htail, Nat.testBit_two_pow_mul_add kind hrun]

theorem edgeCodeOf_startPattern (position run kind : Nat) : (edgeCodeOf position run kind).extractLsb' 0 4 = 5 :=
  BitVec.extractLsb'_append_eq_right

/-- The bits of the code, field after field as they leave. The widths of the fields are written out, which the code's
type adds up to 44. -/
theorem edgeCodeOf_getLsbD (position run kind j : Nat) :
    (edgeCodeOf position run kind).getLsbD j =
      if j < 4 then (5 : BitVec 4).getLsbD j
      else if j < 28 then position.testBit (j - 4)
      else if j < 42 then (edgeTail run kind).testBit (j - 28)
      else if j < 43 then evenParity 24 position
      else decide (j < 44) && evenParity 14 (edgeTail run kind) := by
  have hfields : (edgeCodeOf position run kind).getLsbD j =
      BitVec.getLsbD (w := 1 + 1 + 14 + 24 + 4)
        (BitVec.ofBool (evenParity 14 (edgeTail run kind)) ++ BitVec.ofBool (evenParity 24 position) ++
          BitVec.ofNat 14 (edgeTail run kind) ++ BitVec.ofNat 24 position ++ (5 : BitVec 4)) j := rfl
  have hposition : j - 4 < 24 ↔ j < 28 := by omega
  have htail : j - 28 < 14 ↔ j < 42 := by omega
  have hpositionParity : j - 42 < 1 ↔ j < 43 := by omega
  have htailParity : j - 43 < 1 ↔ j < 44 := by omega
  rw [hfields]
  simp only [BitVec.getLsbD_append, BitVec.getLsbD_ofNat, BitVec.getLsbD_ofBool, Nat.sub_sub, ← Nat.lt_one_iff]
  simp only [Nat.reduceAdd, hposition, htail, hpositionParity, htailParity]
  split_ifs <;> simp only [*, decide_true, Bool.true_and]

theorem edgeCodeOf_getLsbD_position (position run kind : Nat) {k : Nat} (hk : k < 24) :
    (edgeCodeOf position run kind).getLsbD (4 + k) = position.testBit k := by
  rw [edgeCodeOf_getLsbD, if_neg (by omega), if_pos (by omega), Nat.add_sub_cancel_left]

theorem edgeCodeOf_getLsbD_tail (position run kind : Nat) {k : Nat} (hk : k < 14) :
    (edgeCodeOf position run kind).getLsbD (28 + k) = (edgeTail run kind).testBit k := by
  rw [edgeCodeOf_getLsbD, if_neg (by omega), if_neg (by omega), if_pos (by omega), Nat.add_sub_cancel_left]

theorem edgeCodeOf_getLsbD_positionParity (position run kind : Nat) :
    (edgeCodeOf position run kind).getLsbD 42 = evenParity 24 position :=
  edgeCodeOf_getLsbD position run kind 42

theorem edgeCodeOf_getLsbD_tailParity (position run kind : Nat) :
    (edgeCodeOf position run kind).getLsbD 43 = evenParity 14 (edgeTail run kind) :=
  edgeCodeOf_getLsbD position run kind 43

/-- A field of `w` bits from bit `i` that holds the low bits of n, with the bit of the code that holds its parity. -/
theorem field_parity_even {code : BitVec 44} {i w j n : Nat} (hfield : ∀ k < w, code.getLsbD (i + k) = n.testBit k)
    (hparity : code.getLsbD j = evenParity w n) :
    (((List.range w).map fun k => (code.getLsbD (i + k)).toNat).sum + (code.getLsbD j).toNat) % 2 = 0 := by
  have hbits : ((List.range w).map fun k => (code.getLsbD (i + k)).toNat) =
      (List.range w).map fun k => (n.testBit k).toNat :=
    List.map_congr_left fun k hk => congrArg Bool.toNat (hfield k (List.mem_range.mp hk))
  rw [hbits, hparity]
  exact ones_add_evenParity_even w n

/-! ## The entry to PULLING (R118) -/

theorem Film.enterPulling_edgeCode {f : Film} {y : Cycle} (rb : RunBlock) (hcycle : f.cycle = some y) :
    (f.enterPulling rb).edgeCode = edgeCodeOf y.position rb.runNumber y.kind.code := by
  have hassembled : (f.enterPulling rb).edgeCode = f.assemble rb := rfl
  rw [hassembled, Film.assemble, hcycle]

/-! ## The statement -/

/-- Settles O55: the run number's and the kind's bits are the low 12 and the high 2 of the tail, and each parity bit
stands over a field already read back. -/
theorem edgeCodeFields : Obligations.EdgeCodeFields := by
  intro position run kind _ hrun hkind
  have hposition (k : Nat) (hk : k < 24) := edgeCodeOf_getLsbD_position position run kind hk
  have htail (k : Nat) (hk : k < 14) := edgeCodeOf_getLsbD_tail position run kind hk
  refine ⟨edgeCodeOf_startPattern position run kind, hposition, ?run, ?kind,
    field_parity_even hposition (edgeCodeOf_getLsbD_positionParity position run kind),
    field_parity_even htail (edgeCodeOf_getLsbD_tailParity position run kind),
    rfl, rfl, rfl, fun _ rb _ hcycle => Film.enterPulling_edgeCode rb hcycle⟩
  case run =>
    intro k hk
    rw [htail _ (by omega), edgeTail_testBit hrun hkind, if_pos hk]
  case kind =>
    intro k hk
    have hbit : 40 + k = 28 + (12 + k) := by omega
    rw [hbit, htail _ (by omega), edgeTail_testBit hrun hkind, if_neg (by omega), Nat.add_sub_cancel_left]

end Sys2Proof.Machine

/-! PROOF. What every step keeps, said once. `Steady` relates two states of which the second is reached from the first by
operations of the model, and each operation has its lemma in the form `h.op`: a state steady so far stays so through op. -/

namespace Sys2Proof.Machine

/-! ## The relation -/

/-- What every step from s to t keeps: queue, pins, the bus log but for what is added to it, the bounds and the laws. -/
structure LawsKept (s t : State) : Prop where
  pending : t.pending = s.pending
  pins : t.pins = s.pins
  bus : s.bus <+: t.bus
  irq : IrqLawful s → IrqLawful t
  drive : DriveLawful s → DriveLawful t
  ring : RingBounded s → RingBounded t
  loads : LoadsBounded s → LoadsBounded t
  offsets : OffsetsLimited s → OffsetsLimited t
  spoils : SpoilListBounded s → SpoilListBounded t
  dark : DarkCountsBounded s → DarkCountsBounded t
  perfs : PerfCountBounded s → PerfCountBounded t
  snapshot : SnapshotOffInIdle s → SnapshotOffInIdle t
  context : ContextLawful s → ContextLawful t

/-- What may be among the operations of a step: a dwell end, which moves the film's counts, the answer to a command, the
host's clearing of causes, and the record of a spoil. -/
structure Scope where
  dwell : Prop
  answer : Prop
  clears : Prop
  spoils : Prop

/-- The transport's counts, which a dwell end alone moves (R120). -/
def Film.counts (f : Film) : Nat × Nat × Nat × Nat × Nat := (f.counter, f.magazine, f.good, f.spoiled, f.leaders)

/-- The counts of spoil entries written and dropped (R23). -/
def FrameExposure.entries (f : FrameExposure) : Nat × Nat := (f.entriesWritten, f.entriesDropped)

/-- The laws kept, the run block copy too, and the counts, the command outcome and the causes but for what `may` allows. -/
structure Steady (may : Scope) (s t : State) : Prop extends LawsKept s t where
  rb : t.rb = s.rb
  counts : may.dwell ∨ t.film.counts = s.film.counts
  entries : may.spoils ∨ t.frame.entries = s.frame.entries
  causes : may.clears ∨ ∀ i, s.regs.causes.getLsbD i = true → t.regs.causes.getLsbD i = true
  outcome : may.answer ∨ t.run.lastOutcome = s.run.lastOutcome

variable {may : Scope} {s t u : State}

theorem LawsKept.refl (s : State) : LawsKept s s :=
  ⟨rfl, rfl, List.prefix_rfl, id, id, id, id, id, id, id, id, id, id⟩

theorem Steady.refl (s : State) : Steady may s s := ⟨.refl s, rfl, .inr rfl, .inr rfl, .inr fun _ => id, .inr rfl⟩

theorem Steady.trans (h : Steady may s t) (k : Steady may t u) : Steady may s u where
  pending := k.pending.trans h.pending
  pins := k.pins.trans h.pins
  rb := k.rb.trans h.rb
  bus := h.bus.trans k.bus
  irq := k.irq ∘ h.irq
  drive := k.drive ∘ h.drive
  ring := k.ring ∘ h.ring
  loads := k.loads ∘ h.loads
  offsets := k.offsets ∘ h.offsets
  spoils := k.spoils ∘ h.spoils
  dark := k.dark ∘ h.dark
  perfs := k.perfs ∘ h.perfs
  counts := by
    obtain hm | h := h.counts
    · exact .inl hm
    · exact k.counts.imp_right fun k => k.trans h
  entries := by
    obtain hm | h := h.entries
    · exact .inl hm
    · exact k.entries.imp_right fun k => k.trans h
  causes := by
    obtain hm | h := h.causes
    · exact .inl hm
    · exact k.causes.imp_right fun k i => k i ∘ h i
  outcome := by
    obtain hm | h := h.outcome
    · exact .inl hm
    · exact k.outcome.imp_right fun k => k.trans h
  snapshot := k.snapshot ∘ h.snapshot
  context := k.context ∘ h.context

theorem Steady.ite {p : Prop} [Decidable p] (h : Steady may s t) (k : Steady may s u) :
    Steady may s (if p then t else u) := by
  split
  · exact h
  · exact k

/-! ## Updates of one block -/

theorem Steady.busWrite (h : Steady may s t) {a : Addr} {data : List Byte} : Steady may s (t.busWrite a data) :=
  h.trans { Steady.refl t with bus := List.prefix_append _ _ }

theorem Steady.busRead (h : Steady may s t) {a : Addr} {n : Nat} : Steady may s (t.busRead a n) :=
  h.trans { Steady.refl t with bus := List.prefix_append _ _ }

theorem Steady.setNextId (h : Steady may s t) {n : Nat} : Steady may s (t.setNextId n) :=
  h.trans { Steady.refl t with }

theorem Steady.setSeq (h : Steady may s t) {v : Sequencer} : Steady may s (t.setSeq v) :=
  h.trans { Steady.refl t with }

theorem Steady.setScan (h : Steady may s t) {v : ScanTiming} : Steady may s (t.setScan v) :=
  h.trans { Steady.refl t with }

/-- A deck reader's update that keeps the snapshot as it was. -/
theorem Steady.setDeck {v : DeckReader} (hkeep : v.snapshotEnabled = t.deck.snapshotEnabled) (h : Steady may s t) :
    Steady may s (t.setDeck v) :=
  h.trans { Steady.refl t with snapshot := fun hlaw hidle => hkeep.trans (hlaw hidle) }

theorem lawsKept_setRun {v : RunCtl} (hkeep : (v.state, v.resume) = (t.run.state, t.run.resume)) :
    LawsKept t (t.setRun v) := by
  obtain ⟨hstate, hresume⟩ := Prod.mk.inj hkeep
  exact
    { LawsKept.refl t with
      snapshot := by simp [SnapshotOffInIdle, hstate], context := by simp [ContextLawful, hstate, hresume] }

/-- A Run Controller's update that keeps run state, resume point and command outcome. -/
theorem Steady.setRun {v : RunCtl}
    (hkeep : ((v.state, v.resume), v.lastOutcome) = ((t.run.state, t.run.resume), t.run.lastOutcome))
    (h : Steady may s t) : Steady may s (t.setRun v) := by
  obtain ⟨hlaws, houtcome⟩ := Prod.mk.inj hkeep
  exact h.trans { Steady.refl t with toLawsKept := lawsKept_setRun hlaws, outcome := .inr houtcome }

/-- A Run Controller's update that answers a command, run state and resume point kept. -/
theorem Steady.setRun_answer {v : RunCtl} (hkeep : (v.state, v.resume) = (t.run.state, t.run.resume))
    (hmay : may.answer) (h : Steady may s t) : Steady may s (t.setRun v) :=
  h.trans { Steady.refl t with toLawsKept := lawsKept_setRun hkeep, outcome := .inl hmay }

/-- A Regulator's update that keeps the bounds on power offsets and dark counts. -/
theorem Steady.setPower_bounded (h : Steady may s t) {p : Power}
    (hpwr : OffsetsLimited t → OffsetsLimited (t.setPower p))
    (hdark : DarkCountsBounded t → DarkCountsBounded (t.setPower p)) : Steady may s (t.setPower p) :=
  h.trans { Steady.refl t with offsets := hpwr, dark := hdark }

/-- A Regulator's update that keeps power offsets and dark counts. -/
theorem Steady.setPower {p : Power} (hkeep : (p.pwr, p.dark) = (t.power.pwr, t.power.dark)) (h : Steady may s t) :
    Steady may s (t.setPower p) := by
  obtain ⟨hpwr, hdark⟩ := Prod.mk.inj hkeep
  exact h.setPower_bounded (by simp [OffsetsLimited, hpwr]) (by simp [DarkCountsBounded, hdark])

/-- A transport's update that keeps the counts and the perf count. -/
theorem Steady.setFilm {f : Film} (hkeep : (f.counts, f.perfCount) = (t.film.counts, t.film.perfCount))
    (h : Steady may s t) : Steady may s (t.setFilm f) := by
  obtain ⟨hcounts, hperf⟩ := Prod.mk.inj hkeep
  exact h.trans { Steady.refl t with perfs := fun hlaw => hperf.trans_le hlaw, counts := .inr hcounts }

/-- A transport's update that begins a cycle: the counts kept, the perf count cleared. -/
theorem Steady.setFilm_begun {f : Film} (hkeep : (f.counts, f.perfCount) = (t.film.counts, 0))
    (h : Steady may s t) : Steady may s (t.setFilm f) := by
  obtain ⟨hcounts, hperf⟩ := Prod.mk.inj hkeep
  exact h.trans { Steady.refl t with perfs := fun _ => hperf.trans_le (Nat.zero_le _), counts := .inr hcounts }

/-- A Datapath's update that keeps mode, inputs and monitor channel. -/
theorem Steady.setDp {d : Datapath}
    (hkeep : (d.mode, d.drive, d.monitorChannel) = (t.dp.mode, t.dp.drive, t.dp.monitorChannel))
    (h : Steady may s t) : Steady may s (t.setDp d) := by
  obtain ⟨hmode, hrest⟩ := Prod.mk.inj hkeep
  obtain ⟨hdrive, hch⟩ := Prod.mk.inj hrest
  exact h.trans { Steady.refl t with drive := by simp [DriveLawful, hmode, hdrive, hch] }

/-- A Datapath's update that keeps the law of the inputs (R41). -/
theorem Steady.setDp_lawful (h : Steady may s t) {d : Datapath} (hdrive : DriveLawful t → DriveLawful (t.setDp d)) :
    Steady may s (t.setDp d) := h.trans { Steady.refl t with drive := hdrive }

theorem Tri.get_all {α : Type} (v : α) (c : Channel) : (Tri.all v).get c = v := by
  cases c <;> rfl

theorem driveLawful_of_image {s : State} (h : s.dp.mode = .image) : DriveLawful s := by
  simp [DriveLawful, h]

theorem driveLawful_of_dark {s : State} (h : s.dp.drive = .all 0) : DriveLawful s :=
  ⟨fun _ _ => h, fun _ ch _ => by rw [h, Tri.get_all]⟩

/-- A Datapath's update that darkens the inputs. -/
theorem Steady.setDp_dark {d : Datapath} (hdrive : d.drive = .all 0) (h : Steady may s t) :
    Steady may s (t.setDp d) := h.setDp_lawful fun _ => driveLawful_of_dark hdrive

/-- A ring's update that adds no slot and no outstanding read. -/
theorem Steady.setRing {g : LineRing} (hslots : g.slots.length ≤ t.ring.slots.length)
    (hreads : g.reads.length ≤ t.ring.reads.length) (h : Steady may s t) : Steady may s (t.setRing g) :=
  h.trans
    { Steady.refl t with ring := fun ⟨hhigh, hs, hr⟩ => ⟨hhigh, hslots.trans hs, hreads.trans hr⟩ }

/-- A Table Store's update that adds no outstanding read. -/
theorem Steady.setTables {k : TableStore} (hreads : k.reads.length ≤ t.tables.reads.length) (h : Steady may s t) :
    Steady may s (t.setTables k) :=
  h.trans { Steady.refl t with loads := fun hl => hreads.trans hl }

/-- A state in which a FRAME card may stand in the context whatever R2 asks: one stands there, or the run is RUNNING. -/
def FreeContext (s : State) : Prop := s.frame.ctx ≠ none ∨ s.run.state = .running

/-- A context filled where one may stand, the spoil counters as they were. -/
theorem Steady.setFrame {f : FrameExposure} (hentries : f.entries = t.frame.entries)
    (hfree : f.ctx = none ∨ FreeContext t) (h : Steady may s t) : Steady may s (t.setFrame f) :=
  h.trans
    { Steady.refl t with
      spoils := fun hlaw => (Prod.mk.inj hentries).1.trans_le hlaw
      entries := .inr hentries
      context := by
        intro hlaw hr
        obtain hnone | hsome | hrun := hfree
        · exact hnone
        · exact absurd (hlaw hr) hsome
        · obtain hr | hr | ⟨hr, -⟩ := hr <;> exact absurd (hrun.symm.trans hr) (by decide) }

theorem Steady.setCtx (h : Steady may s t) {c : FrameCtx} (hfree : FreeContext t) : Steady may s (t.setCtx c) :=
  h.setFrame rfl (.inr hfree)

theorem Steady.mapCtx (h : Steady may s t) {f : FrameCtx → FrameCtx} :
    Steady may s (t.setFrame { t.frame with ctx := t.frame.ctx.map f }) :=
  h.trans { Steady.refl t with context := by simp [ContextLawful] }

theorem Steady.emptyCtx (h : Steady may s t) : Steady may s t.emptyCtx := h.setFrame rfl (.inl rfl)

/-! ## The shared operations (R98, R144, R148 to R164) -/

/-- A cause once raised stands through the raising of another. -/
theorem getLsbD_raise (s : State) (c : Cause) {i : Nat} (h : s.regs.causes.getLsbD i = true) :
    (s.raise c).regs.causes.getLsbD i = true := by
  show (s.regs.causes ||| c.bit).getLsbD i = true
  rw [BitVec.getLsbD_or, h, Bool.true_or]

theorem Steady.raise (h : Steady may s t) {c : Cause} : Steady may s (t.raise c) :=
  h.trans { Steady.refl t with irq := fun _ => rfl, causes := .inr fun _ => getLsbD_raise t c }

/-- A record of the refresh and the deck reader's generation alone. -/
theorem Steady.refresh (h : Steady may s t) : Steady may s t.refresh := by
  unfold State.refresh
  split
  · exact .busWrite <| .busWrite <| .busWrite <| .setDeck (by rfl) h
  · exact h

theorem Steady.updateGate (h : Steady may s t) : Steady may s t.updateGate := by
  unfold State.updateGate
  exact .ite (.setPower (by rfl) h) (.setPower (by rfl) h)

/-- The run states in which the context and the snapshot stand under no law. -/
def RunState.lawless : RunState → Bool
  | .running => true
  | .waiting => true
  | .held => true
  | .ending => true
  | .idle => false
  | .priming => false
  | .halted => false

theorem contextLawful_of_lawless {s : State} (h : s.run.state.lawless = true) : ContextLawful s := by
  rintro (hr | hr | ⟨hr, -⟩) <;> simp [hr, RunState.lawless] at h

/-- A run state other than IDLE is entered, where the context keeps its law. -/
theorem Steady.enterRunState (h : Steady may s t) {r : RunState} (hidle : r ≠ .idle)
    (hctx : ContextLawful t → ContextLawful (t.setRun { t.run with state := r })) :
    Steady may s (t.enterRunState r) :=
  .updateGate (h.trans { Steady.refl t with snapshot := fun _ hr => absurd hr hidle, context := hctx })

theorem Steady.enterLawless {r : RunState} (hr : r.lawless = true) (h : Steady may s t) :
    Steady may s (t.enterRunState r) :=
  h.enterRunState (by rintro rfl; cases hr) fun _ => contextLawful_of_lawless hr

theorem Steady.changeRunState {r : RunState} (hr : r.lawless = true) (h : Steady may s t) :
    Steady may s (t.changeRunState r) :=
  (h.enterLawless hr).refresh

theorem Steady.stopSeekOfWaiting (h : Steady may s t) : Steady may s t.stopSeekOfWaiting := by
  unfold State.stopSeekOfWaiting
  split
  · exact h.setDeck (by rfl)
  · exact h

theorem resumePointOf_eq_priming {s : State} {k : Nat} (h : resumePointOf s = .priming k) : s.run.state = .priming := by
  unfold resumePointOf at h
  split at h
  · assumption
  · cases h
  · split at h <;> cases h

theorem Power.halted_dark_lt {p : Power} (h : ∀ ch, p.dark.get ch < 3) (c : HaltCause) (ch : Channel) :
    (p.halted c).dark.get ch < 3 := by
  rw [Power.halted_dark]
  split
  · cases ch <;> decide
  · exact h ch

/-- The run halted with its record written. It resumes in PRIMING from PRIMING alone, where the context is empty. -/
theorem steady_haltTaken (s : State) (c : HaltCause) :
    Steady may s
      (((s.stopSeekOfWaiting.setRun (haltRecord s c)).setPower (s.power.halted c)).enterRunState .halted) where
  pending := by simp
  pins := by simp
  rb := by simp
  bus := by simp
  irq := by simp [IrqLawful]
  drive := by simp [DriveLawful]
  ring := by simp [RingBounded]
  loads := by simp [LoadsBounded]
  spoils := by simp [SpoilListBounded]
  perfs := by simp [PerfCountBounded]
  counts := by simp
  entries := by simp
  causes := by simp
  outcome := by simp [haltRecord]
  offsets := by simp [OffsetsLimited, State.enterRunState]
  dark := fun h => by simpa [DarkCountsBounded, State.enterRunState] using Power.halted_dark_lt h c
  snapshot := by simp [SnapshotOffInIdle]
  context := by
    intro hs
    have hempty (k : Nat) (hk : resumePointOf s = .priming k) : s.frame.ctx = none :=
      hs (.inr (.inl (resumePointOf_eq_priming hk)))
    simpa [ContextLawful, haltRecord] using hempty

@[simp] theorem Power.clearDarkHalt_pwr (p : Power) : p.clearDarkHalt.pwr = p.pwr := rfl
@[simp] theorem Power.clearDarkHalt_dark (p : Power) : p.clearDarkHalt.dark = p.dark := rfl

theorem Steady.halt (h : Steady may s t) {c : HaltCause} : Steady may s (t.halt c) := by
  refine h.trans ?_
  unfold State.halt
  split
  · exact .refresh <| .raise <| steady_haltTaken t c
  · split
    · exact .refresh <| .raise <| .setPower (by rfl) <| .setRun (by rfl) <| .refl t
    · exact .refl t

theorem Steady.enterHeld (h : Steady may s t) {mark : Bool} : Steady may s (t.enterHeld mark) := by
  have hheld : Steady may s
      ((t.stopSeekOfWaiting.setRun { t.run with pausePending := false }).enterRunState .held) :=
    .enterLawless (by rfl) <| .setRun (by simp) <| .stopSeekOfWaiting h
  unfold State.enterHeld
  exact .refresh <| .ite (.raise hheld) hheld

theorem Steady.writeResult (h : Steady may s t) {i : Nat} {r : CardResult} : Steady may s (t.writeResult i r) := by
  unfold State.writeResult
  split
  · exact h
  · split
    · exact h
    · exact .busWrite <| .setDeck (by rfl) <| .busWrite h

theorem Steady.handResult (h : Steady may s t) {r : CardResult} : Steady may s (t.handResult r) :=
  .setSeq <| .writeResult h

theorem Steady.seekDeck (h : Steady may s t) : Steady may s t.seekDeck := .setDeck (by rfl) <| .busRead h

theorem Steady.returnDeck (h : Steady may s t) : Steady may s t.returnDeck := by
  unfold State.returnDeck
  split
  · exact h
  · exact .raise <| .setDeck (by rfl) <| .busWrite h

/-! ## The Line Ring (R46 to R58) -/

theorem LineRing.applySwitch_slots (g : LineRing) (high low : Nat) : (g.applySwitch high low).slots = g.slots := by
  rw [LineRing.applySwitch_eq]

theorem LineRing.applySwitch_reads (g : LineRing) (high low : Nat) : (g.applySwitch high low).reads = g.reads := by
  rw [LineRing.applySwitch_eq]

theorem Steady.tryCross (h : Steady may s t) : Steady may s t.tryCross := by
  unfold State.tryCross
  split
  · exact .setRing (by rfl) (by rfl) h
  · exact h

/-- The one operation that adds a slot and a read, under the conditions of R48. -/
theorem Steady.fetchOne (h : Steady may s t) : Steady may s t.fetchOne := by
  refine h.trans ?_
  unfold State.fetchOne
  split
  next hready =>
    have hread : Steady may t (t.busRead t.ring.cursor.lineAddr (t.ring.cursor.width * 4)) := .busRead (.refl t)
    refine .tryCross <| hread.trans { Steady.refl _ with ring := ?_ }
    rintro ⟨hhigh, -, -⟩
    obtain ⟨⟨⟨-, hreads⟩, hslots⟩, -⟩ := by
      simpa only [fetchReady, Bool.and_eq_true, decide_eq_true_eq] using hready
    refine ⟨hhigh, ?_, ?_⟩ <;>
      simp only [State.setRing_ring, issuedRing, LineRing.applySwitch_slots, LineRing.applySwitch_reads,
        List.length_append, List.length_singleton]
    · exact Nat.lt_of_lt_of_le hslots hhigh
    · exact hreads
  next => exact .refl t

theorem Steady.fetch (h : Steady may s t) : Steady may s t.fetch := h.fetchOne.fetchOne

theorem Steady.flush (h : Steady may s t) {c : Cursor} : Steady may s ((t.setRing (t.ring.flushed c)).fetch) :=
  .fetch <| .setRing (by simp [LineRing.flushed]) (by simp [LineRing.flushed]) h

theorem Steady.flushParked (h : Steady may s t) : Steady may s t.flushParked := h.flush
theorem Steady.flushToAttempt (h : Steady may s t) {c : FrameCtx} : Steady may s (t.flushToAttempt c) := h.flush
theorem Steady.parkCursor (h : Steady may s t) : Steady may s t.parkCursor := .setRing (by rfl) (by rfl) h

theorem Steady.pointCursor (h : Steady may s t) {c : FrameCtx} : Steady may s (t.pointCursor c) := by
  unfold State.pointCursor
  dsimp only
  split
  · exact h
  · exact .fetch <| .setRing (by rfl) (by rfl) <| .ite h h.flushParked

theorem Steady.parkAtFinish (h : Steady may s t) {c : FrameCtx} : Steady may s (t.parkAtFinish c) :=
  .ite (.parkCursor h) h

theorem Steady.returnSlot (h : Steady may s t) {id : Nat} : Steady may s (t.returnSlot id) :=
  .fetch <| .setRing (by rw [LineRing.applySwitch_slots]; exact List.length_filter_le _ _)
    (by rw [LineRing.applySwitch_reads]) h

theorem Steady.endLineRead (h : Steady may s t) {e : LineRead} {f : Slot → Slot} :
    Steady may s (t.endLineRead e f) :=
  .fetch <| .setRing (by dsimp only; split <;> simp [fillSlot]) (List.length_filter_le _ _) h

/-! ## The Datapath (R39 to R43) -/

theorem Steady.zeroOrder (h : Steady may s t) : Steady may s t.zeroOrder := by
  unfold State.zeroOrder Datapath.zeroOrder
  split
  · exact h.setDp_dark (by rfl)
  · exact h.setDp (by rfl)

theorem steady_cut (s : State) (w : WindowStage) : Steady may s (s.setDp (s.dp.cut w)) := by
  cases w with
  | none => exact .setDp (by rfl) (.refl s)
  | pixelWait => exact .setDp (by rfl) (.refl s)
  | pixel => exact .setDp_dark (by rfl) (.refl s)
  | monitorWait => exact .setDp (by rfl) (.refl s)
  | monitor => exact .setDp_dark (by rfl) (.refl s)

theorem Steady.cutLine (h : Steady may s t) : Steady may s t.cutLine := by
  refine h.trans ?_
  unfold State.cutLine
  split
  · exact .refl t
  · exact .setPower (by rfl) <| .setScan <| steady_cut t _

/-! ## The Regulator (R99 to R111) -/

theorem Steady.beginSettle (h : Steady may s t) : Steady may s t.beginSettle :=
  .setPower (by dsimp only; split <;> rfl) h

theorem Steady.endSettle (h : Steady may s t) : Steady may s t.endSettle :=
  .setPower (by unfold Power.endSettle; split <;> rfl) h

theorem Steady.resumeSettleWait (h : Steady may s t) : Steady may s t.resumeSettleWait :=
  .setPower (by split <;> rfl) h

theorem Steady.settleLockLost (h : Steady may s t) : Steady may s t.settleLockLost := by
  unfold State.settleLockLost
  split
  · exact h.setPower (by rfl)
  · exact h
  · exact h

theorem Steady.settleLockGained (h : Steady may s t) : Steady may s t.settleLockGained :=
  .ite (h.setPower (by rfl)) h

theorem Steady.markLine (h : Steady may s t) {ch : Channel} {p : Purpose} : Steady may s (t.markLine ch p) :=
  .setDp (by rfl) <| .setPower (by rfl) h

theorem Steady.regulatorLine (h : Steady may s t) : Steady may s t.regulatorLine.1 := by
  unfold State.regulatorLine State.regulateLine
  dsimp only
  split
  · split
    · split
      · exact h
      · exact h.markLine
    · split
      · split
        · exact .setPower (by rfl) h.markLine
        · exact .setPower (by rfl) h
      · exact h
    · exact h
  · exact h

/-- The limit of R103 holds of every limited value. -/
theorem limitPwr_natAbs_le (lim : Nat) (v : Int) : (limitPwr lim v).natAbs ≤ lim := by
  unfold limitPwr
  split_ifs <;> omega

theorem Tri.get_put_same {α : Type} (p : Tri α) (c : Channel) (v : α) : (p.put c v).get c = v := by
  cases c <;> rfl

theorem Tri.get_put_of_ne {α : Type} (p : Tri α) {c d : Channel} (v : α) (h : d ≠ c) : (p.put c v).get d = p.get d := by
  cases c <;> cases d <;> simp_all [Tri.put, Tri.get]

/-- One channel's value replaced keeps what holds of the three, when it holds of the new value. -/
theorem Tri.forall_get_put {α : Type} {P : α → Prop} {p : Tri α} {c : Channel} {v : α} (h : ∀ d, P (p.get d)) (hv : P v)
    (d : Channel) : P ((p.put c v).get d) := by
  by_cases hd : d = c
  · rw [hd, Tri.get_put_same]; exact hv
  · rw [Tri.get_put_of_ne p v hd]; exact h d

theorem Steady.swapTables (h : Steady may s t) : Steady may s t.swapTables := by
  have htables : Steady may s (t.setTables t.tables.swapped) := h.setTables (by rfl)
  unfold State.swapTables
  refine .ite (htables.setPower_bounded ?_ id) htables
  intro _ ch
  show ((Tri.all (0 : Int)).get ch).natAbs ≤ _
  simp [Tri.get_all]

theorem Steady.limitRise (h : Steady may s t) : Steady may s t.limitRise := by
  have hmarked : Steady may s
      ((t.setFrame { t.frame with ctx := t.frame.ctx.map FrameCtx.markLimited }).raise .powerLimit) :=
    .raise <| h.mapCtx
  unfold State.limitRise
  exact .ite (.setRun (by rfl) hmarked) hmarked

theorem Steady.regulate (h : Steady may s t) {ch : Channel} {m : Nat} : Steady may s (t.regulate ch m) := by
  have hpower : Steady may s (t.setPower (t.power.regulated t.rb.power ch m)) :=
    h.setPower_bounded
      (fun hl => Tri.forall_get_put (p := t.power.pwr) (P := fun v : Int => v.natAbs ≤ t.rb.power.lim) hl
        (limitPwr_natAbs_le _ _))
      fun hd => Tri.forall_get_put (p := t.power.dark) (P := (· < 3)) hd (by decide)
  exact .ite hpower.limitRise hpower

theorem Steady.countDark (h : Steady may s t) {ch : Channel} : Steady may s (t.setPower (t.power.countDark ch).1) := by
  unfold Power.countDark
  split
  · exact h.setPower_bounded id fun hd => Tri.forall_get_put (p := t.power.dark) (P := (· < 3)) hd (by decide)
  next hlt =>
    exact h.setPower_bounded id fun hd =>
      Tri.forall_get_put (p := t.power.dark) (P := (· < 3)) hd (Nat.not_le.mp hlt)

theorem Power.channelSettled_pwr (p : Power) : p.channelSettled.1.pwr = p.pwr := by
  unfold Power.channelSettled
  dsimp only
  split <;> rfl

theorem Power.channelSettled_dark (p : Power) : p.channelSettled.1.dark = p.dark := by
  unfold Power.channelSettled
  dsimp only
  split <;> rfl

theorem Power.endSettle_pwr (p : Power) : p.endSettle.pwr = p.pwr := by
  unfold Power.endSettle
  split <;> rfl

theorem Power.endSettle_dark (p : Power) : p.endSettle.dark = p.dark := by
  unfold Power.endSettle
  split <;> rfl

theorem Power.settleStep_pwr (p : Power) (f : PowerFields) (m : Nat) :
    (p.settleStep f m).1.pwr = p.pwr.put p.settle.channel (settlePwr f p.settle.channel m (p.pwr.get p.settle.channel)) := by
  unfold Power.settleStep
  dsimp only
  split_ifs
  · exact Power.channelSettled_pwr _
  · exact Power.endSettle_pwr _
  · rfl

theorem Power.settleStep_dark (p : Power) (f : PowerFields) (m : Nat) : (p.settleStep f m).1.dark = p.dark := by
  unfold Power.settleStep
  dsimp only
  split_ifs
  · exact Power.channelSettled_dark _
  · exact Power.endSettle_dark _
  · rfl

theorem settlePwr_natAbs_le {f : PowerFields} {v : Int} (h : v.natAbs ≤ f.lim) (ch : Channel) (m : Nat) :
    (settlePwr f ch m v).natAbs ≤ f.lim := by
  unfold settlePwr
  split_ifs
  · exact h
  · exact limitPwr_natAbs_le _ _
  · exact limitPwr_natAbs_le _ _

theorem Steady.settleStep (h : Steady may s t) {m : Nat} :
    Steady may s (t.setPower (t.power.settleStep t.rb.power m).1) := by
  refine h.setPower_bounded (fun hl ch => ?_) fun hd ch => ?_
  · simp only [State.setPower_power, Power.settleStep_pwr]
    exact Tri.forall_get_put (P := fun v : Int => v.natAbs ≤ t.rb.power.lim) hl (settlePwr_natAbs_le (hl _) _ _) ch
  · simpa only [State.setPower_power, Power.settleStep_dark] using hd ch

/-! ## The Table Store (R65 to R75) -/

/-- The one operation that adds a load read, under the limit of R66. -/
theorem Steady.loadOne (h : Steady may s t) : Steady may s t.loadOne := by
  refine h.trans ?_
  unfold State.loadOne
  split
  · exact .refl t
  · dsimp only
    split
    next l _ hready =>
      have hread : Steady may t (t.busRead (addrPlus l.source (Config.loadReadBytes * l.issued))
        (readBytesOf l.target l.issued)) := .busRead (.refl t)
      obtain ⟨-, hreads⟩ := by simpa only [loadReady, Bool.and_eq_true, decide_eq_true_eq] using hready
      refine hread.trans { Steady.refl _ with loads := fun _ => ?_ }
      show (t.tables.reads ++ _).length ≤ Config.loadReadLimit
      rw [List.length_append]
      exact hreads
    next => exact .refl t

theorem Steady.loadMore (h : Steady may s t) : Steady may s t.loadMore := h.loadOne.loadOne.loadOne.loadOne

theorem Steady.openLoad (h : Steady may s t) {g : Target} {source : Addr} {sum : Nat} :
    Steady may s (t.openLoad g source sum) := .loadMore <| .setTables (by rfl) h

theorem TableStore.abandon_reads_length (k : TableStore) : k.abandon.reads.length = k.reads.length := by
  unfold TableStore.abandon
  split <;> simp

theorem Steady.abandonLoad (h : Steady may s t) : Steady may s t.abandonLoad :=
  .setTables (TableStore.abandon_reads_length _).le h

theorem Steady.dumpWrite (h : Steady may s t) {d : Dump} : Steady may s (t.dumpWrite d) :=
  .setTables (by rfl) (.busWrite h)

/-! ## The transport (R115 to R125) -/

@[simp] theorem Film.addSteps_counter (f : Film) (n p : Nat) : (f.addSteps n p).counter = f.counter := rfl
@[simp] theorem Film.addSteps_perfCount (f : Film) (n p : Nat) : (f.addSteps n p).perfCount = f.perfCount := rfl

theorem Steady.leaderCycle (h : Steady may s t) : Steady may s t.leaderCycle := by
  unfold State.leaderCycle
  split
  · exact h
  · exact .ite (.ite h.halt (h.setFilm_begun (by rfl))) h

theorem Film.finish_kept (f : Film) (rb : RunBlock) (k : CloseKind) :
    ((f.finish rb k).counts, (f.finish rb k).perfCount) = (f.counts, f.perfCount) := by
  unfold Film.finish
  split
  · dsimp only
    split <;> rfl
  · rfl

theorem Steady.finishFilm (h : Steady may s t) {rb : RunBlock} {k : CloseKind} :
    Steady may s (t.setFilm (t.film.finish rb k)) :=
  .setFilm (Film.finish_kept _ _ _) h

theorem Steady.lineSteps (h : Steady may s t) {rb : RunBlock} {r : Nat} :
    Steady may s (t.setFilm (t.film.lineSteps rb r)) :=
  .setFilm (by unfold Film.lineSteps; split <;> rfl) h

theorem Steady.beginScan (h : Steady may s t) {rb : RunBlock} {noEdge : Bool} :
    Steady may s (t.setFilm (t.film.beginScan rb noEdge)) := by
  unfold Film.beginScan
  split
  · exact h.setFilm_begun (by rfl)
  · exact h.setFilm (by rfl)

/-! ## Frame Exposure (R4 to R27) -/

theorem Steady.refuseFrame (h : Steady may s t) {c : FrameCtx} {why : Reason} :
    Steady may s (t.refuseFrame c why) :=
  .halt <| .refresh <| .emptyCtx <| .handResult <| .flushParked <| .zeroOrder h

theorem Steady.enterPreparing (h : Steady may s t) {c : FrameCtx} (hfree : FreeContext t) :
    Steady may s (t.enterPreparing c) := by
  have hctx : Steady may s (t.setCtx c.toPreparing) := h.setCtx hfree
  unfold State.enterPreparing
  dsimp only
  split
  · exact hctx.halt
  · split
    · refine .setCtx (.pointCursor hctx.swapTables) (.inl ?_)
      simp [State.setCtx]
    · exact hctx.swapTables.refuseFrame

theorem Steady.spoil (h : Steady may s t) {c : FrameCtx} {cause : SpoilCause} (hfree : FreeContext t) :
    Steady may s (t.spoil c cause) := by
  have hctx (d : FrameCtx) : Steady may s (t.zeroOrder.setCtx d) :=
    .setCtx h.zeroOrder (by simpa [FreeContext] using hfree)
  unfold State.spoil
  exact .finishFilm <| .ite (hctx _).flushToAttempt (hctx _).flushParked

theorem freeContext_of_some {s : State} {c : FrameCtx} (h : s.frame.ctx = some c) : FreeContext s := .inl (by simp [h])

theorem Steady.dropRetake (h : Steady may s t) {c : FrameCtx} (hfree : FreeContext t) :
    Steady may s (t.dropRetake c) := .parkCursor <| h.setCtx hfree

theorem Steady.frameLockLost (h : Steady may s t) : Steady may s t.frameLockLost := by
  unfold State.frameLockLost
  split
  · exact h
  next c hctx =>
    have hfree := freeContext_of_some hctx
    split
    · split
      · exact h.halt
      · exact h
      · exact h
    · exact h.spoil hfree
    · exact h.setCtx hfree

theorem Steady.laserDark (h : Steady may s t) : Steady may s t.laserDark := by
  unfold State.laserDark
  split
  next c hctx =>
    have hfree := freeContext_of_some hctx
    split
    · exact h.halt
    · exact h.spoil hfree
    · exact h.setCtx hfree
  next => exact .ite h.halt (.setPower (by rfl) h)

theorem takeHead_length (l : List Slot) : (takeHead l).length = l.length := by
  cases l <;> rfl

theorem Steady.exposeLine (h : Steady may s t) {c : FrameCtx} (hfree : FreeContext t) :
    Steady may s (t.exposeLine c) := by
  have hbegin {u : State} (hu : Steady may s u) (hfree : FreeContext u) (d : FrameCtx) (src : LineSource) :
      Steady may s (u.beginRasterLine d src) := .setCtx (.lineSteps (.setDp (by rfl) hu)) hfree
  unfold State.exposeLine
  dsimp only
  split
  · split
    · refine hbegin (h.setRing (g := { t.ring with slots := takeHead t.ring.slots })
        (takeHead_length t.ring.slots).le (by rfl)) hfree _ _
    · exact h.spoil hfree
  · exact hbegin h hfree _ _

theorem Steady.frameLine (h : Steady may s t) : Steady may s t.frameLine := by
  unfold State.frameLine
  split
  · exact h
  next c hctx =>
    have hfree := freeContext_of_some hctx
    split
    · exact .ite (.exposeLine (.beginScan h) hfree) h
    · exact h.exposeLine hfree
    · exact h

theorem Steady.closeIfLast (h : Steady may s t) : Steady may s t.closeIfLast := by
  unfold State.closeIfLast
  split
  · exact h
  next c hctx =>
    split
    · exact .ite (.finishFilm (h.setCtx (freeContext_of_some hctx))) h
    · exact h
    · exact h

theorem Steady.recordSpoil (h : Steady may s t) (hspoils : may.spoils) {c : FrameCtx} :
    Steady may s (t.recordSpoil c) := by
  unfold State.recordSpoil
  split
  next hlt =>
    exact h.trans
      { Steady.refl t with bus := List.prefix_append _ _, spoils := fun _ => hlt, entries := .inl hspoils }
  next => exact h.trans { Steady.refl t with entries := .inl hspoils }

theorem Steady.frameFault (h : Steady may s t) : Steady may s t.frameFault := by
  unfold State.frameFault
  split
  · exact h
  · exact .flushParked <| .zeroOrder h

end Sys2Proof.Machine

/-! PROOF. `Steady` carried through the ends of a run, the Card Sequencer, PRIMING, the scan and every command and event
(R1 to R171), and the statements about every step that follow from it. -/

namespace Sys2Proof.Machine

variable {may : Scope} {s t u : State}

/-! ## ENDING (R27, R142, R168) -/

theorem Steady.dropPendingLine (h : Steady may s t) : Steady may s t.dropPendingLine := h.setDp (by rfl)

theorem Steady.closeCtx (h : Steady may s t) : Steady may s t.closeCtx := by
  unfold State.closeCtx
  split
  · exact h
  · exact h.dropPendingLine.flushParked.emptyCtx

theorem Steady.endCurrent (h : Steady may s t) : Steady may s t.endCurrent :=
  .ite h.handResult.closeCtx.refresh h.closeCtx

theorem Steady.skipCards (n : Nat) : ∀ {t : State} {i : Nat}, Steady may s t →
    Steady may s (State.skipCards n i t) := by
  induction n with
  | zero => exact fun h => h
  | succ n ih => exact fun h => ih h.writeResult.refresh

theorem Steady.endResults (h : Steady may s t) : Steady may s t.endResults := by
  unfold State.endResults
  split
  · exact h.closeCtx
  · exact .skipCards _ h.endCurrent

theorem Steady.clearPending (h : Steady may s t) : Steady may s t.clearPending :=
  .setFilm (by rfl) <| .setPower (by rfl) <| .setRun (by rfl) h

theorem Steady.emptyRecords (h : Steady may s t) : Steady may s t.emptyRecords := h.setSeq

/-- The return to IDLE with the context already empty. -/
theorem Steady.toIdle (h : Steady may s t) (hctx : ContextLawful t → t.frame.ctx = none) :
    Steady may s t.toIdle := by
  refine h.trans
    { pending := by simp, pins := by simp, rb := by simp, drive := by simp [DriveLawful], ring := by simp [RingBounded]
      loads := by simp [LoadsBounded], spoils := by simp [SpoilListBounded], perfs := by simp [PerfCountBounded]
      counts := by simp, entries := by simp, outcome := by simp [State.toIdle], bus := ?_, irq := ?_,
      offsets := ?_, dark := ?_, snapshot := fun _ _ => rfl, context := ?_, causes := .inr ?_ }
  · simpa [State.toIdle, State.enterRunState] using
      (Steady.refresh (may := may) (.refl ((t.enterRunState .idle).emptyRecords.raise .runEnd))).bus
  · simp [IrqLawful, State.toIdle, State.raise, RegWindow.withIrq]
  · simp [OffsetsLimited, State.toIdle, State.enterRunState]
  · simp [DarkCountsBounded, State.toIdle, State.enterRunState]
  · exact fun ht _ => by simpa using hctx ht
  · intro i hi
    show (t.toIdle).regs.causes.getLsbD i = true
    simpa [State.toIdle] using getLsbD_raise _ _ hi

theorem Steady.enterEnding (h : Steady may s t) : Steady may s t.enterEnding :=
  .changeRunState (by rfl) <| .setRun (by rfl) <| .setDeck (by rfl) h

theorem Steady.endRun (h : Steady may s t) : Steady may s t.endRun := by
  refine Steady.toIdle h.enterEnding.abandonLoad.endSettle.endResults.returnDeck.flushParked.clearPending fun _ => ?_
  simp

/-! ## The Card Sequencer (R16, R70, R131 to R143) -/

theorem Steady.readCurrent (h : Steady may s t) {i : Nat} : Steady may s (t.readCurrent i) := .setSeq <| .busRead h
theorem Steady.rereadCurrent (h : Steady may s t) : Steady may s t.rereadCurrent := .setSeq <| .busRead h
theorem Steady.readLookahead (h : Steady may s t) : Steady may s t.readLookahead := .ite (.setSeq <| .busRead h) h
theorem Steady.deckDone (h : Steady may s t) : Steady may s t.deckDone := h.emptyRecords.returnDeck.seekDeck

theorem Steady.advanceRecord (h : Steady may s t) : Steady may s t.advanceRecord := by
  unfold State.advanceRecord
  split
  · exact .ite h.deckDone <| .ite h <| .ite h.setSeq h.readCurrent
  · exact h

theorem Steady.haltPowerLimit (h : Steady may s t) : Steady may s t.haltPowerLimit := .halt (h.setRun (by rfl))

/-- A course of R70 or R125 taken, with an advance that is steady. -/
theorem Steady.takeCourse (h : Steady may s t) {c : Course} {adv : State → State} (hadv : Steady may s (adv t)) :
    Steady may s (t.takeCourse c adv) := by
  cases c with
  | ending => exact h.endRun
  | tableLoad => exact h.halt
  | powerLimit => exact h.haltPowerLimit
  | held => exact h.enterHeld
  | advance => exact hadv
  | stays => exact h

theorem Steady.takeFrameCourse (h : Steady may s t) {c : FrameCourse} {adv : State → State}
    (hadv : Steady may s (adv t)) : Steady may s (t.takeFrameCourse c adv) := by
  cases c with
  | ending => exact h.endRun
  | halt cause => exact h.halt
  | powerLimit => exact h.haltPowerLimit
  | held mark => exact h.enterHeld
  | advance => exact hadv

theorem Steady.refuseInvalid (h : Steady may s t) {why : Reason} {field : Nat} {b : CardBody} :
    Steady may s (t.refuseInvalid why field b) := h.handResult.refresh.halt

theorem Steady.dispatchTable (h : Steady may s t) {g : Nat} {a : Addr} {sum : Nat} :
    Steady may s (t.dispatchTable g a sum) := by
  unfold State.dispatchTable
  split
  · exact h.openLoad
  · exact h

theorem Steady.openDump (h : Steady may s t) {g : Target} {a : Addr} : Steady may s (t.openDump g a) :=
  h.setTables (by rfl)

theorem Steady.dispatchDump (h : Steady may s t) {g : Nat} {a : Addr} : Steady may s (t.dispatchDump g a) := by
  unfold State.dispatchDump
  split
  · exact .ite h.openDump (h.handResult.refresh.takeCourse h.handResult.refresh.advanceRecord)
  · exact h

theorem Steady.dispatchCalibrate (h : Steady may s t) : Steady may s t.dispatchCalibrate :=
  .ite h.swapTables.beginSettle h.swapTables.handResult.refresh.halt

theorem Steady.dispatchLeader (h : Steady may s t) {n : Nat} {e : Bool} : Steady may s (t.dispatchLeader n e) :=
  .leaderCycle <| .setFilm (by rfl) h

/-- A GOOD card goes to its owner: a FRAME card where one may stand in the context. -/
theorem Steady.dispatchBody (h : Steady may s t) (hfree : FreeContext t) (b : CardBody) :
    Steady may s (t.dispatchBody b) := by
  cases b with
  | frame c => exact h.enterPreparing hfree
  | leader n e => exact h.dispatchLeader
  | table g a x => exact h.dispatchTable
  | dump g a => exact h.dispatchDump
  | calibrate => exact h.dispatchCalibrate
  | hold => exact h.handResult.refresh.enterHeld
  | endCard => exact h.handResult.refresh.endRun
  | unknown k => exact h

theorem Steady.actOnCard (h : Steady may s t) (hfree : FreeContext t) : Steady may s t.actOnCard := by
  unfold State.actOnCard
  dsimp only
  split
  · refine .dispatchBody (.setSeq h) ?_ _
    exact hfree
  · exact h.setSeq.refuseInvalid
  · exact h.setSeq.halt
  · exact h.setSeq

theorem freeContext_readLookahead (h : FreeContext s) : FreeContext s.readLookahead := by
  simpa [FreeContext] using h

theorem Steady.becomeCurrent (h : Steady may s t) (hfree : FreeContext t) : Steady may s t.becomeCurrent :=
  .actOnCard h.setSeq.readLookahead (freeContext_readLookahead hfree)

theorem Steady.takeUp (h : Steady may s t) : Steady may s t.takeUp := by
  unfold State.takeUp
  split
  next hmay =>
    obtain ⟨⟨hrun, -⟩, -⟩ := by simpa only [mayBecomeCurrent, Bool.and_eq_true, beq_iff_eq] using hmay
    exact h.becomeCurrent (.inr hrun)
  next => exact h

theorem Steady.advance (h : Steady may s t) : Steady may s t.advance := h.advanceRecord.takeUp

theorem Steady.actAnew (h : Steady may s t) (hfree : FreeContext t) : Steady may s t.actAnew :=
  (h.actOnCard hfree).takeUp

theorem Steady.finishFrame (h : Steady may s t) {c : FrameCtx} {o : ResultOutcome} :
    Steady may s (t.finishFrame c o) :=
  have hdone := h.handResult.emptyCtx.parkAtFinish.refresh
  hdone.takeFrameCourse hdone.advance

theorem Steady.finishLeader (h : Steady may s t) {l : LeaderCard} : Steady may s (t.finishLeader l) :=
  have hdone := (h.handResult.setFilm (f := { t.film with leader := none }) (by simp [Film.counts])).refresh
  hdone.takeCourse hdone.advance

theorem Steady.finishLoad (h : Steady may s t) {l : Load} : Steady may s (t.finishLoad l) :=
  have hdone := (h.setTables (k := t.tables.loadEnded l) (by rfl)).handResult.refresh
  hdone.takeCourse hdone.advance

theorem Steady.finishDump (h : Steady may s t) {d : Dump} : Steady may s (t.finishDump d) :=
  have hdone := (h.setTables (k := { t.tables with dump := none }) (by rfl)).handResult.refresh
  hdone.takeCourse hdone.advance

theorem Steady.dumpOn (h : Steady may s t) : Steady may s t.dumpOn := by
  unfold State.dumpOn
  split
  · exact h
  · exact .ite h.dumpWrite h.dumpWrite.finishDump

theorem Steady.finishCalibrate (h : Steady may s t) : Steady may s t.finishCalibrate :=
  have hdone := h.handResult.refresh
  hdone.takeCourse hdone.advance

/-! ## PRIMING and the decks (R148, R149, R160, R161) -/

theorem Steady.primingStage7 (h : Steady may s t) : Steady may s t.primingStage7 :=
  .seekDeck <| .setRun (by rfl) h

theorem Steady.primingStage6 (h : Steady may s t) : Steady may s t.primingStage6 :=
  .ite (.beginSettle <| .setRun (by rfl) h) (.primingStage7 <| .setRun (by rfl) h)

theorem Steady.primingStage5 (h : Steady may s t) : Steady may s t.primingStage5 := h.setRun (by rfl)

theorem Steady.primingLocked (h : Steady may s t) : Steady may s t.primingLocked := by
  unfold State.primingLocked
  split
  · exact .ite h.primingStage6 h
  · exact h

theorem Steady.resumePriming (h : Steady may s t) {k : Nat} : Steady may s (t.resumePriming k) := by
  refine .ite (.ite h.primingStage6 h.primingStage5) (.ite ?_ (.ite h.primingStage7 h))
  cases t.power.state with
  | settling => exact h.resumeSettleWait
  | settled => exact h.primingStage7
  | unsettled => exact h.primingStage6

theorem Steady.takeDeck (h : Steady may s t) {d : DeckHeader} : Steady may s (t.takeDeck d) := by
  unfold State.takeDeck
  dsimp only
  refine .advance ?_
  split
  · exact .setSeq <| .setDeck (by rfl) <| .busWrite <| .busWrite h
  · exact .changeRunState (by rfl) <| .setRun (by rfl) <| .setSeq <| .setDeck (by rfl) <| .busWrite <| .busWrite h
  · exact .changeRunState (by rfl) <| .setSeq <| .setDeck (by rfl) <| .busWrite <| .busWrite h

theorem Steady.waitForDeck (h : Steady may s t) : Steady may s t.waitForDeck := by
  unfold State.waitForDeck
  dsimp only
  split
  · exact .setDeck (by rfl) h
  · exact .changeRunState (by rfl) <| .setDeck (by rfl) h

theorem Steady.actOnHeader (h : Steady may s t) {data : Option (List Byte)} : Steady may s (t.actOnHeader data) := by
  have hended : Steady may s (t.setDeck { t.deck with seek := .idle, headerRead := none }) := h.setDeck (by rfl)
  unfold State.actOnHeader
  dsimp only
  split
  · exact hended.halt
  · exact .ite (.ite hended.takeDeck hended.halt) hended.waitForDeck

/-! ## The scan (R80 to R94) -/

theorem Steady.loseLock (h : Steady may s t) {l : LockState} : Steady may s (t.loseLock l) :=
  h.setScan.frameLockLost.updateGate.settleLockLost

theorem Steady.gainLock (h : Steady may s t) : Steady may s t.gainLock :=
  h.setScan.updateGate.settleLockGained.primingLocked

theorem Steady.failLock (h : Steady may s t) : Steady may s t.failLock := .ite h.loseLock h

theorem Steady.stopScan (h : Steady may s t) : Steady may s t.stopScan :=
  .ite h.cutLine.setScan.frameLockLost.updateGate.settleLockLost h.cutLine.setScan

theorem Steady.overlapStage (h : Steady may s t) : Steady may s t.overlapStage := by
  unfold State.overlapStage
  split
  · exact h
  · exact h.cutLine.setScan.failLock

theorem Steady.slip (h : Steady may s t) : Steady may s t.slip := .ite h.setScan.failLock h.setScan

theorem Steady.facetStage (h : Steady may s t) {l : LockState} : Steady may s (t.facetStage l) := by
  unfold State.facetStage
  split
  · exact h.setScan
  · exact .ite h.setScan h.setScan
  · exact .ite h.setScan.slip h.setScan

theorem Steady.averageStage (h : Steady may s t) {d i : Nat} : Steady may s (t.averageStage d i) :=
  .ite h.setScan.failLock h.setScan

theorem Steady.checkRevolution (h : Steady may s t) {v : Revolution} : Steady may s (t.checkRevolution v) := by
  unfold State.checkRevolution
  dsimp only
  split
  · split
    · exact .ite h.setScan.gainLock h.setScan
    · exact h.setScan
  · exact h.setScan.failLock

theorem Steady.revolutionStage (h : Steady may s t) : Steady may s t.revolutionStage := by
  unfold State.revolutionStage
  split
  · exact .ite h.checkRevolution h
  · exact h

theorem Steady.lineStage (h : Steady may s t) : Steady may s t.lineStage := by
  unfold State.lineStage
  split
  · exact h.frameLine.regulatorLine.setScan
  · exact h

theorem Steady.judgeStages (h : Steady may s t) {l : LockState} {d : Nat} {i : Option Nat} :
    Steady may s (t.judgeStages l d i) := by
  unfold State.judgeStages
  split
  · exact h
  · exact h
  · split
    · exact h.averageStage.revolutionStage
    · exact h.revolutionStage

theorem Steady.sosStages (h : Steady may s t) : Steady may s t.sosStages :=
  h.setScan.overlapStage.facetStage.judgeStages.lineStage

end Sys2Proof.Machine

/-! PROOF. Every command and event is steady but for the end of a run block read and POWER_ON, and the statements about
every step that follow: carried out (O2), film counter (O4), bounds (O6), outputs (O8), quiet outside a run (O9). -/

namespace Sys2Proof.Machine

variable {may : Scope} {s t u : State}

/-- A meaning that has a next state, of which P holds. -/
def Leads (P : State → Prop) (r : Result) : Prop := ∃ t, r = .next t ∧ P t

theorem Leads.next {P : State → Prop} {t : State} (h : P t) : Leads P (.next t) := ⟨t, rfl, h⟩

/-! ## Commands (R158 to R171) -/

theorem Steady.answer {o : CommandOutcome} (hmay : may.answer) (h : Steady may s t) : Steady may s (t.answer o) :=
  .setRun_answer (by rfl) hmay h

theorem Steady.setRegs (h : Steady may s t) {g : RegWindow} (hirq : IrqLawful t → IrqLawful (t.setRegs g))
    (hcauses : may.clears ∨ g.causes = t.regs.causes) : Steady may s (t.setRegs g) :=
  h.trans { Steady.refl t with
    irq := hirq, causes := hcauses.imp_right fun hkept i => by rw [State.setRegs_regs, hkept]; exact id }

/-- START enters PRIMING from IDLE, where the context is empty. -/
theorem steady_acceptStart (hidle : s.run.state = .idle) (hmay : may.answer) : Steady may s s.acceptStart := by
  have hstarted : Steady may s ((s.setRun { s.run.started with state := .priming }).updateGate) :=
    .updateGate
      { Steady.refl s with snapshot := nofun, context := fun hs _ => hs (.inl hidle), outcome := .inl hmay }
  exact .setDeck (by rfl) <| .busRead <| .refresh hstarted

theorem leads_execStart (s : State) (hmay : may.answer) : Leads (Steady may s) (execStart s) := by
  unfold execStart
  split
  next hidle => exact .next (steady_acceptStart hidle hmay)
  next => exact .next (.answer hmay (.refl s))

theorem Steady.acceptPause (h : Steady may s t) : Steady may s t.acceptPause := by
  unfold State.acceptPause
  split
  · exact .ite (.setRun (by rfl) h) h.enterHeld
  · exact h.enterHeld

theorem leads_execPause (s : State) (hmay : may.answer) : Leads (Steady may s) (execPause s) := by
  have hanswer (o : CommandOutcome) : Steady may s (s.answer o) := .answer hmay (.refl s)
  unfold execPause
  split
  · exact .next (hanswer _).acceptPause
  · exact .next (hanswer _).acceptPause
  · exact .next (hanswer _)

theorem Steady.resumeFrame (h : Steady may s t) : Steady may s t.resumeFrame := by
  unfold State.resumeFrame
  split
  · exact h
  next c hctx =>
    have hfree := freeContext_of_some hctx
    split
    · exact h.enterPreparing hfree
    · exact .ite (h.enterPreparing hfree) h
    · exact h

theorem Steady.resumeCalibrate (h : Steady may s t) : Steady may s t.resumeCalibrate := by
  unfold State.resumeCalibrate
  split
  · exact h.resumeSettleWait
  · exact h.beginSettle
  · exact h

theorem Steady.resumeCard (h : Steady may s t) : Steady may s t.resumeCard := by
  unfold State.resumeCard
  split
  · exact h.rereadCurrent
  · exact h.resumeFrame
  · exact h.leaderCycle
  · exact h.resumeCalibrate
  all_goals exact h

theorem Steady.resumeRunning (h : Steady may s t) (hrun : t.run.state = .running) :
    Steady may s t.resumeRunning := by
  unfold State.resumeRunning
  split
  · split
    · exact h.resumeCard
    · split
      · exact h.actAnew (.inr hrun)
      · exact h
  · exact h.advance

theorem Steady.resumeAt (h : Steady may s t) {p : ResumePoint} (hrun : t.run.state = p.runState) :
    Steady may s (t.resumeAt p) := by
  cases p with
  | priming k => exact h.resumePriming
  | waiting => exact h.seekDeck
  | running => exact h.resumeRunning hrun

/-- RESUME takes the run back to PRIMING from a halt that records it, in which the context is empty. -/
theorem steady_acceptResume {p : ResumePoint} (hmay : may.answer)
    (hp : ∀ k, p = .priming k → s.run.state = .halted ∧ s.run.resume = .priming k) :
    Steady may s (s.acceptResume p) := by
  have hanswered : Steady may s (s.setRun { s.run with haltCause := .none, lastOutcome := .accepted }) :=
    .setRun_answer (by rfl) hmay (.refl s)
  refine .resumeAt (.refresh (hanswered.enterRunState (by cases p <;> nofun) ?_)) (by simp)
  cases p with
  | priming k => exact fun hlaw _ => hlaw (.inr (.inr ⟨(hp k rfl).1, k, (hp k rfl).2⟩))
  | waiting => exact fun _ => contextLawful_of_lawless rfl
  | running => exact fun _ => contextLawful_of_lawless rfl

theorem leads_execResume (s : State) (hmay : may.answer) : Leads (Steady may s) (execResume s) := by
  unfold execResume
  split
  · refine .next (steady_acceptResume hmay fun k hk => ?_)
    unfold heldResume at hk
    split at hk <;> cases hk
  next hhalted =>
    split
    · exact .next (steady_acceptResume hmay fun k hk => ⟨hhalted, hk⟩)
    · exact .next (.answer hmay (.refl s))
  · exact .next (.answer hmay (.refl s))

theorem Steady.endSettleAndRun (h : Steady may s t) : Steady may s t.endSettleAndRun := h.endSettle.endRun

theorem Steady.stopCard (h : Steady may s t) : Steady may s t.stopCard := by
  unfold State.stopCard
  split
  · split
    · exact h.endRun
    next c hctx =>
      split
      · exact h.endRun
      · exact h
      · exact h
      · exact h.dropRetake (freeContext_of_some hctx)
  · exact .ite h h.endRun
  · exact h
  · exact h
  · exact h.endSettleAndRun
  · exact h.endRun

theorem Steady.acceptStop (h : Steady may s t) : Steady may s t.acceptStop := by
  have hpending : Steady may s (t.setRun { t.run with stopPending := true }) := .setRun (by rfl) h
  unfold State.acceptStop
  dsimp only
  split
  · exact .ite hpending (.ite hpending.stopCard hpending.endRun)
  · exact hpending.endRun

theorem leads_execStop (s : State) (hmay : may.answer) : Leads (Steady may s) (execStop s) := by
  have hanswer (o : CommandOutcome) : Steady may s (s.answer o) := .answer hmay (.refl s)
  unfold execStop
  split
  · exact .next (hanswer _).acceptStop
  · exact .next (hanswer _).acceptStop
  · exact .next (hanswer _).acceptStop
  · exact .next (hanswer _).acceptStop
  · exact .next (hanswer _)

theorem Steady.abortCard (h : Steady may s t) : Steady may s t.abortCard := by
  unfold State.abortCard
  split
  · split
    · exact h.endRun
    next c hctx =>
      have hfree := freeContext_of_some hctx
      split
      · exact h.endRun
      · exact h.spoil hfree
      · exact h
      · exact h.dropRetake hfree
  · exact .ite h h.endRun
  · exact h.endSettleAndRun
  · exact h.endRun

theorem Steady.acceptAbort (h : Steady may s t) : Steady may s t.acceptAbort := by
  have hpending : Steady may s (t.setRun { t.run with stopPending := true, abortRecord := true }) := .setRun (by rfl) h
  unfold State.acceptAbort
  dsimp only
  split
  · exact h
  · exact hpending.endSettleAndRun
  · exact .ite hpending.abortCard hpending.endRun
  · exact hpending.endRun

theorem leads_execAbort (s : State) (hmay : may.answer) : Leads (Steady may s) (execAbort s) := by
  have hanswer (o : CommandOutcome) : Steady may s (s.answer o) := .answer hmay (.refl s)
  unfold execAbort
  split
  · exact .next (hanswer _)
  · exact .next (hanswer _).acceptAbort

theorem leads_execSpinDown (s : State) (hmay : may.answer) : Leads (Steady may s) (execSpinDown s) := by
  have hanswer (o : CommandOutcome) : Steady may s (s.answer o) := .answer hmay (.refl s)
  unfold execSpinDown
  split
  · dsimp only
    split
    · exact .next (hanswer _).setScan.stopScan
    · exact .next (hanswer _)
  · exact .next (hanswer _)

theorem irqLawful_reset : IrqLawful State.reset := by
  unfold IrqLawful
  decide

theorem steady_softReset (s : State) (hmay : may.answer) (hclears : may.clears) : Steady may s s.softReset where
  outcome := .inl hmay
  pending := rfl
  pins := rfl
  rb := rfl
  bus := List.prefix_rfl
  irq _ := irqLawful_reset
  drive _ := ⟨fun _ _ => rfl, nofun⟩
  ring := fun ⟨hhigh, _, hreads⟩ =>
    ⟨hhigh, Nat.zero_le _, (List.length_map (as := s.ring.reads) LineRead.voided).le.trans hreads⟩
  loads hl := (List.length_map (as := s.tables.reads) _).le.trans hl
  offsets _ ch := by cases ch <;> exact Nat.zero_le _
  spoils h := h
  dark _ ch := by cases ch <;> exact Nat.succ_pos _
  perfs _ := Nat.zero_le _
  counts := .inr rfl
  entries := .inr rfl
  causes := .inl hclears
  snapshot _ _ := rfl
  context _ _ := rfl

theorem leads_execRunaddrWrite (high : Bool) (v : BitVec 32) (s : State) :
    Leads (Steady may s) (execRunaddrWrite high v s) := by
  unfold execRunaddrWrite
  split
  · unfold RegWindow.putRunaddr
    split
    · exact .next (.setRegs (.refl s) id (.inr rfl))
    · exact .next (.setRegs (.refl s) id (.inr rfl))
  · exact .next (.refl s)

/-! ## The scan's events (R78 to R110) -/

theorem leads_execSosEvent (s : State) : Leads (Steady may s) (execSosEvent s) := by
  unfold execSosEvent
  dsimp only
  split
  · exact .next (.refl s)
  · split
    · exact .next (Steady.refl s).setScan.sosStages
    · exact .next (Steady.refl s).setScan

theorem leads_execIndexEvent (s : State) : Leads (Steady may s) (execIndexEvent s) := by
  unfold execIndexEvent
  split
  · exact .next (.refl s)
  · exact .next (Steady.refl s).setScan

theorem leads_execWatchdogExpiry (s : State) : Leads (Steady may s) (execWatchdogExpiry s) := by
  unfold execWatchdogExpiry
  split
  · exact .next (Steady.refl s).stopScan
  · exact .next (.refl s)

theorem leads_execQualifiedLevelFall (input : SensorInput) (s : State) :
    Leads (Steady may s) (execQualifiedLevelFall input s) := by
  cases input with
  | startOfScan => exact .next (.ite (Steady.refl s).setScan (.refl s))
  | index => exact .next (.ite (Steady.refl s).setScan (.refl s))
  | perforation => exact .next (.ite (.setFilm (by rfl) (.refl s)) (.refl s))

theorem Datapath.openPixel_drive (d : Datapath) (pwr : Tri Int) (ctx : Option FrameCtx) :
    (d.openPixel pwr ctx).drive = .all 0 := by
  unfold Datapath.openPixel
  dsimp only
  split <;> rfl

theorem leads_execPixelWindowOpen (s : State) : Leads (Steady may s) (execPixelWindowOpen s) := by
  unfold execPixelWindowOpen
  split
  · exact .next (.setScan (.setDp_dark (Datapath.openPixel_drive _ _ _) (.refl s)))
  · exact .next (.refl s)

theorem leads_execRasterPositionInterval (s : State) : Leads (Steady may s) (execRasterPositionInterval s) := by
  unfold execRasterPositionInterval
  split
  · split
    · refine .next (.setDp_lawful (.refl s) fun _ => ?_)
      unfold drivePosition
      split
      next hspan =>
        obtain ⟨hmode, -⟩ := by simpa only [Bool.and_eq_true, beq_iff_eq] using hspan
        exact driveLawful_of_image hmode
      next => exact driveLawful_of_dark rfl
    · exact .next (.refl s)
  · exact .next (.refl s)

theorem Steady.returnedSlot (h : Steady may s t) {slot : Nat} {k : Tri Clamp} :
    Steady may s (t.imageLineEnded slot k) := .returnSlot h.mapCtx

theorem Steady.reportPixelEnd (h : Steady may s t) {d : Datapath} : Steady may s (t.reportPixelEnd d) := by
  unfold State.reportPixelEnd
  split
  · exact h.returnedSlot.closeIfLast
  · exact h.closeIfLast
  · exact h.closeIfLast
  · exact h

theorem leads_execPixelWindowEnd (s : State) : Leads (Steady may s) (execPixelWindowEnd s) := by
  unfold execPixelWindowEnd
  split
  · exact .next (.reportPixelEnd (.setDp_dark (by rfl) (Steady.refl s).setScan))
  · exact .next (.refl s)

theorem driveLawful_openMonitor (s : State) : DriveLawful (s.setDp (openMonitor s)) := by
  unfold openMonitor
  split
  next m _ =>
    refine ⟨fun _ h => absurd rfl h, fun _ d hd => ?_⟩
    show ((Tri.all 0).put m (monitorDriveOf s m)).get d = 0
    rw [Tri.get_put_of_ne _ _ fun h => hd (congrArg some h.symm), Tri.get_all]
  next => exact driveLawful_of_dark rfl

theorem leads_execMonitorWindowOpen (s : State) : Leads (Steady may s) (execMonitorWindowOpen s) := by
  unfold execMonitorWindowOpen
  split
  · exact .next (.setScan (.setDp_lawful (.refl s) fun _ => driveLawful_openMonitor s))
  · exact .next (.refl s)

theorem Steady.sampled (h : Steady may s t) {r : BitVec 10} (hpower : t.power = s.power) :
    Steady may s (t.setPower (s.power.sampled r)) :=
  .setPower (by unfold Power.sampled; split <;> rw [hpower]) h

theorem leads_execMonitorWindowEnd (s : State) : Leads (Steady may s) (execMonitorWindowEnd s) := by
  unfold execMonitorWindowEnd
  split
  · exact .next (.sampled (.setScan (.setDp_dark (by rfl) (.refl s))) rfl)
  · exact .next (.refl s)

theorem Steady.settleDone (h : Steady may s t) : Steady may s t.settleDone := by
  unfold State.settleDone
  split
  · exact .ite h.primingStage7 h
  · split
    · exact h.finishCalibrate
    · exact h

theorem Steady.useSettle (h : Steady may s t) {m : Nat} : Steady may s (t.useSettle m) := by
  unfold State.useSettle
  dsimp only
  split
  · exact h.settleStep
  · exact h.settleStep.settleDone
  · exact h.settleStep.halt

theorem Steady.useRegulate (h : Steady may s t) {ch : Channel} {m : Nat} : Steady may s (t.useRegulate ch m) :=
  .ite (.ite h.countDark.laserDark h.countDark) h.regulate

theorem Steady.useReading (h : Steady may s t) {m : Sample} {r : Nat} : Steady may s (t.useReading m r) := by
  unfold State.useReading
  split
  · split
    · exact h.useRegulate
    · exact h.useSettle
  · exact h

theorem leads_execConversionCompletion (r : BitVec 10) (s : State) :
    Leads (Steady may s) (execConversionCompletion r s) := by
  unfold execConversionCompletion
  split
  · exact .next (.useReading (.setPower (by rfl) (.refl s)))
  · exact .next (.refl s)

theorem leads_execFrameLockWaitExpiry (s : State) : Leads (Steady may s) (execFrameLockWaitExpiry s) := by
  unfold execFrameLockWaitExpiry
  split
  · exact .next (.refl s)
  next c hctx =>
    have hexpired : Steady may s (s.expireLockWait c) := .setCtx (.refl s) (freeContext_of_some hctx)
    split
    · exact .next (.ite hexpired hexpired.halt)
    · exact .next (.refl s)
    · exact .next (.refl s)

theorem leads_execPrimingLockWaitExpiry (s : State) : Leads (Steady may s) (execPrimingLockWaitExpiry s) := by
  unfold execPrimingLockWaitExpiry
  split
  · exact .next (.ite (.setRun (by rfl) (.refl s)) (.halt (.setRun (by rfl) (.refl s))))
  · exact .next (.refl s)

theorem leads_execSettleLockTimeoutExpiry (s : State) : Leads (Steady may s) (execSettleLockTimeoutExpiry s) := by
  unfold execSettleLockTimeoutExpiry
  split
  · exact .next (.ite (.setPower (by rfl) (.refl s)) (.halt (.setPower (by rfl) (.refl s))))
  · exact .next (.refl s)

theorem leads_execMotorReferenceToggle (s : State) : Leads (Steady may s) (execMotorReferenceToggle s) := by
  unfold execMotorReferenceToggle
  split
  · exact .next (Steady.refl s).setScan
  · exact .next (.refl s)

/-! ## The ends of reads (R49 to R71, R133 to R150) -/

theorem leads_execLineReadComplete (id : Nat) (a : Answer) (s : State) :
    Leads (Steady may s) (execLineReadComplete id a s) := by
  unfold execLineReadComplete
  split
  · exact .next (Steady.refl s).endLineRead
  · exact .next (.refl s)

theorem leads_execLineReadTimerExpiry (id : Nat) (s : State) :
    Leads (Steady may s) (execLineReadTimerExpiry id s) := by
  unfold execLineReadTimerExpiry
  split
  · exact .next (Steady.refl s).endLineRead
  · exact .next (.refl s)

theorem TableStore.readEnded_reads (k : TableStore) (e : LoadRead) (l : Load) (data : Option (List Byte)) :
    (k.readEnded e l data).reads = k.reads := by
  unfold TableStore.readEnded
  split <;> rfl

theorem Steady.afterLoadRead (h : Steady may s t) : Steady may s t.afterLoadRead := by
  unfold State.afterLoadRead
  split
  · exact .ite h.finishLoad h.loadMore
  · exact h

theorem Steady.endLoadRead (h : Steady may s t) {e : LoadRead} {data : Option (List Byte)} :
    Steady may s (t.endLoadRead e data) := by
  unfold State.endLoadRead
  dsimp only
  split
  · refine .afterLoadRead (.setTables ?_ h)
    rw [TableStore.readEnded_reads]
    exact List.length_filter_le _ _
  · exact .loadMore (.setTables (List.length_filter_le _ _) h)

theorem leads_execLoadReadComplete (id : Nat) (a : Answer) (s : State) :
    Leads (Steady may s) (execLoadReadComplete id a s) := by
  unfold execLoadReadComplete
  split
  · exact .next (Steady.refl s).endLoadRead
  · exact .next (.refl s)

theorem leads_execLoadReadExpiry (id : Nat) (s : State) : Leads (Steady may s) (execLoadReadExpiry id s) := by
  unfold execLoadReadExpiry
  split
  · exact .next (Steady.refl s).endLoadRead
  · exact .next (.refl s)

theorem leads_execHeaderReadEnd (id : Nat) (r : ReadEnd) (s : State) :
    Leads (Steady may s) (execHeaderReadEnd id r s) := by
  unfold execHeaderReadEnd
  split
  · split
    · split
      · exact .next (Steady.refl s).actOnHeader
      · exact .next (.setDeck (by rfl) (.refl s))
    · exact .next (.refl s)
  · exact .next (.refl s)

theorem leads_execPollTimerExpiry (s : State) : Leads (Steady may s) (execPollTimerExpiry s) := by
  unfold execPollTimerExpiry
  split
  · exact .next (Steady.refl s).seekDeck
  · exact .next (.refl s)

theorem Steady.currentDelivered (h : Steady may s t) : Steady may s t.currentDelivered := by
  unfold State.currentDelivered
  split
  next hrun => exact .ite (h.actAnew (.inr hrun)) (h.becomeCurrent (.inr hrun))
  next => exact h

theorem leads_execCardReadEnd (id : Nat) (r : ReadEnd) (s : State) :
    Leads (Steady may s) (execCardReadEnd id r s) := by
  unfold execCardReadEnd
  dsimp only
  split
  · exact .next (Steady.refl s).setSeq.currentDelivered
  · split
    · exact .next (Steady.refl s).setSeq.tryCross.fetch
    · exact .next (.refl s)

/-! ## The film's events (R115 to R128) -/

theorem leads_execStepIssue (s : State) : Leads (Steady may s) (execStepIssue s) := by
  have hscan : Steady may s (s.setFilm (s.film.scanStep s.rb)) := by
    refine .setFilm ?_ (.refl s)
    unfold Film.scanStep
    dsimp only
    split <;> rfl
  have hpull : Steady may s (s.setFilm (s.film.pullStep s.rb)) := by
    refine .setFilm ?_ (.refl s)
    unfold Film.pullStep
    dsimp only
    split <;> rfl
  unfold execStepIssue
  split
  · exact .next (.refl s)
  · split
    · exact .next hscan
    · exact .next hscan
    · exact .next hpull
    · exact .next (.refl s)

theorem Steady.reportStill (h : Steady may s t) : Steady may s t.reportStill := .ite h.halt h

/-- The one operation that moves the film's counts (R120 step 1). -/
theorem Steady.countPosition (h : Steady may s t) (hmoves : may.dwell) : Steady may s t.countPosition := by
  have hperf : t.film.countPosition.perfCount = t.film.perfCount := by
    unfold Film.countPosition
    dsimp only
    split
    next c _ => cases c.kind <;> rfl
    next => rfl
  have hfilm : Steady may s (t.setFilm t.film.countPosition) :=
    h.trans
    { Steady.refl t with perfs := fun hp => hperf.trans_le hp, counts := .inl hmoves }
  exact .ite hfilm.raise hfilm

theorem Steady.ownGood (h : Steady may s t) {c : FrameCtx} {passed : Bool} (hfree : FreeContext t) :
    Steady may s (t.ownGood c passed) := .ite (h.setCtx hfree).refresh.finishFrame h.refresh.halt

theorem Steady.afterSpoiled (h : Steady may s t) {c : FrameCtx} {passed : Bool} (hfree : FreeContext t) :
    Steady may s (t.afterSpoiled c passed) := by
  refine .ite (h.setCtx hfree).halt (.ite h.finishFrame ?_)
  cases c.haltAfter with
  | polygonLost => exact h.halt
  | laserDark => exact h.halt
  | none => exact h.enterPreparing hfree

theorem State.recordSpoil_ctx (s : State) (c : FrameCtx) : (s.recordSpoil c).frame.ctx = s.frame.ctx := by
  unfold State.recordSpoil
  split <;> rfl

theorem Steady.ownSpoiled (h : Steady may s t) (hspoils : may.spoils) {c : FrameCtx} {passed : Bool}
    (hfree : FreeContext t) : Steady may s (t.ownSpoiled c passed) :=
  (h.recordSpoil hspoils).raise.refresh.afterSpoiled (by simpa [FreeContext, State.recordSpoil_ctx] using hfree)

theorem Steady.afterLeader (h : Steady may s t) {l : LeaderCard} {passed : Bool} :
    Steady may s (t.afterLeader l passed) := .ite h.halt (.ite h.finishLeader (.ite h.endRun h.leaderCycle))

theorem Steady.ownLeader (h : Steady may s t) {l : LeaderCard} {passed : Bool} :
    Steady may s (t.ownLeader l passed) := .afterLeader <| .refresh <| .setFilm (by rfl) h

theorem Steady.handCycle (h : Steady may s t) (hspoils : may.spoils) {y : Option Cycle} {passed : Bool} :
    Steady may s (t.handCycle y passed) := by
  unfold State.handCycle
  split
  · exact h.refresh
  · split
    · split
      next c hctx =>
        have hfree := freeContext_of_some hctx
        split
        · exact h.ownSpoiled hspoils hfree
        · exact h.ownGood hfree
      next => exact h.refresh
    · split
      · exact h.ownLeader
      · exact h.refresh

theorem Steady.dwellEnd (h : Steady may s t) (hmoves : may.dwell) (hspoils : may.spoils) : Steady may s t.dwellEnd := by
  have hchecked (passed : Bool) : Steady may s (t.countPosition.setFilm (t.countPosition.film.checked passed)) := by
    refine .setFilm ?_ (h.countPosition hmoves)
    cases passed <;> rfl
  exact .handCycle (.ite (hchecked _).reportStill (hchecked _)) hspoils

theorem leads_execDwellEnd (s : State) (hmoves : may.dwell) (hspoils : may.spoils) : Leads (Steady may s) (execDwellEnd s) := by
  unfold execDwellEnd
  split
  · exact .next ((Steady.refl s).dwellEnd hmoves hspoils)
  · exact .next (.refl s)

theorem leads_execSettlingPeriodEnd (s : State) (hmoves : may.dwell) (hspoils : may.spoils) :
    Leads (Steady may s) (execSettlingPeriodEnd s) := by
  unfold execSettlingPeriodEnd
  split
  · dsimp only
    split
    · exact .next (.dwellEnd (.setFilm (by rfl) (.refl s)) hmoves hspoils)
    · exact .next (.setFilm (by rfl) (.refl s))
  · exact .next (.refl s)

theorem leads_execPerfEdge (s : State) : Leads (Steady may s) (execPerfEdge s) := by
  unfold execPerfEdge
  split
  · exact .next (.refl s)
  · refine .next ((Steady.refl s).trans { Steady.refl s with perfs := fun hp => ?_ })
    show (if s.film.state.moving then min 255 (s.film.perfCount + 1) else s.film.perfCount) ≤ 255
    split
    · exact Nat.min_le_left _ _
    · exact hp

theorem Steady.faultHalt (h : Steady may s t) : Steady may s t.faultHalt := h.frameFault.endSettle.halt

theorem leads_execDriverFault (s : State) : Leads (Steady may s) (execDriverFault s) := by
  unfold execDriverFault
  dsimp only
  split
  · exact .next (.refl s)
  · have hlevel : Steady may s (s.setFilm { s.film with faultLevel := true, faultRun := 0 }) :=
      .setFilm (by rfl) (.refl s)
    split
    · exact .next hlevel
    · split
      · exact .next (.setFilm (by rfl) hlevel)
      · exact .next (.setFilm (by rfl) hlevel)
      · exact .next (.faultHalt (.setFilm (by rfl) hlevel))

/-! ## Every command and event -/

/-- The commands that clear causes, POWER_ON aside: RESET and a write to ATTENTION (R169, R171). -/
def clearsCauses : Instr → Bool
  | .reset => true
  | .attentionWrite _ => true
  | _ => false

/-- The events among whose operations a dwell end may be. -/
def mayEndDwell (c : Instr) : Prop := c = .dwellEnd ∨ c = .settlingPeriodEnd

/-- Every command and event is steady, but for POWER_ON and the end of a run block read; a dwell end is among a dwell end's
operations and those of a settling period's end alone, a command alone is answered, and a reset and a write to ATTENTION
alone clear causes. -/
theorem leads_exec (c : Instr) (s : State) (hpower : c ≠ .powerOn) (hread : ∀ id r, c ≠ .runBlockReadEnd id r) :
    Leads (Steady ⟨mayEndDwell c, isCommand c = true, clearsCauses c = true, mayEndDwell c⟩ s) (exec c s) := by
  cases c with
  | powerOn => exact absurd rfl hpower
  | runBlockReadEnd id r => exact absurd rfl (hread id r)
  | start => exact leads_execStart s rfl
  | pause => exact leads_execPause s rfl
  | resume => exact leads_execResume s rfl
  | stop => exact leads_execStop s rfl
  | abort => exact leads_execAbort s rfl
  | spinDown => exact leads_execSpinDown s rfl
  | reset => exact .next (steady_softReset s rfl rfl)
  | unknownCommand code => exact .next (.answer rfl (.refl s))
  | runaddrWrite high value => exact leads_execRunaddrWrite high value s
  | attentionWrite value => exact .next (.setRegs (.refl s) (fun _ => rfl) (.inl rfl))
  | registerWrite offset bytes value => exact .next (.refl s)
  | sosEvent => exact leads_execSosEvent s
  | indexEvent => exact leads_execIndexEvent s
  | watchdogExpiry => exact leads_execWatchdogExpiry s
  | pixelWindowOpen => exact leads_execPixelWindowOpen s
  | pixelWindowEnd => exact leads_execPixelWindowEnd s
  | monitorWindowOpen => exact leads_execMonitorWindowOpen s
  | monitorWindowEnd => exact leads_execMonitorWindowEnd s
  | conversionCompletion reading => exact leads_execConversionCompletion reading s
  | frameLockWaitExpiry => exact leads_execFrameLockWaitExpiry s
  | primingLockWaitExpiry => exact leads_execPrimingLockWaitExpiry s
  | settleLockTimeoutExpiry => exact leads_execSettleLockTimeoutExpiry s
  | lineReadPart id error => exact .next (.setRing (by rfl) (by simp) (.refl s))
  | lineReadComplete id answer => exact leads_execLineReadComplete id answer s
  | lineReadTimerExpiry id => exact leads_execLineReadTimerExpiry id s
  | loadReadComplete id answer => exact leads_execLoadReadComplete id answer s
  | loadReadExpiry id => exact leads_execLoadReadExpiry id s
  | headerReadEnd id result => exact leads_execHeaderReadEnd id result s
  | cardReadEnd id result => exact leads_execCardReadEnd id result s
  | pollTimerExpiry => exact leads_execPollTimerExpiry s
  | stepIssue => exact leads_execStepIssue s
  | settlingPeriodEnd => exact leads_execSettlingPeriodEnd s (.inr rfl) (.inr rfl)
  | dwellEnd => exact leads_execDwellEnd s (.inl rfl) (.inl rfl)
  | perfEdge => exact leads_execPerfEdge s
  | driverFault => exact leads_execDriverFault s
  | rasterPositionInterval => exact leads_execRasterPositionInterval s
  | motorReferenceToggle => exact leads_execMotorReferenceToggle s
  | stepPulseEnd => exact .next (.setFilm (by rfl) (.refl s))
  | qualifiedLevelFall input => exact leads_execQualifiedLevelFall input s
  | faultLevelClear => exact .next (.ite (.setFilm (by rfl) (.refl s)) (.refl s))

/-! ## The end of a run block read (R145, R159) -/

/-- START's set-up is steady from the moment the new run block copy stands. -/
theorem steady_startPasses (s : State) (rb : RunBlock) :
    Steady ⟨True, False, False, True⟩ ((s.setRb rb).setDeck { s.deck with snapshotEnabled := true }) (s.startPasses rb) := by
  have hframe {t u : State} (h : Steady ⟨True, False, False, True⟩ t u) :
      Steady ⟨True, False, False, True⟩ t (u.setFrame .reset) :=
    h.trans
      { Steady.refl u with spoils := fun _ => Nat.zero_le _, context := fun _ _ => rfl, entries := .inl trivial }
  have hfilm {t u : State} (h : Steady ⟨True, False, False, True⟩ t u) :
      Steady ⟨True, False, False, True⟩ t (u.setFilm (u.film.primed rb)) :=
    h.trans { Steady.refl u with perfs := fun _ => Nat.zero_le _, counts := .inl trivial }
  have hscan {t u : State} (h : Steady ⟨True, False, False, True⟩ t u) :
      Steady ⟨True, False, False, True⟩ t u.primeScan :=
    .ite h.cutLine.setScan.updateGate.settleLockLost h.cutLine.setScan.updateGate
  have hpower {t u : State} (h : Steady ⟨True, False, False, True⟩ t u) :
      Steady ⟨True, False, False, True⟩ t (u.setPower u.power.primed) :=
    h.setPower_bounded (fun _ ch => by cases ch <;> exact Nat.zero_le _)
      fun _ ch => by cases ch <;> exact Nat.succ_pos _
  have hset {t u : State} (h : Steady ⟨True, False, False, True⟩ t u) (hrb : u.rb = rb) :
      Steady ⟨True, False, False, True⟩ t u.setUp := by
    unfold State.setUp
    rw [hrb]
    exact hpower <| hscan <| hfilm <| .setDeck (by simp [DeckReader.primed]) <| .setSeq <| .flushParked <| hframe <| .setScan h
  exact .primingStage5 <| hset (.refresh (.refl _)) (by simp)

/-- When no check of a list of named faults fails, all of them hold. -/
theorem of_firstFailing_eq_none {l : List (StartFault × Bool)} (hnamed : ∀ p ∈ l, p.1 ≠ .none)
    (h : firstFailing l = .none) : ∀ p ∈ l, p.2 = true := by
  induction l with
  | nil => exact nofun
  | cons p l ih =>
    rw [List.forall_mem_cons] at hnamed ⊢
    unfold firstFailing at h
    split at h
    next hok => exact ⟨hok, ih hnamed.2 h⟩
    next => exact absurd h hnamed.1

theorem RunBlock.checks_named (rb : RunBlock) (level : Bool) :
    ∀ p ∈ rb.checks ++ [(.transport, !level)], p.1 ≠ .none := by
  simp [RunBlock.checks]

theorem RunBlock.high_le_of_startFaultOf {rb : RunBlock} {level : Bool} (h : startFaultOf rb level = .none) :
    rb.high ≤ 8 := by
  have hring := of_firstFailing_eq_none (rb.checks_named level) h
    (.ringRange, inRange rb.high 2 8 && decide (rb.low < rb.high)) (by simp [RunBlock.checks])
  obtain ⟨⟨-, hhigh⟩, -⟩ := by
    simpa only [inRange, Bool.and_eq_true, decide_eq_true_eq] using hring
  exact hhigh

theorem lawsKept_startPasses {rb : RunBlock} (hhigh : rb.high ≤ 8) (hrun : s.run.state = .priming) :
    LawsKept s (s.startPasses rb) := by
  have h := steady_startPasses s rb
  exact
    { pending := h.pending, pins := h.pins, bus := h.bus, irq := h.irq, drive := h.drive
      ring := fun ⟨_, hslots, hreads⟩ => h.ring ⟨hhigh, hslots, hreads⟩
      loads := h.loads, dark := h.dark, perfs := h.perfs, context := h.context
      snapshot := fun _ => h.snapshot fun hidle => nomatch hrun.symm.trans hidle
      offsets := fun _ ch => by cases ch <;> exact Nat.zero_le _
      spoils := fun _ => by simp [SpoilListBounded, State.startPasses, State.setUp, FrameExposure.reset] }

theorem lawsKept_startFails {f : StartFault} {k : Nat} (hrun : s.run.state = .priming) :
    LawsKept s (s.startFails f k) :=
  Steady.toLawsKept (may := ⟨True, False, False, True⟩) <|
    .toIdle (.setRun (by rfl) (.refl s)) fun hlaw => hlaw (.inr (.inl hrun))

theorem lawsKept_validateStart {data : Option (List Byte)} {k : Nat} (hrun : s.run.state = .priming) :
    LawsKept s (s.validateStart data k) := by
  unfold State.validateStart
  split
  · exact lawsKept_startFails hrun
  · split
    next hpass => exact lawsKept_startPasses (RunBlock.high_le_of_startFaultOf hpass) hrun
    next => exact lawsKept_startFails hrun

theorem LawsKept.trans (h : LawsKept s t) (k : LawsKept t u) : LawsKept s u where
  pending := k.pending.trans h.pending
  pins := k.pins.trans h.pins
  bus := h.bus.trans k.bus
  irq := k.irq ∘ h.irq
  drive := k.drive ∘ h.drive
  ring := k.ring ∘ h.ring
  loads := k.loads ∘ h.loads
  offsets := k.offsets ∘ h.offsets
  spoils := k.spoils ∘ h.spoils
  dark := k.dark ∘ h.dark
  perfs := k.perfs ∘ h.perfs
  snapshot := k.snapshot ∘ h.snapshot
  context := k.context ∘ h.context

theorem leads_execRunBlockReadEnd (id : Nat) (r : ReadEnd) (s : State) :
    Leads (LawsKept s) (execRunBlockReadEnd id r s) := by
  have hread : LawsKept s (s.setDeck { s.deck with runBlockRead := none }) :=
    (Steady.setDeck (may := ⟨True, False, False, True⟩) (by rfl) (.refl s)).toLawsKept
  unfold execRunBlockReadEnd
  split
  · split
    · refine .next ?_
      dsimp only
      split
      next hstage =>
        obtain ⟨hrun, -⟩ := by simpa only [atStage1, Bool.and_eq_true, beq_iff_eq] using hstage
        exact hread.trans (lawsKept_validateStart hrun)
      next => exact hread
    · exact .next (.refl s)
  · exact .next (.refl s)

/-! ## Every step -/

/-- Settles O10. -/
theorem resetStateIsLawful : Obligations.ResetStateIsLawful := by
  refine ⟨?gate, irqLawful_reset, ?ring, ?loads, ?offsets, ?reference, ?windows, ?drive, ?spoils, ?dark, ?perfs, ?snapshot,
    ?context⟩
  case gate => exact show false = gateLaw .stopped .idle from rfl
  case ring => exact ⟨Nat.zero_le _, Nat.zero_le _, Nat.zero_le _⟩
  case loads => exact Nat.zero_le _
  case offsets => exact fun ch => by cases ch <;> exact Nat.zero_le _
  case reference => exact fun _ => ⟨rfl, rfl⟩
  case windows => exact fun h => absurd rfl h
  case drive => exact driveLawful_of_dark rfl
  case spoils => exact Nat.zero_le _
  case dark => exact fun ch => by cases ch <;> exact Nat.succ_pos _
  case perfs => exact Nat.zero_le _
  case snapshot => exact fun _ => rfl
  case context => exact fun _ => rfl

theorem leads_execPowerOn (s : State) : Leads (LawsKept s) (execPowerOn s) := by
  obtain ⟨-, hirq, hring, hloads, hoffsets, -, -, hdrive, hspoils, hdark, hperfs, hsnapshot, hcontext⟩ :=
    resetStateIsLawful
  exact .next
    { pending := rfl, pins := rfl, bus := List.prefix_rfl, irq := fun _ => hirq, drive := fun _ => hdrive
      ring := fun _ => hring, loads := fun _ => hloads, offsets := fun _ => hoffsets, spoils := fun _ => hspoils
      dark := fun _ => hdark, perfs := fun _ => hperfs, snapshot := fun _ => hsnapshot
      context := fun _ => hcontext }

theorem leads_exec_lawsKept (c : Instr) (s : State) : Leads (LawsKept s) (exec c s) := by
  by_cases hpower : c = .powerOn
  · rw [hpower]
    exact leads_execPowerOn s
  by_cases hread : ∃ id r, c = .runBlockReadEnd id r
  · obtain ⟨id, r, rfl⟩ := hread
    exact leads_execRunBlockReadEnd id r s
  · obtain ⟨t, ht, hsteady⟩ := leads_exec c s hpower fun id r h => hread ⟨id, r, h⟩
    exact ⟨t, ht, hsteady.toLawsKept⟩

/-- Settles O2. -/
theorem everyCommandIsCarriedOut : Obligations.EveryCommandIsCarriedOut := by
  intro c s
  obtain ⟨t, ht, hlaws⟩ := leads_exec_lawsKept c s
  obtain ⟨ops, hops⟩ := hlaws.bus
  refine ⟨t, ops, ht, hlaws.pending, hlaws.pins, hops.symm, fun hpower hread => ?_⟩
  obtain ⟨u, hu, hsteady⟩ := leads_exec c s hpower hread
  obtain rfl : t = u := by injection ht.symm.trans hu
  exact hsteady.rb

theorem Film.sample_perfCount (f : Film) (p : Pins) : (f.sample p).perfCount = f.perfCount := by
  unfold Film.sample
  split <;> rfl

theorem Film.sample_counts (f : Film) (p : Pins) : (f.sample p).counts = f.counts := by
  unfold Film.sample
  split <;> rfl

theorem steady_tick (s : State) : Steady may s s.tick where
  pending := rfl
  pins := rfl
  rb := rfl
  bus := List.prefix_rfl
  irq := id
  drive := id
  ring := fun ⟨hhigh, hslots, hreads⟩ =>
    ⟨hhigh, hslots, (List.length_map (as := s.ring.reads) LineRead.tick).le.trans hreads⟩
  loads h := (List.length_map (as := s.tables.reads) LoadRead.tick).le.trans h
  offsets := id
  spoils := id
  dark := id
  perfs h := (Film.sample_perfCount s.film.tickTimers s.pins).le.trans h
  counts := .inr (Film.sample_counts s.film.tickTimers s.pins)
  entries := .inr rfl
  causes := .inr fun _ => id
  outcome := .inr rfl
  snapshot := id
  context h hr := by
    show s.frame.ctx.map FrameCtx.tick = none
    rw [h hr, Option.map_none]

/-- A step keeps the laws, but for the queue's own changes. -/
theorem step_lawsKept (h : step s = .next t) : LawsKept (s.setPending t.pending) t := by
  unfold step at h
  split at h
  next hempty =>
    obtain rfl : s.idleStep = t := by injection h
    unfold State.idleStep
    split
    · have hkept := (steady_tick (may := ⟨True, False, False, True⟩) s).dumpOn.toLawsKept
      rw [hkept.pending]
      exact hkept
    · exact .refl _
  next c rest hfront =>
    obtain ⟨u, hu, hkept⟩ := leads_exec_lawsKept c (s.setPending rest)
    obtain rfl : u = t := by injection hu.symm.trans h
    rw [hkept.pending]
    exact hkept

/-- Settles O4. -/
theorem filmCounterMovesAtDwellEnd : Obligations.FilmCounterMovesAtDwellEnd := by
  intro s t hdwell hsettling hpower hread h
  unfold step at h
  split at h
  next hempty =>
    obtain rfl : s.idleStep = t := by injection h
    unfold State.idleStep
    split
    · exact congrArg Prod.fst ((steady_tick (may := ⟨False, False, False, False⟩) s).dumpOn.counts.resolve_left id)
    · rfl
  next c rest hfront =>
    rw [hfront, List.head?_cons] at hdwell hsettling hpower
    have hnotRead (id : Nat) (r : ReadEnd) : c ≠ .runBlockReadEnd id r := fun hc =>
      hread id r (by rw [hfront, List.head?_cons, hc])
    obtain ⟨u, hu, hsteady⟩ := leads_exec c (s.setPending rest) (fun hc => hpower (congrArg some hc)) hnotRead
    obtain rfl : u = t := by injection hu.symm.trans h
    exact congrArg Prod.fst (hsteady.counts.resolve_left fun hc =>
      hc.elim (fun hc => hdwell (congrArg some hc)) fun hc => hsettling (congrArg some hc))

/-- Settles O6. -/
theorem stepKeepsBounds : Obligations.StepKeepsBounds := by
  refine ⟨?_, ?_, ?_⟩
  · exact fun s t ⟨hring, hloads⟩ h => ⟨(step_lawsKept h).ring hring, (step_lawsKept h).loads hloads⟩
  · exact fun s t hoffsets h => (step_lawsKept h).offsets hoffsets
  · exact fun s t ⟨hspoils, hdark, hperfs⟩ h =>
      ⟨(step_lawsKept h).spoils hspoils, (step_lawsKept h).dark hdark, (step_lawsKept h).perfs hperfs⟩

/-- Settles O8. -/
theorem stepKeepsOutputLaws : Obligations.StepKeepsOutputLaws :=
  ⟨fun _ _ hdrive h => (step_lawsKept h).drive hdrive, fun _ _ hirq h => (step_lawsKept h).irq hirq⟩

/-- Settles O9. -/
theorem stepKeepsIdleQuiet : Obligations.StepKeepsIdleQuiet :=
  fun _ _ ⟨hsnapshot, hcontext⟩ h => ⟨(step_lawsKept h).snapshot hsnapshot, (step_lawsKept h).context hcontext⟩

end Sys2Proof.Machine

/-! PROOF. The Scan Timing Unit's laws over every step: LOCKED is entered at an SOS event alone (O3); a stopped reference
keeps the lock STOPPED, and windows stand in LOCKED alone (O7). -/

namespace Sys2Proof.Machine

variable {s t : State}

/-! ## The scan after the operations that change it -/

theorem State.cutLine_scan (s : State) :
    s.cutLine.scan = if s.scan.window = .none then s.scan else s.scan.noWindow := by
  unfold State.cutLine
  split
  next hnone => rw [if_pos hnone]
  next hopen => rw [if_neg hopen]; simp

theorem State.cutLine_window (s : State) : s.cutLine.scan.window = .none := by
  rw [State.cutLine_scan]
  split
  · assumption
  · rfl

@[simp] theorem State.cutLine_running (s : State) : s.cutLine.scan.running = s.scan.running := by
  rw [State.cutLine_scan]
  split <;> rfl

@[simp] theorem State.loseLock_scan (s : State) (l : LockState) : (s.loseLock l).scan = { s.scan with lock := l } := by
  simp [State.loseLock]

@[simp] theorem State.gainLock_scan (s : State) : s.gainLock.scan = { s.scan with lock := .locked } := by
  simp [State.gainLock]

@[simp] theorem State.stopScan_scan (s : State) : s.stopScan.scan = s.cutLine.scan.stopped := by
  unfold State.stopScan
  dsimp only
  split <;> simp

theorem State.primeScan_scan (s : State) : s.primeScan.scan = s.cutLine.scan.clearedAtStart.giveUpLock := by
  unfold State.primeScan
  dsimp only
  split <;> simp

theorem ScanTiming.giveUpLock_not_locked (c : ScanTiming) : c.giveUpLock.lock ≠ .locked := by
  unfold ScanTiming.giveUpLock
  split
  · exact nofun
  · exact nofun
  next h => rw [h]; exact nofun
  next h => rw [h]; exact nofun

theorem ScanTiming.giveUpLock_running (c : ScanTiming) : c.giveUpLock.running = c.running := by
  unfold ScanTiming.giveUpLock
  split <;> rfl

theorem ScanTiming.giveUpLock_window (c : ScanTiming) : c.giveUpLock.window = c.window := by
  unfold ScanTiming.giveUpLock
  split <;> rfl

/-! ## What no event but an SOS does -/

/-- LOCKED is not entered from s to t, and the laws of the scan are kept. -/
structure ScanKept (s t : State) : Prop where
  locked : t.scan.lock = .locked → s.scan.lock = .locked
  reference : ReferenceLawful s → ReferenceLawful t
  windows : WindowsLawful s → WindowsLawful t

theorem ScanKept.of_eq (h : t.scan = s.scan) : ScanKept s t := by
  constructor
  · rw [h]; exact id
  · unfold ReferenceLawful; rw [h]; exact id
  · unfold WindowsLawful; rw [h]; exact id

theorem ScanKept.refl (s : State) : ScanKept s s := .of_eq rfl

theorem ScanKept.trans {u : State} (h : ScanKept s t) (k : ScanKept t u) : ScanKept s u :=
  ⟨h.locked ∘ k.locked, k.reference ∘ h.reference, k.windows ∘ h.windows⟩

/-- A change of the scan that keeps the reference, the lock and the watchdog, and opens no line's windows. -/
theorem ScanKept.of_fields
    (hkeep : (t.scan.running, t.scan.lock, t.scan.watchdog) = (s.scan.running, s.scan.lock, s.scan.watchdog))
    (hwindow : t.scan.window ≠ .none → s.scan.window ≠ .none) : ScanKept s t := by
  obtain ⟨hrunning, hlock, hwatchdog⟩ := by simpa only [Prod.mk.injEq] using hkeep
  constructor
  · rw [hlock]; exact id
  · unfold ReferenceLawful; rw [hrunning, hlock, hwatchdog]; exact id
  · unfold WindowsLawful; rw [hlock]; exact fun hlaw hopen => hlaw (hwindow hopen)

/-- The scan stopped keeps every law, whatever stood before. -/
theorem ScanKept.of_stopped {c : ScanTiming} (h : t.scan = c.stopped) (hwindow : c.window = .none) : ScanKept s t where
  locked hlock := by rw [h] at hlock; cases hlock
  reference _ _ := by rw [h]; exact ⟨rfl, rfl⟩
  windows _ hopen := by rw [h] at hopen; exact absurd hwindow hopen

theorem scanKept_stopScan (s t : State) : ScanKept s t.stopScan :=
  .of_stopped t.stopScan_scan t.cutLine_window

/-- START's set-up gives up the lock of a scan whose reference has just been started. -/
theorem State.setUp_scan (s : State) :
    ∃ u : State, s.setUp.scan = u.cutLine.scan.clearedAtStart.giveUpLock ∧
      u.scan = s.scan.startReference s.rb.polygon.refdiv :=
  ⟨_, State.primeScan_scan _, by simp⟩

theorem scanKept_startPasses (s : State) (rb : RunBlock) : ScanKept s (s.startPasses rb) := by
  obtain ⟨u, hset, hu⟩ := ((((s.setRb rb).setDeck { s.deck with snapshotEnabled := true }).refresh)).setUp_scan
  have hscan : (s.startPasses rb).scan = u.cutLine.scan.clearedAtStart.giveUpLock := by
    rw [← hset, State.startPasses, State.primingStage5_scan]
  have hrunning : u.scan.running = true := by rw [hu]; rfl
  have hlock := ScanTiming.giveUpLock_not_locked u.cutLine.scan.clearedAtStart
  constructor
  · rw [hscan]; exact fun h => absurd h hlock
  · intro _ hstopped
    rw [hscan, ScanTiming.giveUpLock_running] at hstopped
    exact absurd (u.cutLine_running.symm.trans hstopped) (by rw [hrunning]; decide)
  · intro _ hopen
    rw [hscan, ScanTiming.giveUpLock_window] at hopen
    exact absurd u.cutLine_window hopen

theorem scanKept_validateStart (s : State) (data : Option (List Byte)) (k : Nat) : ScanKept s (s.validateStart data k) := by
  unfold State.validateStart
  split
  · exact .of_eq (by simp)
  · split
    · exact scanKept_startPasses s _
    · exact .of_eq (by simp)

/-! ## The stages of an SOS event -/

/-- A scan between the overlap stage and the line stage: the reference RUNNING, no line in its windows. -/
def BetweenLines (s : State) : Prop := s.scan.running = true ∧ s.scan.window = .none

theorem BetweenLines.of_scan (h : BetweenLines s) (hrunning : t.scan.running = s.scan.running)
    (hwindow : t.scan.window = s.scan.window) : BetweenLines t := ⟨hrunning.trans h.1, hwindow.trans h.2⟩

theorem BetweenLines.failLock (h : BetweenLines s) : BetweenLines s.failLock := by
  unfold State.failLock
  split
  · exact h.of_scan (by simp) (by simp)
  · exact h

theorem BetweenLines.slip (h : BetweenLines s) : BetweenLines s.slip := by
  unfold State.slip
  split
  · exact BetweenLines.failLock (h.of_scan rfl rfl)
  · exact h.of_scan rfl rfl

theorem BetweenLines.facetStage (h : BetweenLines s) (l : LockState) : BetweenLines (s.facetStage l) := by
  unfold State.facetStage
  split
  · exact h.of_scan rfl rfl
  · split <;> exact h.of_scan rfl rfl
  · dsimp only
    split
    · exact BetweenLines.slip (h.of_scan rfl rfl)
    · exact h.of_scan rfl rfl

theorem BetweenLines.averageStage (h : BetweenLines s) (d i : Nat) : BetweenLines (s.averageStage d i) := by
  unfold State.averageStage
  dsimp only
  split
  · exact BetweenLines.failLock (h.of_scan rfl rfl)
  · exact h.of_scan rfl rfl

theorem BetweenLines.checkRevolution (h : BetweenLines s) (v : Revolution) : BetweenLines (s.checkRevolution v) := by
  unfold State.checkRevolution
  dsimp only
  split
  · split
    · split
      · exact h.of_scan (by simp) (by simp)
      · exact h.of_scan rfl rfl
    · exact h.of_scan rfl rfl
  · exact BetweenLines.failLock (h.of_scan rfl rfl)

theorem BetweenLines.revolutionStage (h : BetweenLines s) : BetweenLines s.revolutionStage := by
  unfold State.revolutionStage
  split
  · split
    · exact h.checkRevolution _
    · exact h
  · exact h

theorem BetweenLines.judgeStages (h : BetweenLines s) (l : LockState) (d : Nat) (i : Option Nat) :
    BetweenLines (s.judgeStages l d i) := by
  unfold State.judgeStages
  split
  · exact h
  · exact h
  · split
    · exact (h.averageStage _ _).revolutionStage
    · exact h.revolutionStage

theorem betweenLines_overlapStage (h : s.scan.running = true) : BetweenLines s.overlapStage := by
  unfold State.overlapStage
  split
  next hnone => exact ⟨h, hnone⟩
  next =>
    exact BetweenLines.failLock ⟨s.cutLine_running.trans h, s.cutLine_window⟩

/-- The line stage opens a line's windows in LOCKED alone. -/
theorem lineStage_laws (h : BetweenLines s) : ReferenceLawful s.lineStage ∧ WindowsLawful s.lineStage := by
  obtain ⟨hrunning, hwindow⟩ := h
  have hkept : s.lineStage.scan.running = true := by
    unfold State.lineStage
    split
    · simpa using hrunning
    · exact hrunning
  refine ⟨fun hstopped => absurd (hkept.symm.trans hstopped) (by decide), ?_⟩
  unfold State.lineStage
  split
  next hlock => exact fun _ => by simpa using hlock
  next => exact fun hopen => absurd hwindow hopen

theorem sosStages_laws (h : s.scan.running = true) : ReferenceLawful s.sosStages ∧ WindowsLawful s.sosStages :=
  have hreload : (s.setScan (s.scan.reloaded s.rb.polygon.watchdog)).scan.running = true := h
  lineStage_laws (((betweenLines_overlapStage hreload).facetStage _).judgeStages _ _ _)

theorem execSosEvent_laws (hlaws : ReferenceLawful s ∧ WindowsLawful s) :
    Leads (fun t => ReferenceLawful t ∧ WindowsLawful t) (execSosEvent s) := by
  unfold execSosEvent
  dsimp only
  split
  · exact .next hlaws
  · split
    next hrunning => exact .next (sosStages_laws hrunning)
    next => exact .next hlaws

/-! ## Every other command and event -/

theorem scanKept_execStart (s : State) : Leads (ScanKept s) (execStart s) := by
  unfold execStart
  split
  · exact .next (.of_eq (by simp))
  · exact .next (.of_eq (by simp))

theorem scanKept_execPause (s : State) : Leads (ScanKept s) (execPause s) := by
  unfold execPause
  split
  all_goals exact .next (.of_eq (by simp))

theorem scanKept_execResume (s : State) : Leads (ScanKept s) (execResume s) := by
  unfold execResume
  split
  · exact .next (.of_eq (by simp))
  · split
    all_goals exact .next (.of_eq (by simp))
  · exact .next (.of_eq (by simp))

theorem scanKept_execStop (s : State) : Leads (ScanKept s) (execStop s) := by
  unfold execStop
  split
  all_goals exact .next (.of_eq (by simp))

theorem scanKept_execAbort (s : State) : Leads (ScanKept s) (execAbort s) := by
  unfold execAbort
  split
  all_goals exact .next (.of_eq (by simp))

theorem scanKept_execSpinDown (s : State) : Leads (ScanKept s) (execSpinDown s) := by
  unfold execSpinDown
  split
  · dsimp only
    split
    · exact .next (scanKept_stopScan _ _)
    · exact .next (.of_eq (by simp))
  · exact .next (.of_eq (by simp))

theorem scanKept_of_reset (h : t.scan = .reset) : ScanKept s t := .of_stopped (c := .reset) h rfl

theorem scanKept_execIndexEvent (s : State) : Leads (ScanKept s) (execIndexEvent s) := by
  unfold execIndexEvent ScanTiming.takeIndex
  split
  · exact .next (.refl s)
  · exact .next (by split <;> exact .of_fields rfl id)

theorem scanKept_execWatchdogExpiry (s : State) : Leads (ScanKept s) (execWatchdogExpiry s) := by
  unfold execWatchdogExpiry
  split
  · exact .next (scanKept_stopScan _ _)
  · exact .next (.refl s)

theorem scanKept_execQualifiedLevelFall (input : SensorInput) (s : State) :
    Leads (ScanKept s) (execQualifiedLevelFall input s) := by
  cases input with
  | startOfScan => exact .next (by split; exacts [.of_fields rfl id, .refl s])
  | index => exact .next (by split; exacts [.of_fields rfl id, .refl s])
  | perforation => exact .next (by split <;> exact .of_eq rfl)

theorem scanKept_execPixelWindowOpen (s : State) : Leads (ScanKept s) (execPixelWindowOpen s) := by
  unfold execPixelWindowOpen
  split
  next hwait => exact .next (.of_fields rfl fun _ => by rw [hwait]; exact nofun)
  next => exact .next (.refl s)

theorem scanKept_execPixelWindowEnd (s : State) : Leads (ScanKept s) (execPixelWindowEnd s) := by
  unfold execPixelWindowEnd
  split
  next hpixel =>
    have hkeep : ((s.scan.pixelEnded s.rb.line.mgap).running, (s.scan.pixelEnded s.rb.line.mgap).lock,
        (s.scan.pixelEnded s.rb.line.mgap).watchdog) = (s.scan.running, s.scan.lock, s.scan.watchdog) := by
      unfold ScanTiming.pixelEnded
      split <;> rfl
    exact .next (.of_fields (by simpa using hkeep) fun _ => by rw [hpixel]; exact nofun)
  next => exact .next (.refl s)

theorem scanKept_execMonitorWindowOpen (s : State) : Leads (ScanKept s) (execMonitorWindowOpen s) := by
  unfold execMonitorWindowOpen
  split
  next hwait => exact .next (.of_fields rfl fun _ => by rw [hwait]; exact nofun)
  next => exact .next (.refl s)

theorem scanKept_execMonitorWindowEnd (s : State) : Leads (ScanKept s) (execMonitorWindowEnd s) := by
  unfold execMonitorWindowEnd
  split
  · exact .next (.of_fields rfl fun h => absurd rfl h)
  · exact .next (.refl s)

theorem scanKept_execRasterPositionInterval (s : State) : Leads (ScanKept s) (execRasterPositionInterval s) := by
  unfold execRasterPositionInterval
  split
  · split
    all_goals exact .next (.of_eq rfl)
  · exact .next (.refl s)

theorem scanKept_execConversionCompletion (r : BitVec 10) (s : State) :
    Leads (ScanKept s) (execConversionCompletion r s) := by
  unfold execConversionCompletion
  split
  · exact .next (.of_eq (by simp))
  · exact .next (.refl s)

theorem scanKept_execFrameLockWaitExpiry (s : State) : Leads (ScanKept s) (execFrameLockWaitExpiry s) := by
  unfold execFrameLockWaitExpiry
  dsimp only
  split
  · exact .next (.refl s)
  · split
    · exact .next (by split <;> exact .of_eq (by simp))
    all_goals exact .next (.refl s)

theorem scanKept_execPrimingLockWaitExpiry (s : State) : Leads (ScanKept s) (execPrimingLockWaitExpiry s) := by
  unfold execPrimingLockWaitExpiry
  dsimp only
  split
  · exact .next (by split <;> exact .of_eq (by simp))
  · exact .next (.refl s)

theorem scanKept_execSettleLockTimeoutExpiry (s : State) : Leads (ScanKept s) (execSettleLockTimeoutExpiry s) := by
  unfold execSettleLockTimeoutExpiry
  dsimp only
  split
  · exact .next (by split <;> exact .of_eq (by simp))
  · exact .next (.refl s)

theorem scanKept_execMotorReferenceToggle (s : State) : Leads (ScanKept s) (execMotorReferenceToggle s) := by
  unfold execMotorReferenceToggle
  split
  · exact .next (.of_fields rfl id)
  · exact .next (.refl s)

theorem scanKept_execRunBlockReadEnd (id : Nat) (r : ReadEnd) (s : State) :
    Leads (ScanKept s) (execRunBlockReadEnd id r s) := by
  unfold execRunBlockReadEnd
  dsimp only
  split
  · split
    · have hread : ScanKept s (s.setDeck { s.deck with runBlockRead := none }) := .of_eq rfl
      exact .next (by split; exacts [hread.trans (scanKept_validateStart _ _ _), hread])
    · exact .next (.refl s)
  · exact .next (.refl s)

theorem scanKept_execRunaddrWrite (high : Bool) (v : BitVec 32) (s : State) :
    Leads (ScanKept s) (execRunaddrWrite high v s) := by
  unfold execRunaddrWrite
  split
  all_goals exact .next (.of_eq rfl)

theorem scanKept_execLineReadComplete (id : Nat) (a : Answer) (s : State) :
    Leads (ScanKept s) (execLineReadComplete id a s) := by
  unfold execLineReadComplete
  split
  · exact .next (.of_eq (by simp))
  · exact .next (.refl s)

theorem scanKept_execLineReadTimerExpiry (id : Nat) (s : State) :
    Leads (ScanKept s) (execLineReadTimerExpiry id s) := by
  unfold execLineReadTimerExpiry
  split
  · exact .next (.of_eq (by simp))
  · exact .next (.refl s)

theorem scanKept_execLoadReadComplete (id : Nat) (a : Answer) (s : State) :
    Leads (ScanKept s) (execLoadReadComplete id a s) := by
  unfold execLoadReadComplete
  split
  · exact .next (.of_eq (by simp))
  · exact .next (.refl s)

theorem scanKept_execLoadReadExpiry (id : Nat) (s : State) : Leads (ScanKept s) (execLoadReadExpiry id s) := by
  unfold execLoadReadExpiry
  split
  · exact .next (.of_eq (by simp))
  · exact .next (.refl s)

theorem scanKept_execHeaderReadEnd (id : Nat) (r : ReadEnd) (s : State) :
    Leads (ScanKept s) (execHeaderReadEnd id r s) := by
  unfold execHeaderReadEnd
  split
  · split
    · split
      all_goals exact .next (.of_eq (by simp))
    · exact .next (.refl s)
  · exact .next (.refl s)

theorem scanKept_execPollTimerExpiry (s : State) : Leads (ScanKept s) (execPollTimerExpiry s) := by
  unfold execPollTimerExpiry
  split
  · exact .next (.of_eq (by simp))
  · exact .next (.refl s)

theorem scanKept_execCardReadEnd (id : Nat) (r : ReadEnd) (s : State) : Leads (ScanKept s) (execCardReadEnd id r s) := by
  unfold execCardReadEnd
  dsimp only
  split
  · exact .next (.of_eq (by simp))
  · split
    all_goals exact .next (.of_eq (by simp))

theorem scanKept_execStepIssue (s : State) : Leads (ScanKept s) (execStepIssue s) := by
  unfold execStepIssue
  split
  · exact .next (.refl s)
  · split
    all_goals exact .next (.of_eq rfl)

theorem scanKept_execSettlingPeriodEnd (s : State) : Leads (ScanKept s) (execSettlingPeriodEnd s) := by
  unfold execSettlingPeriodEnd
  dsimp only
  split
  · split
    all_goals exact .next (.of_eq (by simp))
  · exact .next (.refl s)

theorem scanKept_execDwellEnd (s : State) : Leads (ScanKept s) (execDwellEnd s) := by
  unfold execDwellEnd
  split
  all_goals exact .next (.of_eq (by simp))

theorem scanKept_execPerfEdge (s : State) : Leads (ScanKept s) (execPerfEdge s) := by
  unfold execPerfEdge
  split
  all_goals exact .next (.of_eq rfl)

theorem scanKept_execDriverFault (s : State) : Leads (ScanKept s) (execDriverFault s) := by
  unfold execDriverFault
  dsimp only
  split
  · exact .next (.refl s)
  · split
    · exact .next (.of_eq rfl)
    · split
      all_goals exact .next (.of_eq (by simp))

theorem scanKept_exec (c : Instr) (s : State) (hsos : c ≠ .sosEvent) : Leads (ScanKept s) (exec c s) := by
  cases c with
  | sosEvent => exact absurd rfl hsos
  | start => exact scanKept_execStart s
  | pause => exact scanKept_execPause s
  | resume => exact scanKept_execResume s
  | stop => exact scanKept_execStop s
  | abort => exact scanKept_execAbort s
  | spinDown => exact scanKept_execSpinDown s
  | reset => exact .next (scanKept_of_reset rfl)
  | unknownCommand code => exact .next (.of_eq rfl)
  | runaddrWrite high value => exact scanKept_execRunaddrWrite high value s
  | attentionWrite value => exact .next (.of_eq rfl)
  | registerWrite offset bytes value => exact .next (.refl s)
  | powerOn => exact .next (scanKept_of_reset rfl)
  | indexEvent => exact scanKept_execIndexEvent s
  | watchdogExpiry => exact scanKept_execWatchdogExpiry s
  | pixelWindowOpen => exact scanKept_execPixelWindowOpen s
  | pixelWindowEnd => exact scanKept_execPixelWindowEnd s
  | monitorWindowOpen => exact scanKept_execMonitorWindowOpen s
  | monitorWindowEnd => exact scanKept_execMonitorWindowEnd s
  | conversionCompletion reading => exact scanKept_execConversionCompletion reading s
  | frameLockWaitExpiry => exact scanKept_execFrameLockWaitExpiry s
  | primingLockWaitExpiry => exact scanKept_execPrimingLockWaitExpiry s
  | settleLockTimeoutExpiry => exact scanKept_execSettleLockTimeoutExpiry s
  | lineReadPart id error => exact .next (.of_eq rfl)
  | lineReadComplete id answer => exact scanKept_execLineReadComplete id answer s
  | lineReadTimerExpiry id => exact scanKept_execLineReadTimerExpiry id s
  | loadReadComplete id answer => exact scanKept_execLoadReadComplete id answer s
  | loadReadExpiry id => exact scanKept_execLoadReadExpiry id s
  | runBlockReadEnd id result => exact scanKept_execRunBlockReadEnd id result s
  | headerReadEnd id result => exact scanKept_execHeaderReadEnd id result s
  | cardReadEnd id result => exact scanKept_execCardReadEnd id result s
  | pollTimerExpiry => exact scanKept_execPollTimerExpiry s
  | stepIssue => exact scanKept_execStepIssue s
  | settlingPeriodEnd => exact scanKept_execSettlingPeriodEnd s
  | dwellEnd => exact scanKept_execDwellEnd s
  | perfEdge => exact scanKept_execPerfEdge s
  | driverFault => exact scanKept_execDriverFault s
  | rasterPositionInterval => exact scanKept_execRasterPositionInterval s
  | motorReferenceToggle => exact scanKept_execMotorReferenceToggle s
  | stepPulseEnd => exact .next (.of_eq rfl)
  | qualifiedLevelFall input => exact scanKept_execQualifiedLevelFall input s
  | faultLevelClear => exact .next (by split <;> exact .of_eq rfl)

/-! ## Every step -/

/-- The clock keeps reference and lock; a watchdog that is stopped stays so. -/
theorem scanKept_idleStep (s : State) : ScanKept s s.idleStep := by
  unfold State.idleStep
  split
  · have htick : ScanKept s s.tick :=
      { locked := id
        reference := fun hlaw hstopped => by
          obtain ⟨hlock, hwatchdog⟩ := hlaw hstopped
          refine ⟨hlock, ?_⟩
          show s.scan.watchdog.map _ = none
          rw [hwatchdog, Option.map_none]
        windows := id }
    exact htick.trans (.of_eq (by simp))
  · exact .of_eq rfl

/-- Settles O3. -/
theorem onlySosEntersLocked : Obligations.OnlySosEntersLocked := by
  intro s t hlock hsos h
  unfold step at h
  split at h
  · obtain rfl : s.idleStep = t := by injection h
    exact fun hlocked => hlock ((scanKept_idleStep s).locked hlocked)
  next c rest hfront =>
    have hc : c ≠ .sosEvent := fun hc => hsos (by rw [hfront, List.head?_cons, hc])
    obtain ⟨u, hu, hkept⟩ := scanKept_exec c (s.setPending rest) hc
    obtain rfl : u = t := by injection hu.symm.trans h
    exact fun hlocked => hlock (hkept.locked hlocked)

/-- Settles O7. -/
theorem stepKeepsScanLaws : Obligations.StepKeepsScanLaws := by
  intro s t ⟨hreference, hwindows⟩ h
  unfold step at h
  split at h
  · obtain rfl : s.idleStep = t := by injection h
    exact ⟨(scanKept_idleStep s).reference hreference, (scanKept_idleStep s).windows hwindows⟩
  next c rest hfront =>
    by_cases hc : c = .sosEvent
    · subst hc
      obtain ⟨u, hu, hlaws⟩ := execSosEvent_laws (s := s.setPending rest) ⟨hreference, hwindows⟩
      obtain rfl : u = t := by injection hu.symm.trans h
      exact hlaws
    · obtain ⟨u, hu, hkept⟩ := scanKept_exec c (s.setPending rest) hc
      obtain rfl : u = t := by injection hu.symm.trans h
      exact ⟨hkept.reference hreference, hkept.windows hwindows⟩

end Sys2Proof.Machine

/-! PROOF. The queue, the resets, the register window, and the events of the finer clocks, windows and swaps whose whole
effect is one update (O1, O20, O21, O32, O33, O43). -/

namespace Sys2Proof.Machine

/-- Settles O1. -/
theorem stepTakesTheFront : Obligations.StepTakesTheFront := by
  refine ⟨fun c rest s hfront => ?_, fun s hempty => ⟨fun hdue => ?_, fun e es hdue => ?_⟩⟩
  · rw [step, hfront]; rfl
  · rw [step, hempty]; simp only [State.idleStep, hdue]
  · rw [step, hempty]; simp only [State.idleStep, hdue]; rfl

/-- Settles O20. -/
theorem resetsLeaveTheirValues : Obligations.ResetsLeaveTheirValues := by
  refine ⟨fun s => ⟨s.softReset, rfl, rfl, rfl, rfl, rfl, rfl, rfl, rfl, rfl, rfl, rfl, rfl, rfl, rfl, rfl, rfl⟩,
    fun s => ⟨_, rfl, rfl, rfl, ?_, rfl, rfl, rfl, rfl, rfl, rfl, rfl, rfl, rfl, rfl, rfl, rfl, rfl, rfl, rfl, rfl, rfl,
      rfl, rfl⟩, fun _ h => h, fun _ h => h, fun _ h => h, fun _ h => h, fun _ h => h, fun _ h => h, fun _ h => h,
    fun _ h => h, fun _ h => h, fun _ h => h, ?_⟩
  · exact fun g => by cases g <;> exact ⟨rfl, rfl⟩
  · rintro b rfl
    exact ⟨rfl, rfl, rfl, rfl, rfl⟩

/-! ## The register window (R177 to R179) -/

/-- Words set side by side hold the number whose digits they are. -/
theorem toNat_append_eq_add {n m : Nat} (x : BitVec n) (y : BitVec m) :
    (x ++ y).toNat = 2 ^ m * x.toNat + y.toNat := by
  rw [BitVec.toNat_append, Nat.shiftLeft_eq, Nat.mul_comm, Nat.two_pow_add_eq_or_of_lt y.isLt]

theorem RunState.code_lt (r : RunState) : r.code < 8 := by cases r <;> decide
theorem HaltCause.code_lt (c : HaltCause) : c.code < 16 := by cases c <;> decide
theorem LockState.code_lt (l : LockState) : l.code < 4 := by cases l <;> decide
theorem RegulatorState.code_lt (r : RegulatorState) : r.code < 4 := by cases r <;> decide
theorem TransportState.code_lt (r : TransportState) : r.code < 8 := by cases r <;> decide
theorem CommandOutcome.code_lt (o : CommandOutcome) : o.code < 4 := by cases o <;> decide
theorem StartFault.code_lt (f : StartFault) : f.code < 32 := by cases f <;> decide

theorem stateWord_toNat (s : State) :
    (stateWord s).toNat =
      s.run.state.code + 2 ^ 3 * s.run.haltCause.code + 2 ^ 7 * s.scan.lock.code + 2 ^ 9 * s.power.state.code +
      2 ^ 11 * s.film.state.code + 2 ^ 14 * s.run.lastOutcome.code + 2 ^ 16 * s.run.startFault.code +
      2 ^ 22 * (s.film.counter % 1024) := by
  have hrun := s.run.state.code_lt
  have hcause := s.run.haltCause.code_lt
  have hlock := s.scan.lock.code_lt
  have hpower := s.power.state.code_lt
  have hfilm := s.film.state.code_lt
  have houtcome := s.run.lastOutcome.code_lt
  have hfault := s.run.startFault.code_lt
  simp only [stateWord, toNat_append_eq_add, BitVec.ofNat_eq_ofNat, BitVec.toNat_ofNat]
  omega

theorem attentionWord_toNat (s : State) :
    (attentionWord s).toNat = s.regs.causes.toNat + 2 ^ 16 * s.regs.enables.toNat := by
  simp only [attentionWord, toNat_append_eq_add, BitVec.ofNat_eq_ofNat, BitVec.toNat_ofNat]
  omega

/-- A write that no register takes is the ignored write (R179). -/
theorem decodeWrite_ignored {offset bytes : Nat} (v : BitVec 32)
    (h : bytes < 4 ∨ offset = 0x00 ∨ offset = 0x10 ∨ 0x18 ≤ offset) :
    decodeWrite offset bytes v = .registerWrite offset bytes v := by
  unfold decodeWrite
  split
  · split
    case h_5 => rfl
    all_goals omega
  · rfl

theorem decodeCommand_unknown {code : BitVec 8} (h : code = 0 ∨ 7 < code.toNat) :
    decodeCommand code = .unknownCommand code := by
  have hnat : code.toNat = 0 ∨ 7 < code.toNat := h.imp_left (congrArg BitVec.toNat)
  unfold decodeCommand
  split
  case h_8 => rfl
  all_goals omega

/-- The line is asserted exactly while a cause is set and enabled (R171). -/
theorem irqOf_iff (causes enables : BitVec 7) :
    irqOf causes enables = true ↔ ∃ k < 7, causes.getLsbD k = true ∧ enables.getLsbD k = true := by
  have hzero : causes &&& enables = 0 ↔ ∀ k < 7, ¬(causes.getLsbD k = true ∧ enables.getLsbD k = true) := by
    constructor
    · intro h k _ hk
      have hbit := congrArg (·.getLsbD k) h
      simp [hk] at hbit
    · intro h
      refine BitVec.eq_of_getLsbD_eq fun k hk => ?_
      have := h k hk
      simp_all
  simp only [irqOf, bne_iff_ne, ne_eq, hzero]
  push Not
  rfl

/-- Settles O21. -/
theorem registerWindowAccess : Obligations.RegisterWindowAccess := by
  refine ⟨fun v => ⟨rfl, rfl, rfl, fun code hcode => ?_⟩, fun s => ⟨fun offset bytes v h => ⟨decodeWrite_ignored v h, rfl⟩,
    fun v hidle => ?_, fun v high hidle => ?_, rfl, rfl, rfl, rfl, rfl, rfl, stateWord_toNat s, attentionWord_toNat s,
    fun v => ⟨_, rfl, fun k hk => ?_, fun k hk => ?_, irqOf_iff _ _, rfl⟩⟩⟩
  · have hdecode : decodeWrite 0x0C 4 v = decodeCommand code := congrArg decodeCommand hcode.symm
    rw [hdecode]
    refine ⟨?_, ?_, ?_, ?_, ?_, ?_, ?_, decodeCommand_unknown⟩ <;> rintro rfl <;> rfl
  · exact ⟨by simp only [exec, execRunaddrWrite, hidle]; rfl, by simp only [exec, execRunaddrWrite, hidle]; rfl⟩
  · show execRunaddrWrite high v s = .next s
    unfold execRunaddrWrite
    split
    · contradiction
    · rfl
  · simp [RegWindow.attend, RegWindow.withIrq, hk]
  · simp [RegWindow.attend, RegWindow.withIrq, hk]

/-! ## Clocks and levels (R78, R79, R83, R97, R115, R119, R124) -/

theorem min_count_eq (n : Nat) : min 255 (n + 1) = if n < 255 then n + 1 else 255 := by
  split <;> omega

/-- Settles O32. -/
theorem clockAndLevelEvents : Obligations.ClockAndLevelEvents := by
  intro s
  refine ⟨fun h => ?_, rfl, fun h => ?_, fun h => ?_, fun h => ?_, fun h => ?_, fun h hstill => ?_, fun h hstill hfault => ?_,
    fun h hrunning hlock => ?_, fun h hstopped => ?_⟩
  · show execMotorReferenceToggle s = _
    rw [execMotorReferenceToggle, if_pos h]; rfl
  · show execQualifiedLevelFall .startOfScan s = _
    rw [execQualifiedLevelFall, if_pos h]; rfl
  · show execQualifiedLevelFall .index s = _
    rw [execQualifiedLevelFall, if_pos h]; rfl
  · show execQualifiedLevelFall .perforation s = _
    rw [execQualifiedLevelFall, if_pos h]; rfl
  · show execFaultLevelClear s = _
    rw [execFaultLevelClear, if_pos h]; rfl
  · have hmoving : s.film.state.moving = false := by obtain hs | hs := hstill <;> rw [hs] <;> rfl
    show execPerfEdge s = _
    simp only [execPerfEdge, h, hmoving]; rfl
  · have hmoving : s.film.state.moving = true := by
      cases hs : s.film.state <;> simp_all [TransportState.moving]
    show execPerfEdge s = _
    simp only [execPerfEdge, h, hmoving, min_count_eq]; rfl
  · show execIndexEvent s = _
    simp [execIndexEvent, ScanTiming.takeIndex, h, hrunning, hlock]; rfl
  · show execIndexEvent s = _
    obtain hs | hs := hstopped
    · simp [execIndexEvent, ScanTiming.takeIndex, h, hs]; rfl
    · simp [execIndexEvent, ScanTiming.takeIndex, h, hs]; rfl

end Sys2Proof.Machine

/-! PROOF. Windows, swaps and the raster position (R28 to R43, R72, R73): what the readers of whole tables give, said once,
and the three statements (O33, O34, O43). -/

namespace Sys2Proof.Machine

variable {s : State}

/-! ## The swap (R72, R73) -/

theorem swapped_active_get (k : TableStore) (g : Target) :
    k.swapped.active.get g = swappedActive (k.active.get g) (k.staged.get g) := by
  cases g <;> rfl

theorem swapped_staged_get (k : TableStore) (g : Target) : k.swapped.staged.get g = swappedStaged (k.staged.get g) := by
  cases g <;> rfl

theorem swappedActive_of_valid {a : ActiveCopy} {g : StagedCopy} (h : g.state = .valid) :
    swappedActive a g = { valid := true, words := g.words } := by simp [swappedActive, h]

theorem swappedActive_of_not_valid {a : ActiveCopy} {g : StagedCopy} (h : g.state ≠ .valid) : swappedActive a g = a := by
  unfold swappedActive
  split
  · contradiction
  all_goals rfl

theorem swappedStaged_of_valid {g : StagedCopy} (h : g.state = .valid) : (swappedStaged g).state = .invalid := by
  simp [swappedStaged, h]

theorem swappedStaged_of_not_valid {g : StagedCopy} (h : g.state ≠ .valid) : swappedStaged g = g := by
  unfold swappedStaged
  split
  · contradiction
  all_goals rfl

theorem swapTables_of_drive (h : s.tables.staged.drive.state = .valid) :
    s.swapTables = (s.setTables s.tables.swapped).setPower s.power.driveSwapped := by
  simp [State.swapTables, h]

theorem swapTables_of_no_drive (h : s.tables.staged.drive.state ≠ .valid) :
    s.swapTables = s.setTables s.tables.swapped := by
  simp [State.swapTables, h]

theorem State.swapTables_tables (s : State) : s.swapTables.tables = s.tables.swapped := by
  by_cases h : s.tables.staged.drive.state = .valid
  · rw [swapTables_of_drive h]; rfl
  · rw [swapTables_of_no_drive h]; rfl

/-- Settles O43. -/
theorem swapBringsTablesIn : Obligations.SwapBringsTablesIn := by
  refine fun s => ⟨fun g => ⟨fun h => ?_, fun h => ?_⟩, fun h => ?_, fun h => ?_, ?_, ?_, ?_, ?_⟩
  · rw [State.swapTables_tables, swapped_active_get, swapped_staged_get]
    exact ⟨swappedActive_of_valid h, swappedStaged_of_valid h⟩
  · rw [State.swapTables_tables, swapped_active_get, swapped_staged_get]
    exact ⟨swappedActive_of_not_valid h, swappedStaged_of_not_valid h⟩
  · rw [swapTables_of_drive h]; rfl
  · rw [swapTables_of_no_drive h]; rfl
  · by_cases h : s.tables.staged.drive.state = .valid
    · rw [swapTables_of_drive h]; rfl
    · rw [swapTables_of_no_drive h]; rfl
  all_goals rw [State.swapTables_tables]; rfl

/-! ## What the readers of a whole copy give (R32 to R37, R42, R63) -/

theorem ActiveCopy.word_of_lt {c : ActiveCopy} {k : Nat} (h : k < c.words.length) : c.word k = c.words.getD k 0 := by
  simp [ActiveCopy.word, List.getD_eq_getElem?_getD, List.getElem?_eq_getElem h]

theorem channelBase_eq (n : Nat) (ch : Channel) : channelBase n ch = n * channelPlace ch := by
  cases ch <;> simp [channelBase, channelPlace, Nat.mul_comm]

theorem channelPlace_le (ch : Channel) : channelPlace ch ≤ 2 := by cases ch <;> decide

theorem limitLog_eq_limited (l : Int) : limitLog l = limited l := by
  unfold limitLog limited
  split_ifs <;> omega

theorem limited_le (l : Int) : limited l ≤ 4095 := by
  unfold limited
  omega

theorem driveEntry_eq_driveAt {t : TableStore} (hvalid : t.active.drive.valid = true)
    (hlength : t.active.drive.words.length = 12288) (ch : Channel) (l : Int) :
    driveEntry t ch (limitLog l) = driveAt t.active.drive ch l := by
  have hplace := channelPlace_le ch
  have hlimit := limited_le l
  rw [driveEntry, if_pos hvalid, driveAt, limitLog_eq_limited, channelBase_eq, ActiveCopy.word_of_lt (by omega)]

theorem curveValue_of_whole {t : TableStore} {slot : Nat} (hvalid : (t.active.get (curveTarget slot)).valid = true)
    (hlength : (t.active.get (curveTarget slot)).words.length = 3076) (ch : Channel) {c : Nat} (hc : c < 1024) :
    curveValue t slot ch c =
      (((t.active.get (curveTarget slot)).words.getD (1024 * channelPlace ch + c) 0).toNat : Int) := by
  have hplace := channelPlace_le ch
  simp only [curveValue, if_pos hvalid]
  rw [channelBase_eq, ActiveCopy.word_of_lt (by omega)]

theorem trimValue_of_whole {t : TableStore} {slot : Nat} (hvalid : (t.active.get (curveTarget slot)).valid = true)
    (hlength : (t.active.get (curveTarget slot)).words.length = 3076) (ch : Channel) :
    trimValue t slot ch = ((t.active.get (curveTarget slot)).words.getD (3072 + channelPlace ch) 0).toInt := by
  have hplace := channelPlace_le ch
  simp only [trimValue, if_pos hvalid]
  rw [channelBase_eq, ActiveCopy.word_of_lt (by omega), Nat.one_mul]

theorem shading_of_whole {t : TableStore} (hlength : t.active.shade.valid = true → t.active.shade.words.length = 100)
    (ch : Channel) {x : Nat} (hx : x < 4096) : shading t ch x = shadeAt t.active.shade ch x := by
  unfold shading shadeAt
  by_cases hvalid : t.active.shade.valid = true
  · have hplace := channelPlace_le ch
    have hknot (k : Nat) (hk : k < 33) :
        knot t ch k = (t.active.shade.words.getD (33 * channelPlace ch + k) 0).toInt := by
      rw [knot, if_pos hvalid, channelBase_eq, ActiveCopy.word_of_lt (by have := hlength hvalid; omega)]
    have hrest : ((x - 128 * (x / 128) : Nat) : Int) = (x : Int) - 128 * (x / 128 : Nat) := by omega
    simp only [if_pos hvalid, hknot (x / 128) (by omega), hknot (x / 128 + 1) (by omega), hrest]
    rw [Int.fdiv_eq_ediv_of_nonneg _ (by decide)]
  · have hknot (k : Nat) : knot t ch k = 0 := by rw [knot, if_neg hvalid]
    simp [hknot, hvalid]

theorem codeValue_eq_codeBits (w : BitVec 32) (ch : Channel) : codeValue w ch = codeBits w ch := by
  cases ch <;> simp [codeValue, codeBits, BitVec.extractLsb'_toNat]

theorem codeBits_lt (w : BitVec 32) (ch : Channel) : codeBits w ch < 1024 := by
  cases ch <;> exact BitVec.isLt _

/-- The model's sum of the four stages is the spec's where the tables are whole. -/
theorem logSum_of_whole {t : TableStore} {slot : Nat} (h : tablesWhole t slot) (ch : Channel) (w : BitVec 32) {x : Nat}
    (hx : x < 4096) (offset : Int) :
    logSum t slot ch (codeValue w ch) x offset =
      exposureSum (t.active.get (curveTarget slot)) t.active.shade ch (codeBits w ch) x offset := by
  obtain ⟨hvalid, hlength, -, -, hshade⟩ := h
  rw [logSum, exposureSum, codeValue_eq_codeBits, curveValue_of_whole hvalid hlength ch (codeBits_lt w ch),
    trimValue_of_whole hvalid hlength, shading_of_whole hshade ch hx]

theorem Clamp.counted_eq (k : Clamp) (l : Int) : k.counted l = clampsAfter k l := by
  unfold Clamp.counted clampsAfter
  split_ifs <;> grind

/-- The word driven from the head slot. -/
theorem pixelWord_of_head {slot : Slot} (hline : s.dp.lineSlot = some slot.readId) (hhead : s.ring.slots.head? = some slot)
    {i : Nat} (hi : i < slot.data.length) : pixelWord s i = slot.data.getD i 0 := by
  obtain ⟨rest, hslots⟩ := List.head?_eq_some_iff.mp hhead
  simp [pixelWord, drivenSlot, hline, hslots, List.getD_eq_getElem?_getD, List.getElem?_eq_getElem hi]

/-! ## A raster position (R31) -/

theorem positionTimerAfter_of_lt {x d : Nat} (h : x < 4095) : positionTimerAfter x d = some d :=
  if_pos (show x + 1 < 4096 by omega)

theorem positionTimerAfter_last (d : Nat) : positionTimerAfter 4095 d = none := rfl

theorem exec_rasterPositionInterval (hwindow : s.scan.window = .pixel) (hx : s.dp.nextPosition < 4096) :
    exec .rasterPositionInterval s = .next (s.setDp { drivePosition s with
      nextPosition := s.dp.nextPosition + 1
      positionTimer := positionTimerAfter s.dp.nextPosition s.rb.divisorTicks }) := by
  show execRasterPositionInterval s = _
  rw [execRasterPositionInterval, hwindow]
  exact if_pos hx

theorem drivePosition_inside (hmode : s.dp.mode = .image) (hlow : s.dp.x0 ≤ s.dp.nextPosition)
    (hhigh : s.dp.nextPosition < s.dp.x0 + s.dp.w) (ch : Channel) :
    (drivePosition s).drive.get ch = positionDrive s ch ∧
    (drivePosition s).clamps.get ch = (s.dp.clamps.get ch).counted (positionSum s ch) := by
  have hspan : (s.dp.mode == .image && s.dp.inSpan s.dp.nextPosition) = true := by
    simp [hmode, Datapath.inSpan, hlow, hhigh]
  rw [drivePosition, if_pos hspan]
  cases ch <;> exact ⟨rfl, rfl⟩

theorem drivePosition_outside
    (h : s.dp.mode ≠ .image ∨ s.dp.nextPosition < s.dp.x0 ∨ s.dp.x0 + s.dp.w ≤ s.dp.nextPosition) :
    drivePosition s = { s.dp with drive := .all 0 } := by
  have hspan : ¬(s.dp.mode == .image && s.dp.inSpan s.dp.nextPosition) = true := by
    simp only [Datapath.inSpan, Bool.and_eq_true, beq_iff_eq, decide_eq_true_eq]
    rintro ⟨hmode, hlow, hhigh⟩
    obtain h | h := h
    · exact h hmode
    · omega
  rw [drivePosition, if_neg hspan]

/-- Settles O34. -/
theorem rasterPositionIsDriven : Obligations.RasterPositionIsDriven := by
  intro s hwindow hx
  refine ⟨_, exec_rasterPositionInterval hwindow hx, rfl, positionTimerAfter_of_lt, ?last, ?inside, ?outside, ?rest⟩
  case last =>
    intro h
    simp only [h, positionTimerAfter_last]
  case inside =>
    rintro slot hmode hlow hhigh htables hline hhead hdata ch sum rfl
    obtain ⟨hdrive, hclamps⟩ := drivePosition_inside hmode hlow hhigh ch
    have hsum : positionSum s ch = exposureSum (s.tables.active.get (curveTarget s.dp.curveSlot)) s.tables.active.shade ch
        (codeBits (slot.data.getD (s.dp.nextPosition - s.dp.x0) 0) ch) s.dp.nextPosition (s.dp.latched.get ch) := by
      rw [positionSum, logSum_of_whole htables ch _ hx, pixelWord_of_head hline hhead hdata]
    obtain ⟨-, -, hvalid, hlength, -⟩ := htables
    refine ⟨hdrive.trans ?_, hclamps.trans ?_⟩
    · rw [positionDrive, driveEntry_eq_driveAt hvalid hlength, hsum]
    · rw [Clamp.counted_eq, hsum]
  case outside =>
    intro h
    simp only [drivePosition_outside h, and_self]
  case rest =>
    unfold drivePosition
    split <;> rfl

/-! ## Windows (R30, R31, R42, R43) -/

theorem exec_pixelWindowOpen (h : s.scan.window = .pixelWait) :
    exec .pixelWindowOpen s = .next ((s.setDp (s.dp.openPixel s.power.pwr s.frame.ctx)).setScan
      { s.scan with window := .pixel, windowTimer := some (4096 * s.rb.divisorTicks) }) := by
  show execPixelWindowOpen s = _
  rw [execPixelWindowOpen, h]
  rfl

theorem exec_monitorWindowOpen (h : s.scan.window = .monitorWait) :
    exec .monitorWindowOpen s = .next ((s.setDp (openMonitor s)).setScan
      { s.scan with window := .monitor, windowTimer := some s.rb.line.mlen }) := by
  show execMonitorWindowOpen s = _
  rw [execMonitorWindowOpen, h]

theorem exec_monitorWindowEnd (h : s.scan.window = .monitor) :
    exec .monitorWindowEnd s = .next (((s.setDp s.dp.endMonitor).setScan s.scan.noWindow).setPower
      (s.power.sampled s.pins.photodiode)) := by
  show execMonitorWindowEnd s = _
  rw [execMonitorWindowEnd, h]

theorem exposingCard_of_exposing {c : FrameCtx} (h : c.state = .exposing) : exposingCard (some c) = some c.card := by
  simp [exposingCard, h]

theorem exposingCard_of_not_exposing {ctx : Option FrameCtx} (h : ∀ c, ctx = some c → c.state ≠ .exposing) :
    exposingCard ctx = none := by
  unfold exposingCard
  split
  · rfl
  next c =>
    split
    next hexposing => exact absurd hexposing (h c rfl)
    · rfl
    · rfl

/-- The drive of a monitor window with a VALID DRIVE copy (R42). -/
theorem monitorDriveOf_of_valid (hvalid : s.tables.active.drive.valid = true)
    (hlength : s.tables.active.drive.words.length = 12288) (ch : Channel) :
    monitorDriveOf s ch = driveAt s.tables.active.drive ch ((s.rb.power.lref.get ch : Int) + s.power.pwr.get ch) := by
  rw [monitorDriveOf, monitorEntry, if_pos hvalid, driveEntry_eq_driveAt hvalid hlength]

theorem monitorDriveOf_of_invalid (hvalid : s.tables.active.drive.valid = false) (ch : Channel) :
    monitorDriveOf s ch = 0 := by
  simp [monitorDriveOf, monitorEntry, hvalid]

/-- Settles O33. -/
theorem windowsOpen : Obligations.WindowsOpen := by
  refine ⟨fun s hwindow => ?pixel, fun s => ⟨fun hwindow => ?monitor, fun m hwindow hmarked => ?sampled⟩⟩
  case pixel =>
    let d := s.dp.openPixel s.power.pwr s.frame.ctx
    refine ⟨d.mode, d.lineSlot, d.curveSlot, d.x0, d.w, ?_, fun hpending => ?_, fun hctx => ?_,
      fun c hctx hexposing => ⟨fun hpending => ?_, fun id hpending => ?_⟩⟩
    · rw [exec_pixelWindowOpen hwindow]
      simp only [d, Datapath.openPixel]
      split <;> rfl
    · simp [d, Datapath.openPixel, hpending]
    · simp [d, Datapath.openPixel, exposingCard_of_not_exposing hctx]
    · simp [d, Datapath.openPixel, hctx, exposingCard_of_exposing hexposing, hpending]
    · simp [d, Datapath.openPixel, hctx, exposingCard_of_exposing hexposing, hpending]
  case monitor =>
    refine ⟨openMonitor s, exec_monitorWindowOpen hwindow, ?_, fun hrequest => ?_, fun ch hrequest => ?_⟩
    · unfold openMonitor
      split
      next hrequest => simp [hrequest]
      next hrequest => simp [hrequest]
    · simp [openMonitor, hrequest]
    · simp only [openMonitor, hrequest]
      exact ⟨trivial, fun hvalid hlength => monitorDriveOf_of_valid hvalid hlength ch,
        fun hvalid => monitorDriveOf_of_invalid hvalid ch⟩
  case sampled =>
    rw [exec_monitorWindowEnd hwindow, Power.sampled, hmarked]
    rfl

end Sys2Proof.Machine

/-! PROOF. The table of accepted commands (R158): the meaning of each command by its run state, and what an accepted one
answers (O11). -/

namespace Sys2Proof.Machine

variable {s t : State}

/-- What goes on after a command was accepted leaves its outcome. -/
theorem lastOutcome_of_steady (h : Steady ⟨True, False, False, True⟩ s t) : t.run.lastOutcome = s.run.lastOutcome :=
  h.outcome.resolve_left id

theorem HaltCause.resumable_eq (c : HaltCause) :
    c.resumable = (c != .none && c != .filmOut && c != .transport && c != .registration) := by
  cases c <;> rfl

theorem exec_start (h : s.run.state = .idle) : exec .start s = .next s.acceptStart := by
  show execStart s = _
  rw [execStart, h]

theorem exec_pause (h : s.run.state = .running ∨ s.run.state = .waiting) :
    exec .pause s = .next (s.answer .accepted).acceptPause := by
  show execPause s = _
  obtain h | h := h <;> rw [execPause, h]

theorem exec_resume_held (h : s.run.state = .held) : exec .resume s = .next (s.acceptResume (heldResume s)) := by
  show execResume s = _
  rw [execResume, h]

theorem exec_resume_halted (h : s.run.state = .halted) (hcause : s.run.haltCause.resumable = true) :
    exec .resume s = .next (s.acceptResume s.run.resume) := by
  show execResume s = _
  rw [execResume, h]
  exact if_pos hcause

theorem exec_stop (h : s.run.state = .running ∨ s.run.state = .waiting ∨ s.run.state = .held ∨ s.run.state = .halted) :
    exec .stop s = .next (s.answer .accepted).acceptStop := by
  show execStop s = _
  obtain h | h | h | h := h <;> rw [execStop, h]

theorem exec_abort (h : s.run.state ≠ .idle) : exec .abort s = .next (s.answer .accepted).acceptAbort := by
  show execAbort s = _
  unfold execAbort
  split
  · contradiction
  · rfl

theorem exec_spinDown (h : s.run.state = .idle) :
    exec .spinDown s = .next (if s.scan.running then
      ((s.answer .accepted).setScan s.scan.stopReference).stopScan else s.answer .accepted) := by
  show execSpinDown s = _
  rw [execSpinDown, h]
  dsimp only
  split <;> rfl

theorem lastOutcome_acceptStart (s : State) : s.acceptStart.run.lastOutcome = .accepted := by
  simp [State.acceptStart, RunCtl.started]

theorem lastOutcome_acceptResume (p : ResumePoint) : (s.acceptResume p).run.lastOutcome = .accepted := by
  have hkept : Steady ⟨True, False, False, True⟩ ((s.setRun { s.run with haltCause := .none, lastOutcome := .accepted }).changeRunState
      p.runState) (s.acceptResume p) := .resumeAt (.refl _) (by simp)
  rw [lastOutcome_of_steady hkept, State.changeRunState_run]
  rfl

/-- Settles O11. -/
theorem commandsAcceptedOrRefused : Obligations.CommandsAcceptedOrRefused := by
  intro c s hc
  have haccepted (u : State) (h : Steady ⟨True, False, False, True⟩ (s.answer .accepted) u) :
      u.run.lastOutcome = .accepted :=
    lastOutcome_of_steady h
  cases c with
  | start =>
    refine ⟨fun h => ?_, fun h => ?_⟩
    · have hidle : s.run.state = .idle := by simpa [accepts] using h
      exact ⟨_, exec_start hidle, lastOutcome_acceptStart s⟩
    · have hidle : s.run.state ≠ .idle := by simpa [accepts] using h
      show execStart s = _
      unfold execStart
      split
      · contradiction
      · rfl
  | pause =>
    refine ⟨fun h => ?_, fun h => ?_⟩
    · have hrun : s.run.state = .running ∨ s.run.state = .waiting := by simpa [accepts] using h
      exact ⟨_, exec_pause hrun, haccepted _ (.acceptPause (.refl _))⟩
    · show execPause s = _
      unfold execPause
      split
      · simp_all [accepts]
      · simp_all [accepts]
      · rfl
  | resume =>
    refine ⟨fun h => ?_, fun h => ?_⟩
    · have hrun : s.run.state = .held ∨ s.run.state = .halted ∧ s.run.haltCause.resumable = true := by
        simpa [accepts, HaltCause.resumable_eq, and_assoc] using h
      obtain hheld | ⟨hhalted, hcause⟩ := hrun
      · exact ⟨_, exec_resume_held hheld, lastOutcome_acceptResume _⟩
      · exact ⟨_, exec_resume_halted hhalted hcause, lastOutcome_acceptResume _⟩
    · show execResume s = _
      unfold execResume
      split
      · simp_all [accepts]
      · rw [if_neg (by simp_all [accepts, HaltCause.resumable_eq])]
        rfl
      · rfl
  | stop =>
    refine ⟨fun h => ?_, fun h => ?_⟩
    · have hrun : s.run.state = .running ∨ s.run.state = .waiting ∨ s.run.state = .held ∨ s.run.state = .halted := by
        simpa [accepts, or_assoc] using h
      exact ⟨_, exec_stop hrun, haccepted _ (.acceptStop (.refl _))⟩
    · show execStop s = _
      unfold execStop
      split
      case h_5 => rfl
      all_goals simp_all [accepts]
  | abort =>
    refine ⟨fun h => ?_, fun h => ?_⟩
    · exact ⟨_, exec_abort (by simpa [accepts] using h), haccepted _ (.acceptAbort (.refl _))⟩
    · have hidle : s.run.state = .idle := by simpa [accepts] using h
      show execAbort s = _
      rw [execAbort, hidle]
      rfl
  | spinDown =>
    refine ⟨fun h => ?_, fun h => ?_⟩
    · refine ⟨_, exec_spinDown (by simpa [accepts] using h), ?_⟩
      split
      · exact haccepted _ (.stopScan (.setScan (.refl _)))
      · rfl
    · have hidle : s.run.state ≠ .idle := by simpa [accepts] using h
      show execSpinDown s = _
      unfold execSpinDown
      split
      · contradiction
      · rfl
  | reset => exact ⟨fun _ => ⟨_, rfl, rfl⟩, fun h => nomatch h⟩
  | unknownCommand code => exact ⟨fun h => (nomatch h), fun _ => rfl⟩
  | _ => exact absurd hc (by simp [isCommand])

end Sys2Proof.Machine

/-! PROOF. Rules of the shared operations, each tied to the predicate of Safety.lean that the statements speak in: refresh,
gate, settle, seek and halt (R98, R107 to R111, R148, R155, R162 to R164); and the commands that rest on them (O12, O13,
O39). -/

namespace Sys2Proof.Machine

variable {s t : State}

/-- Two states with the same blocks are the same. -/
theorem State.eq_of_fields {s t : State} (hpending : s.pending = t.pending) (hregs : s.regs = t.regs)
    (hrun : s.run = t.run) (hrb : s.rb = t.rb) (hdeck : s.deck = t.deck) (hseq : s.seq = t.seq)
    (hframe : s.frame = t.frame) (hring : s.ring = t.ring) (hdp : s.dp = t.dp) (htables : s.tables = t.tables)
    (hscan : s.scan = t.scan) (hpower : s.power = t.power) (hfilm : s.film = t.film) (hpins : s.pins = t.pins)
    (hbus : s.bus = t.bus) (hnextId : s.nextId = t.nextId) : s = t := by
  cases s; cases t; simp_all

@[simp] theorem State.answer_run (s : State) (o : CommandOutcome) : (s.answer o).run = { s.run with lastOutcome := o } :=
  rfl

/-! ## Refresh (R155, R156) -/

theorem runBlockAddr_eq (s : State) : runBlockAddr s = runAddress s := rfl

theorem State.refresh_of_disabled (h : s.deck.snapshotEnabled = false) : s.refresh = s := by
  simp [State.refresh, h]

theorem State.refresh_eq (s : State) :
    s.refresh = { s with
      deck.generation := if s.deck.snapshotEnabled then (s.deck.generation + 1) % 2 ^ 32 else s.deck.generation
      bus := s.bus ++ refreshWrites s 1 (snapshotBody s) } := by
  unfold State.refresh refreshWrites
  split
  · simp [State.busWrite, State.setBus, State.setDeck, addrPlus, runBlockAddr_eq]
  · simp

@[simp] theorem State.refresh_bus (s : State) : s.refresh.bus = s.bus ++ refreshWrites s 1 (snapshotBody s) := by
  rw [State.refresh_eq]

/-! ## The gate (R98) -/

/-- The marked sample after the gate was brought to a law (R102). -/
def markedAtGate (s : State) (opens : Bool) : Option Sample :=
  if s.power.gateOpen && !opens && s.scan.window == .monitor then s.power.marked.map Sample.voided else s.power.marked

theorem State.updateGate_eq (s : State) :
    s.updateGate = s.setPower { s.power with
      gateOpen := gateLaw s.scan.lock s.run.state, marked := markedAtGate s (gateLaw s.scan.lock s.run.state) } := by
  unfold State.updateGate markedAtGate
  dsimp only
  split <;> rfl

theorem gateLaw_of_set (l : LockState) {r : RunState} (h : r.gateSet = true) : gateLaw l r = (l == .locked) := by
  simp [gateLaw, h]

theorem gateLaw_of_not_set (l : LockState) {r : RunState} (h : r.gateSet = false) : gateLaw l r = false := by
  simp [gateLaw, h]

/-- An open gate at its law stands under a lock that is LOCKED. -/
theorem GateLawful.locked_of_open (h : GateLawful s) (hopen : s.power.gateOpen = true) : s.scan.lock = .locked := by
  rw [h, gateLaw, Bool.and_eq_true, beq_iff_eq] at hopen
  exact hopen.1

/-- A gate at its law does not close at the entry of a run state of the gate's set. -/
theorem GateLawful.markedAtGate_eq (h : GateLawful s) : markedAtGate s (s.scan.lock == .locked) = s.power.marked := by
  unfold markedAtGate
  split
  next hcloses =>
    simp only [Bool.and_eq_true, Bool.not_eq_true', beq_eq_false_iff_ne] at hcloses
    obtain ⟨⟨hopen, hlock⟩, -⟩ := hcloses
    exact absurd (h.locked_of_open hopen) hlock
  next => rfl

/-- A run state of the gate's set is entered from a gate at its law (R98). -/
theorem enterRunState_of_lawful {r : RunState} (h : GateLawful s) (hr : r.gateSet = true) :
    s.enterRunState r = { s with run.state := r, power.gateOpen := s.scan.lock == .locked } := by
  have hmarked : markedAtGate (s.setRun { s.run with state := r }) (s.scan.lock == .locked) = s.power.marked :=
    h.markedAtGate_eq
  rw [State.enterRunState, State.updateGate_eq]
  simp only [State.setRun_scan, State.setRun_run, State.setRun_power, gateLaw_of_set _ hr, hmarked]
  rfl

/-- The gate closes at the entry of a run state outside its set. -/
theorem enterRunState_of_closing {r : RunState} (hr : r.gateSet = false) :
    s.enterRunState r = { s with run.state := r, power.gateOpen := false, power.marked := markedAtGate s false } := by
  rw [State.enterRunState, State.updateGate_eq]
  simp only [State.setRun_scan, State.setRun_run, State.setRun_power, gateLaw_of_not_set _ hr]
  rfl

theorem markedAtGate_false (s : State) : markedAtGate s false = markedAtClosing s := by
  unfold markedAtGate markedAtClosing
  simp only [Bool.not_false, Bool.and_true, Bool.and_eq_true, beq_iff_eq]
  rfl

/-- A gate at its law stands where lock and run state stand in the gate's set on both sides. -/
theorem GateLawful.gateOpen_eq (h : GateLawful s) (hset : s.run.state.gateSet = true) :
    s.power.gateOpen = (s.scan.lock == .locked) := h.trans (gateLaw_of_set _ hset)

/-! ## The ways to HELD, to a resume point, and to the next deck (R148, R162 to R165) -/

theorem resumed_eq {r : RunState} (h : GateLawful s) (hr : r.gateSet = true) :
    (s.setRun { s.run with haltCause := .none, lastOutcome := .accepted }).changeRunState r = resumed s r := by
  have hlawful : GateLawful (s.setRun { s.run with haltCause := .none, lastOutcome := .accepted }) := h
  rw [State.changeRunState, enterRunState_of_lawful hlawful hr]
  rfl

@[simp] theorem resumed_run (s : State) (r : RunState) :
    (resumed s r).run = { s.run with state := r, haltCause := .none, lastOutcome := .accepted } := by
  simp [resumed]
@[simp] theorem resumed_scan (s : State) (r : RunState) : (resumed s r).scan = s.scan := by simp [resumed]
@[simp] theorem resumed_rb (s : State) (r : RunState) : (resumed s r).rb = s.rb := by simp [resumed]
@[simp] theorem resumed_tables (s : State) (r : RunState) : (resumed s r).tables = s.tables := by simp [resumed]
@[simp] theorem resumed_seq (s : State) (r : RunState) : (resumed s r).seq = s.seq := by simp [resumed]
@[simp] theorem resumed_frame (s : State) (r : RunState) : (resumed s r).frame = s.frame := by simp [resumed]
@[simp] theorem resumed_film (s : State) (r : RunState) : (resumed s r).film = s.film := by simp [resumed]
@[simp] theorem resumed_ring (s : State) (r : RunState) : (resumed s r).ring = s.ring := by simp [resumed]
@[simp] theorem resumed_nextId (s : State) (r : RunState) : (resumed s r).nextId = s.nextId := by simp [resumed]
@[simp] theorem resumed_power (s : State) (r : RunState) :
    (resumed s r).power = { s.power with gateOpen := s.scan.lock == .locked } := by simp [resumed]
@[simp] theorem resumed_taken (s : State) (r : RunState) : (resumed s r).deck.taken = s.deck.taken := by simp [resumed]

theorem acceptResume_eq {p : ResumePoint} (h : GateLawful s) : s.acceptResume p = (resumed s p.runState).resumeAt p := by
  rw [State.acceptResume, resumed_eq h (by cases p <;> rfl)]

theorem deckAddr_next (s : State) : deckAddr s s.deck.next = nextDeckAddress s := by
  unfold deckAddr nextDeckAddress
  cases s.deck.next <;> rfl

theorem State.seekDeck_eq (s : State) : s.seekDeck = seekBegun s := by
  rw [State.seekDeck, deckAddr_next]
  rfl

theorem State.beginSettle_eq (s : State) : s.beginSettle = settleBegun s := by
  unfold State.beginSettle settleBegun
  cases h : s.scan.lock <;> rfl

theorem State.resumeSettleWait_eq (s : State) : s.resumeSettleWait = settleWaitsAnew s := by
  unfold State.resumeSettleWait settleWaitsAnew
  cases h : s.scan.lock <;> rfl

theorem resumable_of_accepts (h : accepts .halted s.run.haltCause .resume = true) :
    s.run.haltCause.resumable = true := by
  simpa [accepts, HaltCause.resumable_eq] using h

/-- RESUME from a halt goes on at the point that the halt recorded. -/
theorem exec_resume_of_halted (hlaw : GateLawful s) (h : s.run.state = .halted)
    (hcause : accepts .halted s.run.haltCause .resume = true) {p : ResumePoint} (hp : s.run.resume = p) :
    exec .resume s = .next ((resumed s p.runState).resumeAt p) := by
  rw [exec_resume_halted h (resumable_of_accepts hcause), hp, acceptResume_eq hlaw]

/-- HELD is entered from a run state of the gate's set. -/
theorem enterHeld_of_not_waiting (hlaw : GateLawful s) (h : s.run.state ≠ .waiting) :
    s.enterHeld false = ({ s with
      run.state := .held, run.pausePending := false, power.gateOpen := s.scan.lock == .locked } : State).refresh := by
  have hseek : s.stopSeekOfWaiting = s := by
    unfold State.stopSeekOfWaiting
    split
    · contradiction
    · rfl
  have hlawful : GateLawful (s.setRun { s.run with pausePending := false }) := hlaw
  rw [State.enterHeld, hseek, enterRunState_of_lawful hlawful rfl]
  rfl

/-- RESUME from a halt of PRIMING takes up the stage that the halt recorded. -/
theorem exec_resume_of_priming (hlaw : GateLawful s) (h : s.run.state = .halted)
    (hcause : accepts .halted s.run.haltCause .resume = true) {stage : Nat} (hp : s.run.resume = .priming stage) :
    exec .resume s = .next ((resumed s .priming).resumePriming stage) := exec_resume_of_halted hlaw h hcause hp

/-- Stage 7 begins from a state that stands in PRIMING. -/
theorem primingStage7_eq (s : State) : s.primingStage7 = seekBegun { s with run := { s.run with stage := 7 } } :=
  State.seekDeck_eq _

/-- Stage 6 with a VALID DRIVE copy begins a settle. -/
theorem primingStage6_of_valid (h : s.tables.active.drive.valid = true) :
    s.primingStage6 = settleBegun { s with run := { s.run with stage := 6, lockWait := none } } := by
  rw [State.primingStage6, if_pos h, State.beginSettle_eq]
  rfl

/-- Stage 6 without a VALID DRIVE copy ends at once. -/
theorem primingStage6_of_invalid (h : s.tables.active.drive.valid = false) :
    s.primingStage6 = seekBegun { s with run := { s.run with stage := 7, lockWait := none } } := by
  rw [State.primingStage6, if_neg (by simp [h]), primingStage7_eq]
  rfl

/-- Settles O12. -/
theorem startAndPause : Obligations.StartAndPause := by
  refine ⟨fun s hidle hlaw hsnap => ?start, fun s hlaw => ⟨fun hrun hcard => ?waits, fun hrun hcard => ?held,
    fun hwaiting => ?waiting⟩⟩
  case start =>
    have hlawful : GateLawful (s.setRun s.run.started) := hlaw
    have hentered := State.refresh_of_disabled (s := (s.setRun s.run.started).enterRunState .priming) (by simpa using hsnap)
    rw [exec_start hidle, State.acceptStart, State.changeRunState, hentered, enterRunState_of_lawful hlawful rfl]
    rfl
  case waits =>
    have hcurrent : cardCurrent (s.answer .accepted) = true := hcard
    simp only [exec_pause (.inl hrun), State.acceptPause, State.answer_run, hrun, hcurrent]
    rfl
  case held =>
    have hlawful : GateLawful (s.answer .accepted) := hlaw
    have hgate := hlaw.gateOpen_eq (by rw [hrun]; rfl)
    have hcurrent : cardCurrent (s.answer .accepted) = false := hcard
    simp only [exec_pause (.inl hrun), State.acceptPause, State.answer_run, hrun, hcurrent]
    rw [if_neg nofun, enterHeld_of_not_waiting hlawful (by simp [hrun]), State.answer_scan, ← hgate]
    rfl
  case waiting =>
    have hlawful : GateLawful ({ s with
      run.lastOutcome := .accepted, run.pausePending := false, deck := s.deck.stopSeek } : State) := hlaw
    have hgate := hlaw.gateOpen_eq (by rw [hwaiting]; rfl)
    have hentered := enterRunState_of_lawful (r := .held) hlawful rfl
    simp only [exec_pause (.inr hwaiting), State.acceptPause, State.enterHeld, State.stopSeekOfWaiting,
      State.answer_run, hwaiting]
    refine congrArg (fun t : State => Host.Outcome.next t.refresh) (hentered.trans ?_)
    simp only [← hgate]
    rfl

/-- Settles O13. -/
theorem resumeGoesOn : Obligations.ResumeGoesOn := by
  refine fun s hlaw => ⟨fun hhalted hcause => ⟨fun hp => ?stage5, fun hp => ?stage6, fun hp => ?stage7, fun hp => ?waiting⟩,
    fun hheld hdeck => ?held⟩
  case stage5 =>
    rw [exec_resume_of_priming hlaw hhalted hcause hp, State.resumePriming, if_pos rfl, resumed_scan]
    refine ⟨fun hlock => ?_, fun hlock hdrive => ?_, fun hlock hdrive => ?_⟩
    · rw [if_neg (by simpa using hlock), State.primingStage5, resumed_run, resumed_rb]
      rfl
    · rw [if_pos (by simpa using hlock), primingStage6_of_valid (by simpa using hdrive), resumed_run]
    · rw [if_pos (by simpa using hlock), primingStage6_of_invalid (by simpa using hdrive), resumed_run]
  case stage6 =>
    rw [exec_resume_of_priming hlaw hhalted hcause hp, State.resumePriming, if_neg nofun, if_pos rfl, resumed_power]
    refine ⟨fun hpower => ?_, fun hpower hdrive => ?_, fun hpower => ?_⟩
    · simp only [hpower, State.resumeSettleWait_eq]
    · simp only [hpower]
      rw [primingStage6_of_valid (by simpa using hdrive), resumed_run]
    · simp only [hpower]
      rw [primingStage7_eq, resumed_run]
  case stage7 =>
    rw [exec_resume_of_priming hlaw hhalted hcause hp, State.resumePriming, if_neg nofun, if_neg nofun, if_pos rfl,
      primingStage7_eq, resumed_run]
  case waiting => rw [exec_resume_of_halted hlaw hhalted hcause hp, State.resumeAt, State.seekDeck_eq]; rfl
  case held =>
    have hpoint : heldResume s = .waiting := by rw [heldResume, hdeck]
    rw [exec_resume_held hheld, hpoint, acceptResume_eq hlaw, State.resumeAt, State.seekDeck_eq]
    rfl

end Sys2Proof.Machine

/-! PROOF. A halt in every block that it touches (R98, R102, R106, R164), the lock waits (R7, R110, R160), and the events
that halt the run or end the lock: a driver fault (R26, R124), SPIN_DOWN (R97) and the watchdog (R81). Settles O39, O60 and
O19. -/

namespace Sys2Proof.Machine

variable {s t : State}

/-! ## Halts (R164) -/

@[simp] theorem Power.halted_gateOpen (p : Power) (c : HaltCause) : (p.halted c).gateOpen = p.gateOpen := by cases c <;> rfl
@[simp] theorem Power.halted_marked (p : Power) (c : HaltCause) : (p.halted c).marked = p.marked := by cases c <;> rfl

/-- The Regulator after a halt that is taken: the gate CLOSED, with what its closing voids. -/
theorem halt_power (h : s.run.state.takesHalt = true) (c : HaltCause) :
    (s.halt c).power = { s.power.halted c with gateOpen := false, marked := markedAtClosing s } := by
  have hmarked (r : RunCtl) (v : State) (hpower : v.power = s.power.halted c) (hscan : v.scan = s.scan) :
      markedAtGate v false = markedAtClosing s := by
    rw [← markedAtGate_false]
    simp [markedAtGate, hpower, hscan]
  unfold State.halt
  rw [if_pos h]
  simp only [State.refresh_power, State.raise_power, enterRunState_of_closing (r := .halted) rfl, State.setPower_power]
  rw [hmarked s.run _ rfl (by simp)]

theorem takesHalt_iff {r : RunState} :
    r.takesHalt = true ↔ r = .priming ∨ r = .running ∨ r = .waiting ∨ r = .held := by
  cases r <;> decide

/-- A halt in HALTED: TRANSPORT alone replaces the cause. -/
theorem halt_of_halted (h : s.run.state = .halted) {c : HaltCause} (hc : c ≠ .transport) : s.halt c = s := by
  cases c <;> simp [State.halt, h, RunState.takesHalt] at hc ⊢

theorem halt_transport_of_halted (h : s.run.state = .halted) :
    s.halt .transport =
      (((s.setRun { s.run with haltCause := .transport }).setPower s.power.clearDarkHalt).raise .halt).refresh := by
  simp [State.halt, h, RunState.takesHalt]

/-- No halt is taken in IDLE and in ENDING. -/
theorem halt_of_not_run (h : s.run.state = .idle ∨ s.run.state = .ending) (c : HaltCause) : s.halt c = s := by
  rcases h with h | h <;> simp [State.halt, h, RunState.takesHalt]

theorem resumePointOf_eq (h : s.run.state.takesHalt = true) :
    resumePointOf s = if s.run.state = .priming then .priming s.run.stage
      else if s.run.state = .waiting ∨ s.deck.taken = none then .waiting else .running := by
  unfold resumePointOf
  rcases takesHalt_iff.mp h with h | h | h | h <;> cases hdeck : s.deck.taken <;> simp [h]

theorem exec_frameLockWaitExpiry {c : FrameCtx} {n : Nat} (hctx : s.frame.ctx = some c) (hwait : c.lockWait = .running n) :
    exec .frameLockWaitExpiry s =
      .next (if s.scan.lock == .locked then s.expireLockWait c else (s.expireLockWait c).halt .lockTimeout) := by
  show execFrameLockWaitExpiry s = _
  simp [execFrameLockWaitExpiry, hctx, hwait, State.expireLockWait, State.setCtx]

theorem exec_primingLockWaitExpiry (h : s.run.lockWait ≠ none) :
    exec .primingLockWaitExpiry s = .next
      (if s.scan.lock == .locked then s.setRun { s.run with lockWait := none }
       else (s.setRun { s.run with lockWait := none }).halt .lockTimeout) := by
  obtain ⟨n, hn⟩ := Option.ne_none_iff_exists'.mp h
  show execPrimingLockWaitExpiry s = _
  simp [execPrimingLockWaitExpiry, hn]

theorem exec_settleLockTimeoutExpiry (h : s.power.settleTimeout ≠ none) :
    exec .settleLockTimeoutExpiry s = .next
      (if s.scan.lock == .locked then s.setPower { s.power with settleTimeout := none }
       else (s.setPower { s.power with settleTimeout := none }).halt .lockTimeout) := by
  obtain ⟨n, hn⟩ := Option.ne_none_iff_exists'.mp h
  show execSettleLockTimeoutExpiry s = _
  simp [execSettleLockTimeoutExpiry, hn]

/-- Settles O39. -/
theorem haltsAndLockWaits : Obligations.HaltsAndLockWaits := by
  refine ⟨fun s cause => ⟨fun hrun => ?taken, fun hhalted hcause => halt_of_halted hhalted hcause, fun hhalted => ?transport,
    fun hrun => halt_of_not_run hrun cause⟩, fun s => ⟨fun c n hctx hwait => ?frame, fun hwait => ?priming,
    fun hwait => ?settle⟩⟩
  case taken =>
    have htaken := takesHalt_iff.mpr hrun
    obtain ⟨hrecord, hgate, hstate, hpwr, hdark, hpending, hcauses, hdeck⟩ := s.halt_taken cause htaken
    rw [haltRecord, resumePointOf_eq htaken] at hrecord
    have hconversion : (s.power.halted cause).conversion = s.power.conversion := by cases cause <;> rfl
    exact ⟨hrecord, hgate, hcauses, by simp, by simp, by simp, by simp, by simp, by simp, by simp, hdeck, hpending, hstate,
      by rw [halt_power htaken], by rw [halt_power htaken, hconversion], hdark⟩
  case transport =>
    rw [halt_transport_of_halted hhalted]
    exact ⟨by simp, by simp [Cause.bit]⟩
  case frame => exact (exec_frameLockWaitExpiry hctx hwait).trans (by simp only [beq_iff_eq]; rfl)
  case priming => exact (exec_primingLockWaitExpiry hwait).trans (by simp only [beq_iff_eq]; rfl)
  case settle => exact (exec_settleLockTimeoutExpiry hwait).trans (by simp only [beq_iff_eq]; rfl)

/-! ## The driver fault (R26, R124) -/

/-- A driver fault empties the ring of a FRAME card in the context. -/
theorem frameFault_of_some {c : FrameCtx} (h : s.frame.ctx = some c) : s.frameFault = s.zeroOrder.flushParked := by
  simp [State.frameFault, h]

theorem frameFault_of_none (h : s.frame.ctx = none) : s.frameFault = s := by simp [State.frameFault, h]

@[simp] theorem Datapath.zeroOrder_pending (d : Datapath) : d.zeroOrder.pending = none := by
  unfold Datapath.zeroOrder; split <;> rfl

/-- A TRANSPORT halt is taken in a run, also where it was HALTED already. -/
theorem halt_transport (hidle : s.run.state ≠ .idle) (hending : s.run.state ≠ .ending) :
    (s.halt .transport).run.state = .halted ∧ (s.halt .transport).run.haltCause = .transport ∧
    (s.halt .transport).regs.causes.getLsbD 3 = true ∧
    ∃ g m, (s.halt .transport).power = { s.power with darkHaltPending := false, gateOpen := g, marked := m } := by
  by_cases htaken : s.run.state.takesHalt = true
  · obtain ⟨hrecord, -, -, -, -, -, hcauses, -⟩ := s.halt_taken .transport htaken
    refine ⟨by rw [hrecord], by rw [hrecord]; rfl, by simp [hcauses], false, markedAtClosing s, ?_⟩
    rw [halt_power htaken]
    rfl
  · have hhalted : s.run.state = .halted := by cases h : s.run.state <;> simp_all [RunState.takesHalt]
    rw [halt_transport_of_halted hhalted]
    exact ⟨by simp [hhalted], by simp, by simp [Cause.bit], s.power.gateOpen, s.power.marked, by simp; rfl⟩

theorem Power.endSettle_of_settling {p : Power} (h : p.state = .settling) :
    p.endSettle = { p with
      state := .unsettled, settle := { p.settle with waiting := false }, settleTimeout := none } := by
  simp [Power.endSettle, h, Power.endWait]

theorem Power.endSettle_of_not_settling {p : Power} (h : p.state ≠ .settling) : p.endSettle = p := by
  unfold Power.endSettle; split <;> simp_all

@[simp] theorem Power.endSettle_limited (p : Power) : p.endSettle.limited = p.limited := by
  unfold Power.endSettle; split <;> rfl

theorem exec_driverFault_of_faulted (hlevel : s.film.faultLevel = false) (h : s.film.state = .faulted) :
    exec .driverFault s = .next { s with film.faultLevel := true, film.faultRun := 0 } := by
  show execDriverFault s = _
  simp only [execDriverFault, hlevel, h]
  rfl

/-- A driver fault, up to what the run takes of it. -/
theorem exec_driverFault (hlevel : s.film.faultLevel = false) (h : s.film.state ≠ .faulted) {u : State}
    (hu : s.setFilm (Film.faulted { s.film with faultLevel := true, faultRun := 0 }) = u) :
    exec .driverFault s = .next (if s.run.state = .idle ∨ s.run.state = .ending then u else u.faultHalt) := by
  subst hu
  show execDriverFault s = _
  cases hfilm : s.film.state
  case faulted => exact absurd hfilm h
  all_goals
    simp only [execDriverFault, hlevel, hfilm]
    cases hrun : s.run.state <;> rfl

/-- The gate is CLOSED in a run that is HALTED by its law. -/
theorem GateLawful.closed_of_halted (h : GateLawful s) (hrun : s.run.state = .halted) : s.power.gateOpen = false :=
  h.trans (gateLaw_of_not_set _ (by rw [hrun]; rfl))

/-- Settles O60. -/
theorem driverFaultStopsTheFilm : Obligations.DriverFaultStopsTheFilm := by
  refine fun s hlevel => ⟨exec_driverFault_of_faulted hlevel, fun hfilm => ?_⟩
  generalize hu : s.setFilm (Film.faulted { s.film with faultLevel := true, faultRun := 0 }) = u
  have hexec := exec_driverFault hlevel hfilm hu
  by_cases hrun : s.run.state = .idle ∨ s.run.state = .ending
  · rw [if_pos hrun] at hexec
    subst hu
    exact ⟨_, hexec, rfl, fun _ => rfl, fun hidle hending => absurd hrun (by simp [hidle, hending])⟩
  rw [if_neg hrun] at hexec
  refine ⟨_, hexec, by rw [State.faultHalt]; simp [← hu, Film.faulted, Film.stopGenerator],
    fun h => absurd h hrun, fun hidle hending => ?_⟩
  have hrunning : u.frameFault.endSettle.run = s.run := by simp [← hu]
  have hpowerEnded : u.frameFault.endSettle.power = s.power.endSettle := by simp [State.endSettle, ← hu]
  obtain ⟨hstate, hcause, hraised, g, m, hpower⟩ :=
    halt_transport (s := u.frameFault.endSettle) (by rwa [hrunning]) (by rwa [hrunning])
  rw [hpowerEnded] at hpower
  have hlawful (hlaw : GateLawful s) : GateLawful u.faultHalt := GateLawful.faultHalt (by rw [← hu]; exact hlaw)
  refine ⟨hstate, hcause, hraised, fun hlaw => (hlawful hlaw).closed_of_halted hstate, ?_, ?_, ?_, ?_, ?_,
    fun hsettle => ?_, fun hsettle => ?_, ?_, ?_, ?_, fun hctx => ?_, fun hctx => ?_⟩
  · rw [State.faultHalt, hpower]
  · simp [State.faultHalt, ← hu]
  · rw [State.faultHalt, hpower]; exact Power.endSettle_pwr _
  · rw [State.faultHalt, hpower]; exact Power.endSettle_limited _
  · rw [State.faultHalt, hpower]; exact Power.endSettle_dark _
  · rw [State.faultHalt, hpower, Power.endSettle_of_not_settling hsettle]
    exact ⟨rfl, rfl, rfl⟩
  · rw [State.faultHalt, hpower, Power.endSettle_of_settling hsettle]
    exact ⟨rfl, rfl, rfl⟩
  · simp [State.faultHalt, ← hu]
  · simp [State.faultHalt, ← hu]
  · simp [State.faultHalt, ← hu]
  · have hnone : u.frameFault = u := frameFault_of_none (by simpa [← hu] using hctx)
    rw [State.faultHalt, hnone]
    simp [← hu]
  · obtain ⟨c, hc⟩ := Option.ne_none_iff_exists'.mp hctx
    have hsome : u.frameFault = u.zeroOrder.flushParked := frameFault_of_some (c := c) (by simpa [← hu] using hc)
    rw [State.faultHalt, hsome, State.flushParked_eq]
    simp [LineRing.flushed, Cursor.park, State.zeroOrder]

end Sys2Proof.Machine

/-! PROOF. The flush of the line ring and the spoil of an attempt (R18 to R21, R58), the loss of LOCKED as it reaches Frame
Exposure and the Power Regulator (R89, R110), and the events that bring them: O18, O19, O31, O37. -/

namespace Sys2Proof.Machine

variable {s t u : State}

/-! ## The flush and the spoil (R18 to R20, R58) -/

/-- The state u differs from s in nothing that Frame Exposure acts on, but that an open window may have been cut: what
is left of one is dark. -/
structure SameForFrame (s u : State) : Prop where
  run : u.run = s.run
  rb : u.rb = s.rb
  frame : u.frame = s.frame
  ring : u.ring = s.ring
  film : u.film = s.film
  seq : u.seq = s.seq
  bus : u.bus = s.bus
  nextId : u.nextId = s.nextId
  dark : s.dp.mode.line = true → u.dp.mode.line = true ∨ u.dp.drive = .all 0

theorem SameForFrame.refl (s : State) : SameForFrame s s := ⟨rfl, rfl, rfl, rfl, rfl, rfl, rfl, rfl, .inl⟩

/-- A flush beside the context f empties the ring of s as R58 says. -/
theorem SameForFrame.flushedRing_eq (h : SameForFrame s u) (f : FrameExposure) (v : State) (c : Cursor)
    (hv : v = u.setFrame f ∨ v = u.zeroOrder.setFrame f) :
    ((v.setRing (v.ring.flushed c)).fetch).ring = flushedRing s f c := by
  have halike : FetchAlike (v.setRing (v.ring.flushed c))
      { s with frame := f, ring := { slots := [], switchOn := true, reads := s.ring.reads.map LineRead.voided, cursor := c } } := by
    rcases hv with rfl | rfl <;>
      exact ⟨h.rb, h.seq, by simp [LineRing.flushed, State.zeroOrder, h.ring], h.bus, h.nextId, fun _ => rfl⟩
  exact halike.fetch.ring

theorem DpMode.line_iff {m : DpMode} : m.line = true ↔ m = .image ∨ m = .blank := by cases m <;> decide

theorem Datapath.zeroOrder_line (d : Datapath) : d.zeroOrder.mode.line = false := by
  unfold Datapath.zeroOrder
  split
  · rfl
  next h => exact Bool.not_eq_true _ ▸ h

theorem Datapath.zeroOrder_of_line {d : Datapath} (h : d.mode.line = true) :
    d.zeroOrder.mode = .dark ∧ d.zeroOrder.drive = .all 0 := by
  simp [Datapath.zeroOrder, h]

theorem Datapath.zeroOrder_of_not_line {d : Datapath} (h : d.mode.line = false) : d.zeroOrder = { d with pending := none } := by
  simp [Datapath.zeroOrder, h]

/-- The context after a spoil is that of R19 and R20. -/
theorem FrameCtx.spoiled_eq (c : FrameCtx) (cause : SpoilCause) (line : Nat) (stopPending : Bool) :
    c.spoiled cause line stopPending = afterSpoil c cause line stopPending := by
  cases cause <;> rfl

theorem SameForFrame.zeroOrder_dark (h : SameForFrame s u) (hline : s.dp.mode = .image ∨ s.dp.mode = .blank) :
    u.dp.zeroOrder.drive = .all 0 := by
  rcases hu : u.dp.mode.line with _ | _
  · rcases h.dark (DpMode.line_iff.mpr hline) with hopen | hdark
    · rw [hu] at hopen; contradiction
    · rw [Datapath.zeroOrder_of_not_line hu]; exact hdark
  · exact (Datapath.zeroOrder_of_line hu).2

/-- A spoil, beside what a cut has left (R19, R20). -/
theorem SameForFrame.attemptSpoiled (h : SameForFrame s u) (c : FrameCtx) (cause : SpoilCause) :
    attemptSpoiled s (u.spoil c cause) c cause (spoilLineOf c cause) := by
  obtain ⟨hdp, -, hframe⟩ := u.spoil_does c cause
  have hline := u.dp.zeroOrder_line
  have hmode : u.dp.zeroOrder.mode ≠ .image ∧ u.dp.zeroOrder.mode ≠ .blank := by
    constructor <;> intro hm <;> rw [hm] at hline <;> contradiction
  have hframe' : (u.spoil c cause).frame =
      { s.frame with ctx := some (afterSpoil c cause (spoilLineOf c cause) s.run.stopPending) } := by
    rw [hframe, FrameCtx.spoiled_eq, h.frame, h.run]
  refine ⟨hframe', ?_, by rw [hdp, Datapath.zeroOrder_pending], by rw [hdp]; exact hmode.1, by rw [hdp]; exact hmode.2,
    fun hlit => by rw [hdp]; exact h.zeroOrder_dark hlit⟩
  rw [hframe', ← h.run, ← FrameCtx.spoiled_eq, ← h.frame]
  unfold State.spoil
  simp only [State.setFilm_ring]
  split
  next hagain => exact h.flushedRing_eq _ _ _ (.inr rfl)
  next hagain =>
    rw [← h.ring]
    exact h.flushedRing_eq _ _ _ (.inr rfl)

/-! ## The loss of LOCKED (R89, R110) -/

/-- A halt after cycle that was none is filled (R14). -/
theorem FrameCtx.fillHaltAfter_eq (c : FrameCtx) (a : HaltAfter) :
    c.fillHaltAfter a = { c with haltAfter := if c.haltAfter = .none then a else c.haltAfter } := by
  unfold FrameCtx.fillHaltAfter
  obtain ⟨_, _, _, _, _, _, _, _, _, _, _, _, _, _, a', _, _, _, _⟩ := c
  cases a' <;> rfl

theorem frameLockLost_of_none (h : s.frame.ctx = none) : s.frameLockLost = s := by simp [State.frameLockLost, h]

theorem frameLockLost_of_exposing {c : FrameCtx} (h : s.frame.ctx = some c) (hstate : c.state = .exposing) :
    s.frameLockLost = s.spoil c .polygonLost := by simp [State.frameLockLost, h, hstate]

theorem frameLockLost_of_closing {c : FrameCtx} (h : s.frame.ctx = some c) (hstate : c.state = .closing) :
    s.frameLockLost = s.setCtx (c.fillHaltAfter .polygonLost) := by simp [State.frameLockLost, h, hstate]

theorem frameLockLost_of_preparing {c : FrameCtx} (h : s.frame.ctx = some c) (hstate : c.state = .preparing) :
    s.frameLockLost = if c.lockWait = .expired then s.halt .lockTimeout else s := by
  unfold State.frameLockLost
  simp only [h, hstate]
  cases c.lockWait <;> simp

/-- A loss of LOCKED reaches Frame Exposure (R7, R8, R14, R18 to R20). -/
theorem SameForFrame.frameLosesLock (h : SameForFrame s u) (hframe : t.frame = u.frameLockLost.frame)
    (hring : t.ring = u.frameLockLost.ring) (hfilm : t.film = u.frameLockLost.film) (hrun : t.run = u.frameLockLost.run)
    (hdp : t.dp = u.frameLockLost.dp) : frameLosesLock s t := by
  unfold Machine.frameLosesLock Machine.attemptSpoiled
  rw [hframe, hring, hfilm, hrun, hdp]
  rw [← h.frame]
  refine ⟨fun hctx => ?none, fun c hctx hstate => ?exposing, fun c hctx hstate => ?closing, fun c hctx hstate => ?preparing⟩
  case none =>
    rw [frameLockLost_of_none hctx]
    exact ⟨rfl, h.ring, h.film, h.run⟩
  case exposing =>
    rw [frameLockLost_of_exposing hctx hstate]
    refine ⟨?_, ?_, ?_⟩
    · have := h.attemptSpoiled c .polygonLost
      rw [Machine.attemptSpoiled, ← h.frame] at this
      exact this
    · rw [← h.film, ← h.rb]; exact (u.spoil_does c .polygonLost).2.1
    · rw [← h.run]; simp
  case closing =>
    rw [frameLockLost_of_closing hctx hstate, FrameCtx.fillHaltAfter_eq]
    exact ⟨rfl, h.ring, h.film, h.run⟩
  case preparing =>
    rw [frameLockLost_of_preparing hctx hstate]
    split
    next hexpired =>
      refine ⟨by simp, by simpa using h.ring, by simpa using h.film, fun hnot => absurd hexpired hnot, fun _ hrunning => ?_⟩
      have htaken : u.run.state.takesHalt = true := by rw [h.run, hrunning]; rfl
      rw [(u.halt_taken .lockTimeout htaken).1]
      exact ⟨rfl, rfl⟩
    next hwaits => exact ⟨rfl, h.ring, h.film, fun _ => h.run, fun hexpired => absurd hexpired hwaits⟩

/-- What a settle consists of: the Regulator's state, its values, the settle, and the conversion. -/
def Power.settleView (p : Power) :
    RegulatorState × Tri Int × Tri Bool × SettleRecord × Option Nat × Option Conversion :=
  (p.state, p.pwr, p.limited, p.settle, p.settleTimeout, p.conversion)

theorem State.updateGate_settleView (s : State) : s.updateGate.power.settleView = s.power.settleView := by
  rw [State.updateGate_eq]; rfl

theorem halt_settleView (s : State) (c : HaltCause) : (s.halt c).power.settleView = s.power.settleView := by
  by_cases htaken : s.run.state.takesHalt = true
  · rw [halt_power htaken]; cases c <;> rfl
  · unfold State.halt
    rw [if_neg htaken]
    split
    all_goals simp
    all_goals rfl

theorem frameLockLost_settleView (s : State) : s.frameLockLost.power.settleView = s.power.settleView := by
  unfold State.frameLockLost
  repeat' split
  all_goals simp [halt_settleView]

/-- LOCKED left, as the Regulator takes it (R110). -/
theorem settleLosesLock_of (hview : u.power.settleView = s.power.settleView) (hrb : u.rb = s.rb) :
    settleLosesLock s u.settleLockLost := by
  simp only [Power.settleView, Prod.mk.injEq] at hview
  obtain ⟨hstate, hpwr, hlimited, hsettle, htimeout, hconversion⟩ := hview
  unfold State.settleLockLost settleLosesLock
  rw [← hstate, ← hpwr, ← hlimited, ← hsettle, ← htimeout, ← hconversion, ← hrb]
  cases h : u.power.state
  case settling => exact ⟨fun _ => ⟨rfl, rfl⟩, fun hnot => absurd rfl hnot, h, rfl, rfl, rfl⟩
  all_goals exact ⟨nofun, fun _ => ⟨rfl, rfl⟩, h, rfl, rfl, rfl⟩

/-- LOCKED left, as it is reported to Frame Exposure, the gate and the Regulator (R89). -/
def State.reportLoss (s : State) : State := s.frameLockLost.updateGate.settleLockLost

theorem loseLock_eq (s : State) (l : LockState) : s.loseLock l = (s.setScan { s.scan with lock := l }).reportLoss := rfl

section
variable (s : State)

@[simp] theorem State.reportLoss_scan : s.reportLoss.scan = s.scan := by simp [State.reportLoss]
@[simp] theorem State.reportLoss_rb : s.reportLoss.rb = s.rb := by simp [State.reportLoss]
@[simp] theorem State.reportLoss_seq : s.reportLoss.seq = s.seq := by simp [State.reportLoss]
@[simp] theorem State.reportLoss_tables : s.reportLoss.tables = s.tables := by simp [State.reportLoss]
@[simp] theorem State.reportLoss_frame : s.reportLoss.frame = s.frameLockLost.frame := by simp [State.reportLoss]
@[simp] theorem State.reportLoss_ring : s.reportLoss.ring = s.frameLockLost.ring := by simp [State.reportLoss]
@[simp] theorem State.reportLoss_film : s.reportLoss.film = s.frameLockLost.film := by simp [State.reportLoss]
@[simp] theorem State.reportLoss_run : s.reportLoss.run = s.frameLockLost.run := by simp [State.reportLoss]
@[simp] theorem State.reportLoss_dp : s.reportLoss.dp = s.frameLockLost.dp := by simp [State.reportLoss]
@[simp] theorem State.reportLoss_regs : s.reportLoss.regs = s.frameLockLost.regs := by simp [State.reportLoss]
@[simp] theorem State.reportLoss_deck : s.reportLoss.deck = s.frameLockLost.deck := by simp [State.reportLoss]
@[simp] theorem State.reportLoss_bus : s.reportLoss.bus = s.frameLockLost.bus := by simp [State.reportLoss]

end

/-- Nothing but the attempt in the context makes a loss of LOCKED reach the run. -/
theorem frameLockLost_kept (h : s.frame.ctx = none ∨ ∃ c, s.frame.ctx = some c ∧ c.state = .exposing) :
    s.frameLockLost.regs = s.regs ∧ s.frameLockLost.deck = s.deck := by
  rcases h with hnone | ⟨c, hctx, hstate⟩
  · rw [frameLockLost_of_none hnone]; exact ⟨rfl, rfl⟩
  · rw [frameLockLost_of_exposing hctx hstate]; simp

/-- The gate of a loss of LOCKED is CLOSED. -/
theorem reportLoss_gateOpen (h : s.scan.lock ≠ .locked) : s.reportLoss.power.gateOpen = false := by
  simp [State.reportLoss, gateLaw_of_not_locked _ h]

@[simp] theorem State.settleLockLost_marked (s : State) : s.settleLockLost.power.marked = s.power.marked := by
  unfold State.settleLockLost; split <;> rfl

/-- With no monitor window open, a closing gate voids nothing. -/
theorem updateGate_marked (h : s.scan.window ≠ .monitor) : s.updateGate.power.marked = s.power.marked := by
  rw [State.updateGate_eq]
  simp [markedAtGate, h]

theorem halt_marked (h : s.scan.window ≠ .monitor) (c : HaltCause) : (s.halt c).power.marked = s.power.marked := by
  by_cases htaken : s.run.state.takesHalt = true
  · rw [halt_power htaken, markedAtClosing, if_neg (fun hopen => h hopen.2)]
  · unfold State.halt
    rw [if_neg htaken]
    split <;> simp [Power.clearDarkHalt]

theorem reportLoss_marked (h : s.scan.window ≠ .monitor) : s.reportLoss.power.marked = s.power.marked := by
  have hframe : s.frameLockLost.power.marked = s.power.marked := by
    unfold State.frameLockLost
    (repeat' split) <;> simp [halt_marked h]
  rw [State.reportLoss, State.settleLockLost_marked, updateGate_marked (by simpa using h), hframe]

/-- A loss of LOCKED with its report, in Frame Exposure and in the Power Regulator. -/
theorem SameForFrame.reportLoss (h : SameForFrame s u) (hview : u.power.settleView = s.power.settleView) :
    Machine.frameLosesLock s u.reportLoss ∧ settleLosesLock s u.reportLoss :=
  ⟨h.frameLosesLock (by simp) (by simp) (by simp) (by simp) (by simp),
    settleLosesLock_of (by rw [State.updateGate_settleView, frameLockLost_settleView, hview]) (by simpa using h.rb)⟩

/-! ## The cut of a line (R39, R43, R94) and a scan that becomes STOPPED (R81) -/

theorem cutLine_of_none (h : s.scan.window = .none) : s.cutLine = s := by simp [State.cutLine, h]

theorem cutLine_of_line (h : s.scan.window ≠ .none) :
    s.cutLine = { s with
      dp := s.dp.cut s.scan.window, scan := s.scan.noWindow, power := { s.power with marked := none } } := by
  unfold State.cutLine
  split
  next hnone => exact absurd hnone h
  next => rfl

theorem cut_of_open {w : WindowStage} (h : w = .pixel ∨ w = .monitor) (d : Datapath) :
    (d.cut w).mode = .idle ∧ (d.cut w).drive = .all 0 := by
  rcases h with rfl | rfl <;> exact ⟨rfl, rfl⟩

theorem cut_dark (d : Datapath) (w : WindowStage) (h : d.mode.line = true) :
    (d.cut w).mode.line = true ∨ (d.cut w).drive = .all 0 := by
  cases w
  case pixel => exact .inr rfl
  case monitor => exact .inr rfl
  all_goals exact .inl h

/-- A cut leaves all that Frame Exposure acts on, and the settle. -/
theorem sameForFrame_cutLine (s : State) : SameForFrame s s.cutLine := by
  refine ⟨by simp, by simp, by simp, by simp, by simp, by simp, by simp, by simp, fun hline => ?_⟩
  by_cases h : s.scan.window = .none
  · rw [cutLine_of_none h]; exact .inl hline
  · rw [cutLine_of_line h]; exact cut_dark _ _ hline

theorem cutLine_settleView (s : State) : s.cutLine.power.settleView = s.power.settleView := by
  by_cases h : s.scan.window = .none
  · rw [cutLine_of_none h]
  · rw [cutLine_of_line h]; rfl

theorem SameForFrame.setScan (h : SameForFrame s u) (v : ScanTiming) : SameForFrame s (u.setScan v) :=
  ⟨h.run, h.rb, h.frame, h.ring, h.film, h.seq, h.bus, h.nextId, h.dark⟩

theorem stopScan_of_locked (h : s.scan.lock = .locked) :
    s.stopScan = (s.cutLine.setScan s.cutLine.scan.stopped).reportLoss := by
  simp [State.stopScan, h, State.reportLoss]

theorem stopScan_of_not_locked (h : s.scan.lock ≠ .locked) : s.stopScan = s.cutLine.setScan s.cutLine.scan.stopped := by
  simp [State.stopScan, h]

/-- The scan once it is STOPPED, with what was left of a line (R81). -/
theorem stopScan_values (s : State) :
    s.stopScan.scan = { s.scan with
      lock := .stopped, facet := 0, indexPending := false, intervalValid := false, rev := none, goodCount := 0
      watchdog := none, window := .none, mark := s.stopScan.scan.mark, windowTimer := s.stopScan.scan.windowTimer } := by
  rw [State.stopScan_scan]
  by_cases h : s.scan.window = .none
  · rw [cutLine_of_none h, ScanTiming.stopped, ← h]
  · rw [cutLine_of_line h]; rfl

theorem frameLockLost_dp_of_idle (h : s.dp.mode = .idle) :
    s.frameLockLost.dp.mode = .idle ∧ s.frameLockLost.dp.drive = s.dp.drive := by
  have horder : s.dp.zeroOrder = { s.dp with pending := none } := Datapath.zeroOrder_of_not_line (by rw [h]; rfl)
  unfold State.frameLockLost
  (repeat' split) <;> simp [(s.spoil_does _ _).1, horder, State.setCtx, h]

/-- A line in its windows when the scan becomes STOPPED is cut. -/
theorem stopScan_line (h : s.scan.window ≠ .none) :
    s.stopScan.scan.mark = false ∧ s.stopScan.scan.windowTimer = none ∧ s.stopScan.power.marked = none ∧
    (s.scan.window = .pixel ∨ s.scan.window = .monitor →
      s.stopScan.dp.mode = .idle ∧ s.stopScan.dp.drive = .all 0) := by
  have hscan := s.stopScan_scan
  rw [cutLine_of_line h] at hscan
  refine ⟨by rw [hscan]; rfl, by rw [hscan]; rfl, ?_⟩
  by_cases hlock : s.scan.lock = .locked
  · rw [stopScan_of_locked hlock, cutLine_of_line h, State.reportLoss_dp]
    refine ⟨by rw [reportLoss_marked (by simp [ScanTiming.stopped, ScanTiming.noWindow])]; rfl, fun hopen => ?_⟩
    obtain ⟨hmode, hdrive⟩ := cut_of_open hopen s.dp
    exact (frameLockLost_dp_of_idle hmode).imp_right (·.trans hdrive)
  · rw [stopScan_of_not_locked hlock, cutLine_of_line h]
    exact ⟨rfl, fun hopen => cut_of_open hopen s.dp⟩

/-- A scan that is STOPPED with no attempt in the context touches only its own line, the gate and the settle. -/
theorem stopScan_alone (h : s.frame.ctx = none) :
    s.stopScan.run = s.run ∧ s.stopScan.regs = s.regs ∧ s.stopScan.deck = s.deck ∧ s.stopScan.bus = s.bus ∧
    s.stopScan.frame = s.frame ∧ s.stopScan.ring = s.ring ∧ s.stopScan.film = s.film := by
  by_cases hlock : s.scan.lock = .locked
  · rw [stopScan_of_locked hlock]
    simp only [State.reportLoss_run, State.reportLoss_regs, State.reportLoss_deck, State.reportLoss_bus,
      State.reportLoss_frame, State.reportLoss_ring, State.reportLoss_film]
    rw [frameLockLost_of_none (by simpa using h)]
    simp
  · rw [stopScan_of_not_locked hlock]
    simp

theorem stopScan_power_kept (s : State) :
    s.stopScan.power.pwr = s.power.pwr ∧ s.stopScan.power.state = s.power.state := by
  have hview := cutLine_settleView s
  by_cases hlock : s.scan.lock = .locked
  · rw [stopScan_of_locked hlock]
    obtain ⟨-, -, hstate, hpwr, -⟩ := (((sameForFrame_cutLine s).setScan s.cutLine.scan.stopped).reportLoss hview).2
    exact ⟨hpwr, hstate⟩
  · simp only [Power.settleView, Prod.mk.injEq] at hview
    rw [stopScan_of_not_locked hlock]
    exact ⟨hview.2.1, hview.1⟩

/-- The gate is CLOSED by its law once the scan is STOPPED. -/
theorem GateLawful.closed_of_stopScan (h : GateLawful s) : s.stopScan.power.gateOpen = false :=
  h.stopScan.trans (gateLaw_of_not_locked _ (by rw [stopScan_values]; nofun))

theorem exec_watchdogExpiry (h : s.scan.watchdog ≠ none) : exec .watchdogExpiry s = .next s.stopScan := by
  obtain ⟨n, hn⟩ := Option.ne_none_iff_exists'.mp h
  show execWatchdogExpiry s = _
  simp [execWatchdogExpiry, hn]

/-- Settles O31. -/
theorem watchdogExpiryStops : Obligations.WatchdogExpiryStops := by
  refine fun s hdog hlaw => ⟨s.stopScan, exec_watchdogExpiry hdog, stopScan_values s, fun hline => ?_, fun hopen => ?_,
    hlaw.closed_of_stopScan, (stopScan_power_kept s).1, (stopScan_power_kept s).2, fun hlock => ?_, fun hlock => ?_,
    fun hctx => ?_, by simp, by simp, by simp⟩
  · obtain ⟨hmark, htimer, hmarked, -⟩ := stopScan_line hline
    exact ⟨hmark, htimer, hmarked⟩
  · exact (stopScan_line (by rcases hopen with h | h <;> rw [h] <;> nofun)).2.2.2 hopen
  · rw [stopScan_of_locked hlock]
    exact (((sameForFrame_cutLine s).setScan s.cutLine.scan.stopped).reportLoss (cutLine_settleView s)).symm
  · have hview := cutLine_settleView s
    simp only [Power.settleView, Prod.mk.injEq] at hview
    obtain ⟨-, -, -, hsettle, htimeout, hconversion⟩ := hview
    rw [stopScan_of_not_locked hlock]
    exact ⟨hsettle, htimeout, hconversion, by simp, by simp, by simp, by simp, by simp, by simp, by simp⟩
  · obtain ⟨hrun, hregs, hdeck, hbus, -⟩ := stopScan_alone hctx
    exact ⟨hrun, hregs, hdeck, hbus⟩

/-- Settles O19. -/
theorem spinDownStopsTheReference : Obligations.SpinDownStopsTheReference := by
  refine fun s hidle hctx => ⟨fun hstopped => ?_, fun hrunning => ?_⟩
  · rw [exec_spinDown hidle, if_neg (by simp [hstopped])]
    rfl
  · rw [exec_spinDown hidle, if_pos hrunning]
    generalize hu : (s.answer .accepted).setScan s.scan.stopReference = u
    have hscan : u.scan = s.scan.stopReference := by rw [← hu]; rfl
    have hwindow : u.scan.window = s.scan.window := by rw [hscan]; rfl
    have hgate (hlaw : GateLawful s) : GateLawful u := by rw [← hu]; exact hlaw
    obtain ⟨hrun, hregs, hdeck, hbus, hframe, hring, hfilm⟩ := stopScan_alone (s := u) (by rw [← hu]; exact hctx)
    refine ⟨_, rfl, ?_, fun hline => ?_, fun hopen => ?_, fun hlaw => (hgate hlaw).closed_of_stopScan, ?_, ?_, ?_, ?_, ?_,
      ?_, ?_, ?_, ?_, ?_, ?_⟩
    · rw [stopScan_values u, hscan]; rfl
    · obtain ⟨hmark, htimer, hmarked, -⟩ := stopScan_line (s := u) (by rwa [hwindow])
      exact ⟨hmark, htimer, hmarked⟩
    · rw [← hwindow] at hopen
      exact (stopScan_line (by rcases hopen with h | h <;> rw [h] <;> nofun)).2.2.2 hopen
    · rw [hrun, ← hu]; rfl
    · rw [(stopScan_power_kept u).1, ← hu]; rfl
    · rw [hregs, ← hu]; rfl
    · rw [← hu]; simp
    · rw [hdeck, ← hu]; rfl
    · rw [← hu]; simp
    · rw [hframe, ← hu]; rfl
    · rw [hring, ← hu]; rfl
    · rw [← hu]; simp
    · rw [hfilm, ← hu]; rfl
    · rw [hbus, ← hu]; rfl

/-! ## STOP and ABORT in RUNNING (R24, R25, R166, R167) -/

theorem exec_stop_running (hrun : s.run.state = .running)
    (hu : u = s.setRun { s.run with stopPending := true, lastOutcome := .accepted }) :
    exec .stop s = .next (if s.run.stopPending then u else if cardCurrent s then u.stopCard else u.endRun) := by
  subst hu
  rw [exec_stop (.inl hrun)]
  simp only [State.acceptStop, State.answer_run, hrun]
  rfl

/-- A second STOP in RUNNING changes nothing further. -/
theorem exec_stop_again (hrun : s.run.state = .running) (hstop : s.run.stopPending = true)
    (houtcome : s.run.lastOutcome = .accepted) : exec .stop s = .next s := by
  have hkept : { s.run with stopPending := true, lastOutcome := .accepted } = s.run := by
    rw [← hstop, ← houtcome]
  rw [exec_stop_running hrun rfl, if_pos hstop, hkept]
  rfl

theorem exec_abort_running (hrun : s.run.state = .running)
    (hu : u = s.setRun { s.run with stopPending := true, abortRecord := true, lastOutcome := .accepted }) :
    exec .abort s = .next (if cardCurrent s then u.abortCard else u.endRun) := by
  subst hu
  rw [exec_abort (by rw [hrun]; nofun)]
  simp only [State.acceptAbort, State.answer_run, hrun]
  rfl

/-- What STOP and ABORT both do to the card that is current, but for an EXPOSING frame, a load and a dump. -/
structure CardStops (s t : State) : Prop where
  frame : ∀ k x, s.seq.current.outcome = .good (.frame k) → s.frame.ctx = some x →
    (x.state = .preparing → t = s.endRun) ∧ (x.state = .closing → x.closeKind = .good → t = s) ∧
    (x.state = .closing → x.closeKind = .spoiled → t = s.dropRetake x)
  leader : ∀ n e, s.seq.current.outcome = .good (.leader n e) → t = if s.film.state.moving then s else s.endRun
  calibrate : s.seq.current.outcome = .good .calibrate → t = s.endSettleAndRun

theorem cardStops_stop (s : State) : CardStops s s.stopCard := by
  constructor
  case frame =>
    intro k x hcard hctx
    refine ⟨fun hstate => ?_, fun hstate hkind => ?_, fun hstate hkind => ?_⟩
    · simp [State.stopCard, hcard, hctx, hstate]
    · simp [State.stopCard, hcard, hctx, hstate, hkind]
    · simp [State.stopCard, hcard, hctx, hstate, hkind]
  case leader => intro n e hcard; simp [State.stopCard, hcard]
  case calibrate => intro hcard; simp [State.stopCard, hcard]

theorem cardStops_abort (s : State) : CardStops s s.abortCard := by
  constructor
  case frame =>
    intro k x hcard hctx
    refine ⟨fun hstate => ?_, fun hstate hkind => ?_, fun hstate hkind => ?_⟩
    · simp [State.abortCard, hcard, hctx, hstate]
    · simp [State.abortCard, hcard, hctx, hstate, hkind]
    · simp [State.abortCard, hcard, hctx, hstate, hkind]
  case leader => intro n e hcard; simp [State.abortCard, hcard]
  case calibrate => intro hcard; simp [State.abortCard, hcard]

theorem TransportState.moving_iff (f : TransportState) : f.moving = true ↔ f ≠ .still ∧ f ≠ .faulted := by
  cases f <;> decide

theorem State.endSettle_eq (s : State) : s.endSettle = settleEnded s := by
  unfold State.endSettle settleEnded
  split
  next h => rw [Power.endSettle_of_settling h]; rfl
  next h => rw [Power.endSettle_of_not_settling h]; rfl

theorem working.current {b : CardBody} (h : working s b) : cardCurrent s = true := by
  obtain ⟨hstate, hentered, hfinished, -, -⟩ := h
  simp [cardCurrent, hstate, hentered, hfinished]

theorem working.outcome {b : CardBody} (h : working s b) : s.seq.current.outcome = .good b := h.2.2.2.2

/-- Settles O17. -/
theorem stopAndAbortInRunning : Obligations.StopAndAbortInRunning := by
  intro s u c hrun hc
  obtain ⟨card, hexec, hcard, hload, hu⟩ : ∃ card : State,
      exec c s = .next (if cardCurrent s then card else u.endRun) ∧ CardStops u card ∧
      ((∃ g a n, s.seq.current.outcome = .good (.table g a n)) ∨ (∃ g a, s.seq.current.outcome = .good (.dump g a)) →
        card = if c = .stop then u else u.endRun) ∧
      ∃ a, u = s.setRun { s.run with stopPending := true, abortRecord := a, lastOutcome := .accepted } := by
    rcases hc with ⟨rfl, hstop, hu⟩ | ⟨rfl, hu⟩
    · refine ⟨u.stopCard, ?_, cardStops_stop u, ?_, s.run.abortRecord, hu⟩
      · rw [exec_stop_running hrun hu, if_neg (by simp [hstop])]
      · rintro (⟨g, a, n, hgood⟩ | ⟨g, a, hgood⟩) <;> subst hu <;> simp [State.stopCard, hgood]
    · refine ⟨u.abortCard, exec_abort_running hrun hu, cardStops_abort u, ?_, true, hu⟩
      rintro (⟨g, a, n, hgood⟩ | ⟨g, a, hgood⟩) <;> subst hu <;> simp [State.abortCard, hgood]
  have hworks {b : CardBody} (h : working s b) : exec c s = .next card := by rw [hexec, if_pos h.current]
  obtain ⟨a, rfl⟩ := hu
  refine ⟨fun hnone => by rw [hexec, if_neg (by simp [hnone])], fun k x hk hctx => ?_, fun n e hl => ?_, fun hcal => ?_,
    fun hother => ?_, ?_⟩
  · obtain ⟨hpreparing, hgood, hspoiled⟩ := hcard.frame k x hk.outcome hctx
    refine ⟨fun h => ?_, fun h hkind => ?_, fun h hkind => ?_⟩
    · rw [hworks hk, hpreparing h]
    · rw [hworks hk, hgood h hkind]
    · rw [hworks hk, hspoiled h hkind]; rfl
  · rw [hworks hl, hcard.leader n e hl.outcome, State.setRun_film]
    refine ⟨fun hstill => ?_, fun hstill hfaulted => ?_⟩
    · rw [if_neg (fun h => ?_)]
      obtain ⟨hnotStill, hnotFaulted⟩ := (TransportState.moving_iff _).mp h
      exact hstill.elim hnotStill hnotFaulted
    · rw [if_pos ((TransportState.moving_iff _).mpr ⟨hstill, hfaulted⟩)]
  · rw [hworks hcal, hcard.calibrate hcal.outcome, State.endSettleAndRun, State.endSettle_eq]
  · obtain ⟨b, hb⟩ : ∃ b, working s b := by
      rcases hother with ⟨g, a, n, h⟩ | ⟨g, a, h⟩ <;> exact ⟨_, h⟩
    rw [hworks hb, hload (hother.imp (fun ⟨g, a, n, h⟩ => ⟨g, a, n, h.outcome⟩)
      (fun ⟨g, a, h⟩ => ⟨g, a, h.outcome⟩))]
  · exact exec_stop_again hrun rfl rfl

/-- A spoil without a retake parks the cursor, so that the fetch engine asks for nothing. -/
theorem spoil_of_no_retake {c : FrameCtx} {cause : SpoilCause}
    (h : (c.spoiled cause (spoilLineOf c cause) s.run.stopPending).retakePending = false) :
    s.spoil c cause = { s with
      dp := s.dp.zeroOrder, ring := s.ring.flushed s.ring.cursor.park, film := s.film.finish s.rb .spoiled
      frame := { s.frame with ctx := some (c.spoiled cause (spoilLineOf c cause) s.run.stopPending) } } := by
  simp only [State.spoil, h, State.flushParked_eq]
  rfl

/-- Settles O18. -/
theorem stopAndAbortWhileExposing : Obligations.StopAndAbortWhileExposing := by
  intro s c x hrun hcurrent hgood hctx hstate
  refine ⟨?stop, ?abort⟩
  case stop =>
    rw [exec_stop_running hrun rfl, if_pos hcurrent]
    have hcard : (s.setRun { s.run with stopPending := true, lastOutcome := .accepted }).stopCard =
        s.setRun { s.run with stopPending := true, lastOutcome := .accepted } := by
      simp [State.stopCard, hgood, hctx, hstate]
    rw [hcard, ite_self]
    rfl
  case abort =>
    have hspoiled : x.spoiled .abort (spoilLineOf x .abort) true = { x with
        state := .closing, closeKind := .spoiled, lastSpoil := .abort, spoilLine := x.r - 1, retakePending := false } := by
      simp [FrameCtx.spoiled_eq, afterSpoil, spoilLineOf]
    rw [exec_abort_running hrun rfl, if_pos hcurrent]
    generalize hu : s.setRun { s.run with stopPending := true, abortRecord := true, lastOutcome := .accepted } = u
    have hcard : u.abortCard = u.spoil x .abort := by
      rw [← hu]
      simp [State.abortCard, hgood, hctx, hstate]
    have hstop : u.run.stopPending = true := by rw [← hu]; rfl
    have hspoil := spoil_of_no_retake (s := u) (c := x) (cause := .abort) (by rw [hstop, hspoiled])
    rw [hstop, hspoiled] at hspoil
    refine ⟨_, rfl, ?_⟩
    rw [hcard, hspoil, ← hu]
    exact ⟨rfl, rfl, rfl, rfl, rfl, rfl, by simp, fun hline => Datapath.zeroOrder_of_line (DpMode.line_iff.mpr hline),
      rfl, rfl, rfl, rfl, rfl, rfl, rfl, rfl, rfl, rfl⟩

/-! ## Dark readings (R102, R105, R106) -/

/-- The reading of a conversion that is voided, or whose purpose no longer fits, is discarded. -/
theorem useReading_of_discarded {m : Sample} (h : (m.valid && readingFits s m) = false) (n : Nat) :
    s.useReading m n = s := by
  simp [State.useReading, h]

theorem regulates_iff (s : State) : s.run.state.regulates = true ↔ regulating s := by
  unfold regulating
  cases s.run.state <;> decide

theorem exec_conversionCompletion {c : Conversion} (h : s.power.conversion = some c) (m : BitVec 10) :
    exec (.conversionCompletion m) s = .next (s.conversionOver.useReading c.sample m.toNat) := by
  show execConversionCompletion m s = _
  simp [execConversionCompletion, h, State.conversionOver]

theorem laserDark_of_none (h : s.frame.ctx = none) :
    s.laserDark = if s.film.state = .still then s.halt .laserDark
      else s.setPower { s.power with darkHaltPending := true } := by
  simp [State.laserDark, h]

theorem laserDark_of_preparing {c : FrameCtx} (h : s.frame.ctx = some c) (hstate : c.state = .preparing) :
    s.laserDark = s.halt .laserDark := by simp [State.laserDark, h, hstate]

theorem laserDark_of_exposing {c : FrameCtx} (h : s.frame.ctx = some c) (hstate : c.state = .exposing) :
    s.laserDark = s.spoil c .laserDark := by simp [State.laserDark, h, hstate]

theorem laserDark_of_closing {c : FrameCtx} (h : s.frame.ctx = some c) (hstate : c.state = .closing) :
    s.laserDark = s.setCtx (c.fillHaltAfter .laserDark) := by simp [State.laserDark, h, hstate]

/-- A dark REGULATE reading that fits is counted. -/
theorem exec_darkReading {c : Conversion} (hconversion : s.power.conversion = some c) (hvalid : c.sample.valid = true)
    (hpurpose : c.sample.purpose = .regulate) (hsettled : s.power.state = .settled) (hrun : regulating s) :
    exec (.conversionCompletion 0) s = .next (s.conversionOver.useRegulate c.sample.channel 0) := by
  have hfits : readingFits s.conversionOver c.sample = true := by
    have hregulates : s.conversionOver.run.state.regulates = true := (regulates_iff s).mpr hrun
    have hstate : s.conversionOver.power.state = .settled := hsettled
    simp [readingFits, hpurpose, hregulates, hstate]
  rw [exec_conversionCompletion hconversion, State.useReading, hvalid, hfits]
  simp only [hpurpose]
  rfl

/-- Settles O37. -/
theorem darkAndDiscardedReadings : Obligations.DarkAndDiscardedReadings := by
  refine fun s c hconversion => ⟨fun hdiscarded m => ?discarded, fun hvalid hpurpose hsettled hrun =>
    ⟨fun hcount => ?counted, fun hcount u hu => ?event⟩⟩
  case discarded =>
    have hunfit : (c.sample.valid && readingFits s.conversionOver c.sample) = false := by
      rw [← Bool.not_eq_true, Bool.and_eq_true]
      rintro ⟨hvalid, hfits⟩
      rcases hdiscarded with hvoided | ⟨hpurpose, hunfit⟩ | ⟨hpurpose, hunfit⟩
      · rw [hvoided] at hvalid; contradiction
      · simp only [readingFits, hpurpose, Bool.and_eq_true, beq_iff_eq] at hfits
        exact hunfit.elim (· hfits.1) (· ((regulates_iff s).mp hfits.2))
      · simp only [readingFits, hpurpose, Bool.and_eq_true, beq_iff_eq] at hfits
        exact hunfit.elim (· hfits.1) (· hfits.2)
    rw [exec_conversionCompletion hconversion, useReading_of_discarded hunfit]
    rfl
  case counted =>
    have hcounts : s.conversionOver.power.countDark c.sample.channel =
        ({ s.conversionOver.power with
            dark := s.power.dark.put c.sample.channel (s.power.dark.get c.sample.channel + 1) }, false) := if_neg (by
      show ¬3 ≤ s.power.dark.get c.sample.channel + 1
      omega)
    rw [exec_darkReading hconversion hvalid hpurpose hsettled hrun]
    simp only [State.useRegulate, hcounts]
    rfl
  case event =>
    have hcounts : s.conversionOver.power.countDark c.sample.channel =
        ({ s.conversionOver.power with dark := s.power.dark.put c.sample.channel 0 }, true) := if_pos (by
      show 3 ≤ s.power.dark.get c.sample.channel + 1
      omega)
    have hexec : exec (.conversionCompletion 0) s = .next u.laserDark := by
      rw [exec_darkReading hconversion hvalid hpurpose hsettled hrun, hu]
      simp only [State.useRegulate, hcounts]
      rfl
    have hframe : u.frame = s.frame := by rw [hu]
    have hfilm : u.film = s.film := by rw [hu]
    have hrb : u.rb = s.rb := by rw [hu]
    refine ⟨fun hctx => ?_, fun x hctx => ?_⟩
    · rw [hexec, laserDark_of_none (by rw [hframe, hctx])]
      exact ⟨fun hstill => by rw [if_pos (hfilm ▸ hstill)], fun hstill => by rw [if_neg (hfilm ▸ hstill)]; rfl⟩
    · rw [← hframe] at hctx
      refine ⟨fun hstate => ?_, fun hstate => ?_, fun hstate => ?_⟩
      · rw [hexec, laserDark_of_preparing hctx hstate]
      · rw [hexec, laserDark_of_closing hctx hstate, FrameCtx.fillHaltAfter_eq]; rfl
      · have halike : SameForFrame s u := by rw [hu]; exact ⟨rfl, rfl, rfl, rfl, rfl, rfl, rfl, rfl, .inl⟩
        rw [hexec, laserDark_of_exposing hctx hstate]
        exact ⟨_, rfl, by simp, by simpa using halike.run, halike.attemptSpoiled x .laserDark,
          by rw [(u.spoil_does x .laserDark).2.1, hfilm, hrb]⟩

end Sys2Proof.Machine

/-! PROOF. The stages of an SOS event (R80 to R94), each said once over the state that the event finds, and the line event
as it reaches Frame Exposure and the Power Regulator: O23 to O27. -/

namespace Sys2Proof.Machine

variable {s t u : State}

/-! ## The event up to the facet (R80, R81, R84) -/

theorem exec_sosEvent_of_stopped (hlevel : s.scan.sosLevel = false) (hrunning : s.scan.running = false) :
    exec .sosEvent s = .next (s.setScan { s.scan with sosLevel := true, sosRun := 0 }) := by
  show execSosEvent s = _
  simp [execSosEvent, hlevel, hrunning]

theorem exec_sosEvent_of_running (hlevel : s.scan.sosLevel = false) (hrunning : s.scan.running = true) :
    exec .sosEvent s = .next (s.setScan { s.scan with sosLevel := true, sosRun := 0 }).sosStages := by
  show execSosEvent s = _
  simp [execSosEvent, hlevel, hrunning]

/-- The scan of an SOS with the counters reloaded (R80, R81). -/
def sosTaken (s : State) : ScanTiming :=
  { s.scan with
    sosLevel := true, sosRun := 0, interval := 1048575, intervalValid := true
    watchdog := some s.rb.polygon.watchdog }

/-- The stages of an SOS from the facet on. -/
def State.sosFrom (u s : State) : State :=
  ((u.facetStage s.scan.lock).judgeStages s.scan.lock s.scan.facet (capturedInterval s.scan)).lineStage

theorem overlapStage_of_none (h : s.scan.window = .none) : s.overlapStage = s := by simp [State.overlapStage, h]

theorem exec_sosEvent_eq (hlevel : s.scan.sosLevel = false) (hrunning : s.scan.running = true) :
    exec .sosEvent s = .next ((s.setScan (sosTaken s)).overlapStage.sosFrom s) :=
  exec_sosEvent_of_running hlevel hrunning

/-- An SOS with no line in its windows. -/
theorem exec_sosEvent (hlevel : s.scan.sosLevel = false) (hrunning : s.scan.running = true) (hwindow : s.scan.window = .none) :
    exec .sosEvent s = .next ((s.setScan (sosTaken s)).sosFrom s) := by
  rw [exec_sosEvent_eq hlevel hrunning, overlapStage_of_none (s := s.setScan (sosTaken s)) hwindow]

theorem exec_sosEvent_of_ready (h : sosReady s) : exec .sosEvent s = .next ((s.setScan (sosTaken s)).sosFrom s) :=
  exec_sosEvent h.2.1 h.1 h.2.2.1

theorem capturedInterval_eq (h : s.scan.intervalValid = true) : capturedInterval s.scan = some (sosInterval s) := by
  rw [capturedInterval, if_pos h]; rfl

theorem lineStage_of_not_locked (h : s.scan.lock ≠ .locked) : s.lineStage = s := by
  unfold State.lineStage
  split
  next hlocked => exact absurd hlocked h
  next => rfl

/-- Settles O23. -/
theorem sosBeforeLocking : Obligations.SosBeforeLocking := by
  refine fun s hlevel hwindows => ⟨fun hstopped => exec_sosEvent_of_stopped hlevel hstopped, fun hrunning hlock => ?stopped,
    fun hrunning hlock hindex => ?spinning, fun hrunning hlock hindex => ?locking⟩
  all_goals
    have hwindow : s.scan.window = .none := by
      by_contra hline
      rw [hwindows hline] at hlock
      contradiction
    rw [exec_sosEvent hlevel hrunning hwindow]
    unfold State.sosFrom
    rw [hlock]
  case stopped =>
    rw [State.facetStage, State.judgeStages, lineStage_of_not_locked (by simp)]
    rfl
  case spinning =>
    rw [State.facetStage, if_neg (by simp [sosTaken, hindex]), State.judgeStages,
      lineStage_of_not_locked (by simp [sosTaken, hlock])]
    rfl
  case locking =>
    rw [State.facetStage, if_pos (by simpa [sosTaken] using hindex), State.judgeStages, lineStage_of_not_locked (by simp)]
    rfl

/-! ## The facet and its average (R84, R85) -/

/-- An interval gathered into a revolution record, which a facet violation makes bad (R85, R87). -/
def gathered (s : State) (bad : Bool) (v : Revolution) : Revolution :=
  { sum := v.sum + sosInterval s, intervals := v.intervals + 1, bad := v.bad || bad }

theorem gathered_false (s : State) :
    gathered s false = fun v => { v with sum := v.sum + sosInterval s, intervals := v.intervals + 1 } := by
  funext v; simp [gathered]

theorem gathered_true (s : State) :
    gathered s true = fun v => { sum := v.sum + sosInterval s, intervals := v.intervals + 1, bad := true } := by
  funext v; simp [gathered]

/-- The scan of an SOS in LOCKING or LOCKED that has come to a facet. -/
def sosFaced (s : State) (facet : Nat) : ScanTiming := { sosTaken s with facet := facet, indexPending := false }

/-- The same with the interval gathered and the departing facet's average moved (R85, R87). -/
def sosFit (s : State) (facet : Nat) : ScanTiming :=
  { sosFaced s facet with
    averages := averagesAfterSos s, rev := s.scan.rev.map (gathered s false) }

/-- The same after a facet violation. -/
def sosMisfit (s : State) (facet : Nat) : ScanTiming := { sosFaced s facet with rev := s.scan.rev.map (gathered s true) }

theorem facetStage_of_no_slip (u : State) {l : LockState} (h : l = .locking ∨ l = .locked)
    (hslip : isSlip u.scan u.rb.polygon.facets = false) :
    u.facetStage l = u.setScan { u.scan with facet := facetAfter u.scan u.rb.polygon.facets, indexPending := false } := by
  rcases h with rfl | rfl <;> simp [State.facetStage, hslip]

theorem facetStage_of_slip (u : State) {l : LockState} (h : l = .locking ∨ l = .locked)
    (hslip : isSlip u.scan u.rb.polygon.facets = true) :
    u.facetStage l =
      (u.setScan { u.scan with facet := facetAfter u.scan u.rb.polygon.facets, indexPending := false }).slip := by
  rcases h with rfl | rfl <;> simp [State.facetStage, hslip]

theorem judgeStages_eq (u : State) {l : LockState} (h : l = .locking ∨ l = .locked) (d i : Nat) :
    u.judgeStages l d (some i) = (u.averageStage d i).revolutionStage := by
  rcases h with rfl | rfl <;> rfl

theorem smoothed_eq (a i : Nat) : smoothed a i = ((a : Int) + ((i : Int) - a).fdiv 16).toNat := by
  rw [smoothed, Int.fdiv_eq_ediv_of_nonneg _ (by norm_num)]

theorem violates_iff : violates (departingAverage s) (sosInterval s) s.rb.polygon.window = true ↔ ¬intervalFits s := by
  simp [violates, intervalFits]

/-- The interval of an SOS applied to the departing facet's average (R85, R87). -/
theorem averageStage_of_fits (haverages : u.scan.averages = s.scan.averages) (hrb : u.rb = s.rb) (h : intervalFits s) :
    u.averageStage s.scan.facet (sosInterval s) =
      u.setScan { u.scan with averages := averagesAfterSos s, rev := u.scan.rev.map (gathered s false) } := by
  have haverage : u.scan.average s.scan.facet = departingAverage s := by rw [ScanTiming.average, haverages]; rfl
  unfold State.averageStage
  simp only [haverage, hrb]
  rw [if_neg (fun hviolates => violates_iff.mp hviolates h), haverages, smoothed_eq, ScanTiming.gather, gathered_false]
  rfl

theorem averageStage_of_violation (haverages : u.scan.averages = s.scan.averages) (hrb : u.rb = s.rb)
    (h : ¬intervalFits s) :
    u.averageStage s.scan.facet (sosInterval s) =
      (u.setScan { u.scan with rev := u.scan.rev.map (gathered s true) }).failLock := by
  have haverage : u.scan.average s.scan.facet = departingAverage s := by rw [ScanTiming.average, haverages]; rfl
  unfold State.averageStage
  simp only [haverage, hrb]
  rw [if_pos (violates_iff.mpr h), ScanTiming.markBad, ScanTiming.gather, Option.map_map, gathered_true]
  rfl

theorem failLock_of_locked {c : ScanTiming} (h : c.lock = .locked) :
    (s.setScan c).failLock = (s.setScan { c with lock := .locking }).reportLoss := by
  rw [State.failLock, if_pos (by simpa using h), loseLock_eq]
  rfl

theorem failLock_of_not_locked (h : s.scan.lock ≠ .locked) : s.failLock = s := by simp [State.failLock, h]

theorem revolutionStage_of_facet (h : s.scan.facet ≠ 0) : s.revolutionStage = s := by
  unfold State.revolutionStage
  split
  · rw [if_neg h]
  · rfl

/-! ## An SOS in mid-revolution (R84, R85) -/

/-- An SOS in LOCKING or LOCKED that is no slip. -/
theorem sosFrom_of_no_slip (u s : State) (h : s.scan.lock = .locking ∨ s.scan.lock = .locked)
    (hvalid : s.scan.intervalValid = true) (hslip : isSlip u.scan u.rb.polygon.facets = false) {facet : Nat}
    (hafter : facetAfter u.scan u.rb.polygon.facets = facet) {v : State}
    (hv : u.setScan { u.scan with facet := facet, indexPending := false } = v) :
    u.sosFrom s = (v.averageStage s.scan.facet (sosInterval s)).revolutionStage.lineStage := by
  rw [State.sosFrom, facetStage_of_no_slip u h hslip, hafter, hv, capturedInterval_eq hvalid, judgeStages_eq _ h]

theorem sosFrom_of_slip (u s : State) (h : s.scan.lock = .locking ∨ s.scan.lock = .locked)
    (hvalid : s.scan.intervalValid = true) (hslip : isSlip u.scan u.rb.polygon.facets = true) {facet : Nat}
    (hafter : facetAfter u.scan u.rb.polygon.facets = facet) {v : State}
    (hv : u.setScan { u.scan with facet := facet, indexPending := false } = v) :
    u.sosFrom s = (v.slip.averageStage s.scan.facet (sosInterval s)).revolutionStage.lineStage := by
  rw [State.sosFrom, facetStage_of_slip u h hslip, hafter, hv, capturedInterval_eq hvalid, judgeStages_eq _ h]

theorem sosFrom_mid (u s : State) (h : s.scan.lock = .locking ∨ s.scan.lock = .locked) (hmid : midRevolution s)
    (hvalid : s.scan.intervalValid = true) (hfacet : u.scan.facet = s.scan.facet) (hindex : u.scan.indexPending = false)
    (hrb : u.rb = s.rb) {v : State} (hv : u.setScan { u.scan with facet := s.scan.facet + 1, indexPending := false } = v) :
    u.sosFrom s = (v.averageStage s.scan.facet (sosInterval s)).revolutionStage.lineStage := by
  have hnext : nextFacet u.scan u.rb.polygon.facets = s.scan.facet + 1 := by
    rw [nextFacet, hfacet, hrb, Nat.mod_eq_of_lt hmid.2]
  exact sosFrom_of_no_slip u s h hvalid (by simp [isSlip, hindex, hnext]) (by simp [facetAfter, hindex, hnext]) hv

/-- In mid-revolution the scan comes to the next facet, with its interval applied. -/
theorem exec_sosEvent_mid_fits (hready : sosReady s) (h : s.scan.lock = .locking ∨ s.scan.lock = .locked)
    (hmid : midRevolution s) (hfits : intervalFits s) :
    exec .sosEvent s = .next (s.setScan (sosFit s (s.scan.facet + 1))).lineStage := by
  rw [exec_sosEvent_of_ready hready, sosFrom_mid (s.setScan (sosTaken s)) s h hmid hready.2.2.2 rfl hmid.1 rfl
    (v := s.setScan (sosFaced s (s.scan.facet + 1))) rfl]
  rw [averageStage_of_fits (u := s.setScan (sosFaced s (s.scan.facet + 1))) (s := s) rfl rfl hfits,
    revolutionStage_of_facet (by simp [sosFaced])]
  rfl

theorem exec_sosEvent_mid_violation (hready : sosReady s) (h : s.scan.lock = .locking ∨ s.scan.lock = .locked)
    (hmid : midRevolution s) (hfits : ¬intervalFits s) :
    exec .sosEvent s = .next (s.setScan (sosMisfit s (s.scan.facet + 1))).failLock := by
  rw [exec_sosEvent_of_ready hready, sosFrom_mid (s.setScan (sosTaken s)) s h hmid hready.2.2.2 rfl hmid.1 rfl
    (v := s.setScan (sosFaced s (s.scan.facet + 1))) rfl]
  rw [averageStage_of_violation (u := s.setScan (sosFaced s (s.scan.facet + 1))) (s := s) rfl rfl hfits]
  show Host.Outcome.next ((s.setScan (sosMisfit s (s.scan.facet + 1))).failLock.revolutionStage.lineStage) = _
  have hlock := State.failLock_not_locked (s.setScan (sosMisfit s (s.scan.facet + 1)))
  have hfacet : (s.setScan (sosMisfit s (s.scan.facet + 1))).failLock.scan.facet ≠ 0 := by
    unfold State.failLock
    split <;> simp [sosMisfit, sosFaced]
  rw [revolutionStage_of_facet hfacet, lineStage_of_not_locked hlock]

theorem sosFit_of_mid (hmid : midRevolution s) :
    sosFit s (s.scan.facet + 1) = { scanAfterSos s with averages := averagesAfterSos s } := by
  simp [sosFit, sosFaced, sosTaken, scanAfterSos, hmid.1, gathered_false]

theorem spoiledRevolution_eq (s : State) : spoiledRevolution s = s.scan.rev.map (gathered s true) := by
  simp [spoiledRevolution, gathered_true]

theorem sosMisfit_of_mid (hmid : midRevolution s) :
    sosMisfit s (s.scan.facet + 1) = { scanAfterSos s with rev := spoiledRevolution s } := by
  simp [sosMisfit, sosFaced, sosTaken, scanAfterSos, hmid.1, spoiledRevolution_eq]

end Sys2Proof.Machine

/-! PROOF. The line event in the Power Regulator and in Frame Exposure (R7, R9 to R14, R90 to R92, R101), and what an SOS in
LOCKED does: O24 to O27, O29. -/

namespace Sys2Proof.Machine

variable {s t u v : State}

/-! ## The line event in the Power Regulator (R101) -/

theorem channelAfter_place (c : Channel) : channelPlace (channelAfter c) = (channelPlace c + 1) % 3 := by
  cases c <;> rfl

theorem regulatorLine_unmarked (h : v.power.gateOpen = false ∨ v.power.state = .unsettled ∨
    (v.power.state = .settled ∧ ¬regulating v) ∨ (v.power.state = .settling ∧ v.power.settle.waiting = true)) :
    v.regulatorLine = (v, false) := by
  unfold State.regulatorLine
  split
  next hopen =>
    rcases h with hclosed | hstate | ⟨hstate, hrun⟩ | ⟨hstate, hwaiting⟩
    · rw [hclosed] at hopen; contradiction
    · rw [hstate]
    · rw [hstate]
      exact if_neg (fun hregulates => hrun ((regulates_iff v).mp hregulates))
    · rw [hstate]
      exact if_pos hwaiting
  next => rfl

theorem regulatorLine_of_settling (hopen : v.power.gateOpen = true) (hstate : v.power.state = .settling)
    (hwaiting : v.power.settle.waiting = false) :
    v.regulatorLine = (v.markLine v.power.settle.channel .settle, true) := by
  simp [State.regulatorLine, hopen, hstate, hwaiting]

theorem regulatorLine_of_settled (hopen : v.power.gateOpen = true) (hstate : v.power.state = .settled)
    (hrun : regulating v) : v.regulatorLine = v.regulateLine := by
  simp [State.regulatorLine, hopen, hstate, (regulates_iff v).mpr hrun]

/-- A line event touches nothing but the Regulator and the monitor request (R42, R101). -/
theorem regulatorLine_dp (v : State) :
    v.regulatorLine.1.dp = { v.dp with monitorRequest := v.regulatorLine.1.dp.monitorRequest } := by
  unfold State.regulatorLine State.regulateLine State.markLine
  repeat' split
  all_goals rfl

/-- What the Regulator makes of a line event at v is what R101 says of one at s, where both find the same. -/
theorem regulatorTakesLine_of (hpower : v.power = s.power) (hrun : v.run = s.run) (hrb : v.rb = s.rb)
    (hrequest : v.dp.monitorRequest = s.dp.monitorRequest) (tpower : t.power = v.regulatorLine.1.power)
    (trequest : t.dp.monitorRequest = v.regulatorLine.1.dp.monitorRequest) (tmark : t.scan.mark = v.regulatorLine.2) :
    regulatorTakesLine s t := by
  have hregulating : regulating v ↔ regulating s := by rw [regulating, hrun]; rfl
  unfold regulatorTakesLine
  rw [tpower, trequest, tmark, ← hrb, ← hpower, ← hrequest, ← hregulating]
  refine ⟨fun hopen hstate hregulates => ⟨fun hcadence => ?_, fun hcadence => ?_⟩, fun hopen hstate hwaiting => ?_,
    fun hunmarked => ?_⟩
  · rw [regulatorLine_of_settled hopen hstate hregulates, State.regulateLine, if_neg (by omega)]
    exact ⟨rfl, rfl, rfl⟩
  · rw [regulatorLine_of_settled hopen hstate hregulates, State.regulateLine, if_pos hcadence]
    exact ⟨rfl, rfl, channelAfter_place _, rfl⟩
  · rw [regulatorLine_of_settling hopen hstate hwaiting]
    exact ⟨rfl, rfl, rfl⟩
  · rw [regulatorLine_unmarked hunmarked]
    exact ⟨rfl, rfl, rfl⟩

/-! ## The line event in Frame Exposure (R7, R9 to R11, R14) -/

theorem primed_iff (s : State) (c : FrameCtx) : primed s c = true ↔ ringPrimed s c := by
  simp [primed, ringPrimed, FrameCtx.attemptId, attemptOf]

theorem frameLine_of_unheeded (h : lineUnheeded s) : s.frameLine = s := by
  unfold State.frameLine
  split
  · rfl
  next c hctx =>
    rcases h c hctx with hclosing | ⟨hpreparing, hnot⟩
    · rw [hclosing]
    · rw [hpreparing]
      refine if_neg (fun hstarts => ?_)
      rw [Bool.and_eq_true, beq_iff_eq, primed_iff] at hstarts
      exact hnot.elim (· hstarts.1) (· hstarts.2)

theorem frameLine_of_exposing {c : FrameCtx} (hctx : s.frame.ctx = some c) (hstate : c.state = .exposing) :
    s.frameLine = s.exposeLine c := by
  simp [State.frameLine, hctx, hstate]

theorem frameLine_of_primed {c : FrameCtx} (hctx : s.frame.ctx = some c) (hstate : c.state = .preparing)
    (hrun : s.run.state = .running) (hprimed : ringPrimed s c) :
    s.frameLine = (s.setFilm (s.film.beginScan s.rb c.card.noEdge)).exposeLine
      (c.toExposing s.film.counter (anyLimited s.power.limited)) := by
  simp [State.frameLine, hctx, hstate, hrun, (primed_iff s c).mpr hprimed]

theorem Datapath.zeroOrder_monitorRequest (d : Datapath) : d.zeroOrder.monitorRequest = d.monitorRequest := by
  unfold Datapath.zeroOrder
  split <;> rfl

theorem exposeLine_monitorRequest (s : State) (c : FrameCtx) :
    (s.exposeLine c).dp.monitorRequest = s.dp.monitorRequest := by
  unfold State.exposeLine
  dsimp only
  split
  · split
    · rfl
    · rw [(s.spoil_does _ _).1, Datapath.zeroOrder_monitorRequest]
  · rfl

theorem frameLine_monitorRequest (s : State) : s.frameLine.dp.monitorRequest = s.dp.monitorRequest := by
  unfold State.frameLine
  split
  · rfl
  · split
    · split
      · rw [exposeLine_monitorRequest]; rfl
      · rfl
    · exact exposeLine_monitorRequest _ _
    · rfl

/-! ## The stage of the line (R90 to R92) -/

theorem lineStage_of_locked (h : u.scan.lock = .locked) :
    u.lineStage = u.frameLine.regulatorLine.1.setScan { u.scan with
      window := .pixelWait, mark := u.frameLine.regulatorLine.2, windowTimer := some (windowOffset u) } := by
  unfold State.lineStage
  rw [h]
  simp

/-- The line event of a state that differs from s in its scan alone: the line scheduled, the Regulator's part, and what
Frame Exposure has made of it. -/
theorem lineStage_does {c : ScanTiming} (hlock : c.lock = .locked) (ht : (s.setScan c).lineStage = t) :
    t.scan = { c with
      window := .pixelWait, mark := t.scan.mark, windowTimer := some (windowOffset (s.setScan c)) } ∧
    regulatorTakesLine s t ∧
    t = { (s.setScan c).frameLine with
      scan := t.scan, power := t.power
      dp := { (s.setScan c).frameLine.dp with monitorRequest := t.dp.monitorRequest } } := by
  have hstage := ht.symm.trans (lineStage_of_locked (u := s.setScan c) hlock)
  refine ⟨by rw [hstage]; rfl, ?_, ?_⟩
  · refine regulatorTakesLine_of (v := (s.setScan c).frameLine) (by simp) (by simp) (by simp)
      (by rw [frameLine_monitorRequest]; rfl) ?_ ?_ ?_ <;> rw [hstage] <;> rfl
  · rw [hstage]
    refine State.eq_of_fields (by simp) (by simp) (by simp) (by simp) (by simp) (by simp) (by simp) (by simp) ?_ (by simp)
      rfl rfl (by simp) (by simp) (by simp) (by simp)
    exact regulatorLine_dp _

theorem windowOffset_eq {c : ScanTiming} (hlength : s.tables.active.facet.valid = true →
    s.tables.active.facet.words.length = 16) (hfacet : c.facet < 16) :
    windowOffset (s.setScan c) = (pixelOffset s c.facet).toNat := by
  have htrim : facetTrim s.tables c.facet =
      if s.tables.active.facet.valid then (s.tables.active.facet.words.getD c.facet 0).toInt else 0 := by
    unfold facetTrim
    split
    next hvalid => rw [ActiveCopy.word_of_lt (by rw [hlength hvalid]; exact hfacet)]
    next => rfl
  simp only [windowOffset, pixelOffset, State.setScan_tables, State.setScan_scan, State.setScan_rb, htrim]
  rfl

/-- A line event in mid-revolution schedules one line (R84, R85, R87, R92). -/
theorem lineScheduled_of (hmid : midRevolution s)
    (hscan : t.scan = { sosFit s (s.scan.facet + 1) with
      window := .pixelWait, mark := t.scan.mark
      windowTimer := some (windowOffset (s.setScan (sosFit s (s.scan.facet + 1)))) }) : lineScheduled s t := by
  refine ⟨by rw [hscan], fun hlength hfacet => ?_⟩
  have hoffset := windowOffset_eq (c := sosFit s (s.scan.facet + 1)) hlength (by show s.scan.facet + 1 < 16; omega)
  rw [hscan, hoffset, sosFit_of_mid hmid]
  rfl

/-- An SOS in LOCKED, in mid-revolution, with an interval that fits. -/
theorem exec_sosEvent_line (hready : sosReady s) (hlock : s.scan.lock = .locked) (hfits : intervalFits s)
    (hmid : midRevolution s) :
    ∃ t, exec .sosEvent s = .next t ∧ lineScheduled s t ∧ t.scan.lock = .locked ∧ regulatorTakesLine s t ∧
      t = { (s.setScan (sosFit s (s.scan.facet + 1))).frameLine with
        scan := t.scan, power := t.power
        dp := { (s.setScan (sosFit s (s.scan.facet + 1))).frameLine.dp with monitorRequest := t.dp.monitorRequest } } := by
  refine ⟨_, exec_sosEvent_mid_fits hready (.inr hlock) hmid hfits, ?_⟩
  obtain ⟨hscan, hregulator, hrest⟩ := lineStage_does (s := s) (c := sosFit s (s.scan.facet + 1)) hlock rfl
  exact ⟨lineScheduled_of hmid hscan, by rw [hscan]; exact hlock, hregulator, hrest⟩

theorem lineUnheeded_setScan (h : lineUnheeded s) (c : ScanTiming) : lineUnheeded (s.setScan c) := h

/-- Settles O24. -/
theorem sosInMidRevolution : Obligations.SosInMidRevolution := by
  refine fun s hready hmid => ⟨fun hlock hfits => ?_, fun hlock hfits => ?_, fun hlock hfits hunheeded => ?_⟩
  · rw [exec_sosEvent_mid_fits hready (.inl hlock) hmid hfits, sosFit_of_mid hmid,
      lineStage_of_not_locked (by simp [scanAfterSos, hlock])]
    rfl
  · rw [exec_sosEvent_mid_violation hready (.inl hlock) hmid hfits, sosMisfit_of_mid hmid,
      failLock_of_not_locked (by simp [scanAfterSos, hlock])]
    rfl
  · obtain ⟨t, hexec, hline, -, hregulator, hrest⟩ := exec_sosEvent_line hready hlock hfits hmid
    rw [frameLine_of_unheeded (lineUnheeded_setScan hunheeded _)] at hrest
    exact ⟨t, hexec, hline, hregulator, hrest⟩

/-- Settles O25. -/
theorem sosMarksEveryNthLine : Obligations.SosMarksEveryNthLine := by
  intro s hready hlock hfits hmid hunheeded hopen
  obtain ⟨t, hexec, ⟨hwindow, -⟩, -, ⟨hsettled, hsettling, -⟩, hrest⟩ := exec_sosEvent_line hready hlock hfits hmid
  rw [frameLine_of_unheeded (lineUnheeded_setScan hunheeded _)] at hrest
  have hdp {r : Option Channel} (hrequest : t.dp.monitorRequest = r) : t.dp = { s.dp with monitorRequest := r } := by
    rw [hrest, ← hrequest]; rfl
  refine ⟨t, hexec, hwindow, fun hstate hregulating => ?_, fun hstate hwaiting => ?_, ?_⟩
  · obtain ⟨hcounts, hmarks⟩ := hsettled hopen hstate hregulating
    refine ⟨fun hcadence => ?_, fun hcadence => ?_⟩
    · obtain ⟨hmark, hpower, hrequest⟩ := hcounts hcadence
      exact ⟨hmark, hpower, hdp hrequest⟩
    · obtain ⟨hmark, hrequest, hnext, hpower⟩ := hmarks hcadence
      exact ⟨hmark, hpower, hnext, hdp hrequest⟩
  · obtain ⟨hmark, hrequest, hpower⟩ := hsettling hopen hstate hwaiting
    exact ⟨hmark, hdp hrequest, hpower⟩
  · rw [hrest]
    exact ⟨rfl, rfl, rfl, rfl, rfl, rfl, rfl⟩

/-! ## The loss of LOCKED at an SOS (R85, R89, R94) -/

/-- Settles O26. -/
theorem violationLosesTheLock : Obligations.ViolationLosesTheLock := by
  intro s hready hlock hmid haverage hviolates
  have hfits : ¬intervalFits s := fun h => h.elim haverage (fun hwithin => by omega)
  rw [exec_sosEvent_mid_violation hready (.inr hlock) hmid hfits,
    failLock_of_locked (c := sosMisfit s (s.scan.facet + 1)) hlock, sosMisfit_of_mid hmid]
  generalize hu : s.setScan _ = u
  have hscan : u.scan = { scanAfterSos s with lock := .locking, rev := spoiledRevolution s } := by rw [← hu]; rfl
  have halike : SameForFrame s u := by rw [← hu]; exact (SameForFrame.refl s).setScan _
  obtain ⟨hframe, hsettle⟩ := halike.reportLoss (by rw [← hu]; rfl)
  have hwindow : u.scan.window ≠ .monitor := by rw [hscan]; simp [scanAfterSos, hready.2.2.1]
  refine ⟨_, rfl, by rw [State.reportLoss_scan, hscan], reportLoss_gateOpen (by rw [hscan]; nofun), hsettle,
    by rw [reportLoss_marked hwindow, ← hu]; rfl, fun hctx => ?_, hframe, fun hctx => ?_, ?_, ?_, ?_⟩
  · rw [State.reportLoss_dp, frameLockLost_of_none (by rw [halike.frame, hctx]), ← hu]; rfl
  · rw [← halike.frame] at hctx
    obtain ⟨hregs, hdeck⟩ := frameLockLost_kept hctx
    rw [State.reportLoss_regs, State.reportLoss_deck, hregs, hdeck, ← hu]
    exact ⟨rfl, rfl⟩
  · rw [State.reportLoss_rb, ← hu]; rfl
  · rw [State.reportLoss_seq, ← hu]; rfl
  · rw [State.reportLoss_tables, ← hu]; rfl

end Sys2Proof.Machine

/-! PROOF. An SOS that ends a revolution, finds a slip or finds the previous line in its windows (R84, R87 to R89, R94,
R98, R110, R160): O27 and O28. -/

namespace Sys2Proof.Machine

variable {s t u v : State}

/-! ## The average and the revolution once the lock is not LOCKED (R85, R87) -/

theorem averageStage_of_unlocked (haverages : u.scan.averages = s.scan.averages) (hrb : u.rb = s.rb)
    (hlock : u.scan.lock ≠ .locked) :
    ∃ averages bad,
      u.averageStage s.scan.facet (sosInterval s) =
        u.setScan { u.scan with averages := averages, rev := u.scan.rev.map (gathered s bad) } ∧
      (intervalFits s → averages = averagesAfterSos s ∧ bad = false) ∧
      (¬intervalFits s → averages = s.scan.averages ∧ bad = true) := by
  by_cases hfits : intervalFits s
  · exact ⟨_, false, averageStage_of_fits haverages hrb hfits, fun _ => ⟨rfl, rfl⟩, fun h => absurd hfits h⟩
  · refine ⟨u.scan.averages, true, ?_, fun h => absurd h hfits, fun _ => ⟨haverages, rfl⟩⟩
    rw [averageStage_of_violation haverages hrb hfits, failLock_of_not_locked (by simpa using hlock)]

/-- The revolution newly begun at a facet-0 SOS. -/
def freshRevolution (c : ScanTiming) : ScanTiming := { c with rev := some { sum := 0, intervals := 0, bad := false } }

/-- The scan after a bad revolution (R87). -/
def badRevolution (c : ScanTiming) : ScanTiming :=
  { freshRevolution c with goodCount := 0, averages := List.replicate 16 0 }

theorem revolutionGood_iff (s : State) (bad : Bool) (r : Revolution) :
    revolutionGood (gathered s bad r) s.rb.polygon = true ↔
      bad = false ∧ r.bad = false ∧ r.intervals + 1 = s.rb.polygon.facets ∧
      ((r.sum + sosInterval s : Nat) - (s.rb.polygon.period : Int)).natAbs ≤ s.rb.polygon.tolerance := by
  simp only [revolutionGood, gathered, Bool.and_eq_true, Bool.not_eq_true', Bool.or_eq_false_iff, beq_iff_eq]
  exact ⟨fun ⟨⟨⟨hr, hb⟩, hcount⟩, hsum⟩ => ⟨hb, hr, hcount, of_decide_eq_true hsum⟩,
    fun ⟨hb, hr, hcount, hsum⟩ => ⟨⟨⟨hr, hb⟩, hcount⟩, decide_eq_true hsum⟩⟩

theorem revolutionStage_of_rev {r : Revolution} (hfacet : u.scan.facet = 0) (hrev : u.scan.rev = some r) :
    u.revolutionStage = u.checkRevolution r := by
  simp [State.revolutionStage, hrev, hfacet]

theorem revolutionStage_of_bad {r : Revolution} (hfacet : u.scan.facet = 0) (hrev : u.scan.rev = some r)
    (hbad : revolutionGood r u.rb.polygon = false) :
    u.revolutionStage = (u.setScan (badRevolution u.scan)).failLock := by
  rw [revolutionStage_of_rev hfacet hrev, State.checkRevolution, if_neg (by simp [hbad])]
  rfl

theorem revolutionStage_of_good_locked {r : Revolution} (hfacet : u.scan.facet = 0) (hrev : u.scan.rev = some r)
    (hgood : revolutionGood r u.rb.polygon = true) (hlock : u.scan.lock = .locked) :
    u.revolutionStage = u.setScan (freshRevolution u.scan) := by
  rw [revolutionStage_of_rev hfacet hrev, State.checkRevolution, if_pos hgood]
  split
  next hlocking => rw [hlock] at hlocking; contradiction
  next => rfl

theorem revolutionStage_of_good_locking {r : Revolution} (hfacet : u.scan.facet = 0) (hrev : u.scan.rev = some r)
    (hgood : revolutionGood r u.rb.polygon = true) (hlock : u.scan.lock = .locking)
    (hv : u.setScan { freshRevolution u.scan with goodCount := u.scan.goodCount + 1 } = v) :
    u.revolutionStage = if u.scan.goodCount + 1 = u.rb.polygon.goodRevs then v.gainLock else v := by
  subst hv
  rw [revolutionStage_of_rev hfacet hrev, State.checkRevolution, if_pos hgood]
  split
  next => rfl
  next hother => exact absurd hlock hother

/-- A facet-0 SOS once the lock is not LOCKED, with a revolution that is not good. -/
theorem judged_of_bad_unlocked {r : Revolution} (haverages : u.scan.averages = s.scan.averages) (hrb : u.rb = s.rb)
    (hlock : u.scan.lock ≠ .locked) (hfacet : u.scan.facet = 0) (hrev : u.scan.rev = some r)
    (hbad : ∀ b, (¬intervalFits s → b = true) → revolutionGood (gathered s b r) s.rb.polygon = false) :
    (u.averageStage s.scan.facet (sosInterval s)).revolutionStage.lineStage = u.setScan (badRevolution u.scan) := by
  obtain ⟨averages, b, haverage, -, hmisfit⟩ := averageStage_of_unlocked haverages hrb hlock
  rw [haverage, revolutionStage_of_bad (r := gathered s b r) (by simpa using hfacet) (by simp [hrev])
    (by rw [State.setScan_rb, hrb]; exact hbad b (fun h => (hmisfit h).2)), failLock_of_not_locked (by exact hlock),
    lineStage_of_not_locked (by exact hlock)]
  rfl

/-! ## A line overlap (R94) and a slip (R84) -/

theorem overlapStage_of_line (h : u.scan.window ≠ .none) :
    u.overlapStage = (u.cutLine.setScan u.cutLine.scan.markBad).failLock := by
  unfold State.overlapStage
  split
  next hnone => exact absurd hnone h
  next => rfl

/-- A loss of LOCKED at s, with what the SOS makes of the scan afterwards. -/
theorem SameForFrame.lostAt (h : SameForFrame s u) (hview : u.power.settleView = s.power.settleView)
    (hlock : u.scan.lock ≠ .locked) {c : ScanTiming} (ht : t = u.reportLoss.setScan c) :
    t.power.gateOpen = false ∧ settleLosesLock s t ∧ Machine.frameLosesLock s t := by
  obtain ⟨hframe, hsettle⟩ := h.reportLoss hview
  subst ht
  exact ⟨reportLoss_gateOpen hlock, hsettle, hframe⟩

/-- The scan after an overlap has lost LOCKED, before its facet (R94). -/
def overlapScan (s : State) : ScanTiming :=
  { sosTaken s with
    lock := .locking, window := .none, mark := false, windowTimer := none
    rev := s.scan.rev.map fun r => { r with bad := true } }

/-- An overlap in LOCKED cuts the line and loses the lock. -/
theorem overlapStage_of_locked (hlock : s.scan.lock = .locked) (hline : s.scan.window ≠ .none) :
    ∃ w, (s.setScan (sosTaken s)).overlapStage = w.reportLoss ∧ w.scan = overlapScan s ∧ SameForFrame s w ∧
      w.power.settleView = s.power.settleView ∧ w.power.marked = none ∧ w.tables = s.tables ∧
      (s.scan.window = .pixel ∨ s.scan.window = .monitor → w.dp.mode = .idle ∧ w.dp.drive = .all 0) := by
  have hcut := cutLine_of_line (s := s.setScan (sosTaken s)) hline
  have hsame := sameForFrame_cutLine (s.setScan (sosTaken s))
  rw [overlapStage_of_line (u := s.setScan (sosTaken s)) hline, hcut, failLock_of_locked (by exact hlock)]
  rw [hcut] at hsame
  exact ⟨_, rfl, rfl, ⟨hsame.run, hsame.rb, hsame.frame, hsame.ring, hsame.film, hsame.seq, hsame.bus, hsame.nextId,
    hsame.dark⟩, rfl, rfl, rfl, fun hopen => cut_of_open hopen s.dp⟩

theorem slip_of_locked {c : ScanTiming} (h : c.lock = .locked) :
    (s.setScan c).slip = (s.setScan { c.markBad with lock := .locking }).reportLoss := by
  rw [State.slip, if_pos (by simpa using h)]
  exact failLock_of_locked (s := s) (c := c.markBad) h

theorem slip_of_not_locked {c : ScanTiming} (h : c.lock ≠ .locked) :
    (s.setScan c).slip = s.setScan { c.markBad with goodCount := 0 } := by
  rw [State.slip, if_neg (by simpa using h)]
  rfl

/-- Settles O27. -/
theorem overlapAndSlipLoseTheLock : Obligations.OverlapAndSlipLoseTheLock := by
  refine fun s hrunning hlevel hvalid => ⟨fun hlock hline hmid => ?overlap, fun r hwindow hrev hslip hlocks => ?slip⟩
  case overlap =>
    obtain ⟨w, hoverlap, hscan, hsame, hview, hmarked, htables, hdark⟩ := overlapStage_of_locked hlock hline
    have hfaced := sosFrom_mid w.reportLoss s (.inr hlock) hmid hvalid (by rw [State.reportLoss_scan, hscan]; rfl)
      (by rw [State.reportLoss_scan, hscan]; exact hmid.1) (by rw [State.reportLoss_rb, hsame.rb]) rfl
    rw [State.reportLoss_scan, hscan] at hfaced
    obtain ⟨averages, b, haverage, hfits, hmisfit⟩ := averageStage_of_unlocked (s := s)
      (u := w.reportLoss.setScan { overlapScan s with facet := s.scan.facet + 1, indexPending := false }) rfl
      (by rw [State.setScan_rb, State.reportLoss_rb, hsame.rb]) nofun
    have hspoiled : (s.scan.rev.map fun r => { r with bad := true }).map (gathered s b) = spoiledRevolution s := by
      rw [Option.map_map]
      simp [Function.comp_def, gathered, spoiledRevolution]
    rw [haverage, revolutionStage_of_facet (Nat.succ_ne_zero _), lineStage_of_not_locked (by simp [overlapScan])] at hfaced
    rw [exec_sosEvent_eq hlevel hrunning, hoverlap, hfaced]
    obtain ⟨hgate, hsettle, hframe⟩ := hsame.lostAt hview (by rw [hscan]; nofun) rfl
    refine ⟨_, rfl, ?_, fun h => (hfits h).1, fun h => (hmisfit h).1, fun hopen => ?_, ?_, hgate, hsettle, hframe, ?_, ?_, ?_⟩
    · simp only [State.setScan_scan]
      rw [show (overlapScan s).rev.map (gathered s b) = spoiledRevolution s from hspoiled]
      simp [overlapScan, sosTaken, scanAfterSos, hmid.1]
    · obtain ⟨hmode, hdrive⟩ := hdark hopen
      have hlost := frameLockLost_dp_of_idle hmode
      rw [hdrive] at hlost
      simpa using hlost
    · simpa [hscan, overlapScan, hmarked] using reportLoss_marked (s := w) (by rw [hscan]; nofun)
    · simp [hsame.rb]
    · simp [hsame.seq]
    · simp [htables]
  case slip =>
    have hnext : nextFacet (sosTaken s) s.rb.polygon.facets = (s.scan.facet + 1) % s.rb.polygon.facets := rfl
    have hindex : (sosTaken s).indexPending = s.scan.indexPending := rfl
    have hslips : isSlip (sosTaken s) s.rb.polygon.facets = true := by
      rcases hslip with ⟨hpending, hfacet⟩ | ⟨hpending, hfacet⟩
      · simp [isSlip, hnext, hindex, hpending, Nat.mod_eq_of_lt hfacet]
      · simp [isSlip, hnext, hindex, hpending, hfacet]
    have hafter : facetAfter (sosTaken s) s.rb.polygon.facets = 0 := by
      rcases hslip with ⟨hpending, -⟩ | ⟨hpending, hfacet⟩
      · simp [facetAfter, hindex, hpending]
      · simp [facetAfter, hnext, hindex, hpending, hfacet]
    have hfrom := sosFrom_of_slip (s.setScan (sosTaken s)) s hlocks.symm hvalid hslips hafter
      (v := s.setScan (sosFaced s 0)) rfl
    have hbad (b : Bool) : revolutionGood (gathered s b { r with bad := true }) s.rb.polygon = false := by
      simp [revolutionGood, gathered]
    have hrevBad : (sosFaced s 0).markBad.rev = some { r with bad := true } := by
      show s.scan.rev.map _ = _
      rw [hrev]
      rfl
    have hexec := exec_sosEvent hlevel hrunning hwindow
    rw [hfrom] at hexec
    rcases hlocks with hlock | hlock
    · have hsame : SameForFrame s (s.setScan { (sosFaced s 0).markBad with lock := .locking }) :=
        (SameForFrame.refl s).setScan _
      obtain ⟨hgate, hsettle, hframe⟩ := hsame.lostAt rfl nofun
        (c := badRevolution { (sosFaced s 0).markBad with lock := .locking }) rfl
      rw [slip_of_locked (by exact hlock), judged_of_bad_unlocked (r := { r with bad := true })
        (by rw [State.reportLoss_scan]; rfl) (by simp) (by simp) (by simp [ScanTiming.markBad, sosFaced])
        (by rw [State.reportLoss_scan]; exact hrevBad) (fun b _ => hbad b), State.reportLoss_scan] at hexec
      exact ⟨_, hexec, rfl, rfl, rfl, rfl, rfl, rfl, hwindow, rfl, rfl,
        fun _ => ⟨hgate, hsettle, hframe, by simp, by simp, by simp⟩, fun h => absurd (hlock.symm.trans h) nofun⟩
    · have hunlocked : s.scan.lock ≠ .locked := by rw [hlock]; nofun
      rw [slip_of_not_locked (by exact hunlocked), judged_of_bad_unlocked (s := s)
        (u := s.setScan { (sosFaced s 0).markBad with goodCount := 0 }) (r := { r with bad := true }) rfl rfl
        (by exact hunlocked) rfl hrevBad (fun b _ => hbad b)] at hexec
      exact ⟨_, hexec, rfl, rfl, hlock, rfl, rfl, rfl, hwindow, rfl, rfl, fun h => absurd h hunlocked, fun _ => rfl⟩

/-! ## The end of a revolution (R84, R87, R88) -/

/-- A facet-0 SOS with its index is no slip. -/
theorem exec_sosEvent_wrap (hready : sosReady s) (hlocks : s.scan.lock = .locking ∨ s.scan.lock = .locked)
    (hindex : s.scan.indexPending = true) (hwrap : s.scan.facet + 1 = s.rb.polygon.facets) :
    exec .sosEvent s = .next
      ((s.setScan (sosFaced s 0)).averageStage s.scan.facet (sosInterval s)).revolutionStage.lineStage := by
  have hpending : (s.setScan (sosTaken s)).scan.indexPending = true := hindex
  have hnext : nextFacet (s.setScan (sosTaken s)).scan (s.setScan (sosTaken s)).rb.polygon.facets = 0 := by
    show (s.scan.facet + 1) % s.rb.polygon.facets = 0
    rw [hwrap, Nat.mod_self]
  rw [exec_sosEvent_of_ready hready, sosFrom_of_no_slip (s.setScan (sosTaken s)) s hlocks hready.2.2.2
    (by simp only [isSlip, hpending, hnext]; rfl) (by simp only [facetAfter, hpending]; rfl)
    (v := s.setScan (sosFaced s 0)) rfl]

/-- The same with an interval that fits. -/
theorem exec_sosEvent_wrap_fits (hready : sosReady s) (hlocks : s.scan.lock = .locking ∨ s.scan.lock = .locked)
    (hindex : s.scan.indexPending = true) (hwrap : s.scan.facet + 1 = s.rb.polygon.facets) (hfits : intervalFits s) :
    exec .sosEvent s = .next (s.setScan (sosFit s 0)).revolutionStage.lineStage := by
  rw [exec_sosEvent_wrap hready hlocks hindex hwrap,
    averageStage_of_fits (u := s.setScan (sosFaced s 0)) (s := s) rfl rfl hfits]
  rfl

theorem sosFit_rev {r : Revolution} (hrev : s.scan.rev = some r) (facet : Nat) :
    (s.setScan (sosFit s facet)).scan.rev = some (gathered s false r) := by
  show s.scan.rev.map _ = _
  rw [hrev]
  rfl

/-- A bad revolution in LOCKED loses the lock, by its last interval or by its record. -/
theorem exec_sosEvent_bad_locked {r : Revolution} (hready : sosReady s) (hlock : s.scan.lock = .locked)
    (hindex : s.scan.indexPending = true) (hwrap : s.scan.facet + 1 = s.rb.polygon.facets) (hrev : s.scan.rev = some r)
    (hbad : intervalFits s → revolutionGood (gathered s false r) s.rb.polygon = false) :
    ∃ c, c.lock = .locking ∧ exec .sosEvent s =
      .next ((s.setScan c).reportLoss.setScan (badRevolution { sosFaced s 0 with lock := .locking })) := by
  by_cases hfits : intervalFits s
  · rw [exec_sosEvent_wrap_fits hready (.inr hlock) hindex hwrap hfits,
      revolutionStage_of_bad (u := s.setScan (sosFit s 0)) rfl (sosFit_rev hrev 0) (hbad hfits),
      State.setScan_scan, failLock_of_locked (s := s.setScan (sosFit s 0)) (by exact hlock),
      lineStage_of_not_locked (by rw [State.reportLoss_scan]; nofun)]
    refine ⟨{ badRevolution (sosFit s 0) with lock := .locking }, rfl, congrArg _ ?_⟩
    exact State.eq_of_fields rfl rfl rfl rfl rfl rfl rfl rfl rfl rfl (by rw [State.reportLoss_scan]; rfl) rfl rfl rfl rfl rfl
  · rw [exec_sosEvent_wrap hready (.inr hlock) hindex hwrap,
      averageStage_of_violation (u := s.setScan (sosFaced s 0)) (s := s) rfl rfl hfits,
      failLock_of_locked (s := s.setScan (sosFaced s 0)) (by exact hlock)]
    refine ⟨{ sosMisfit s 0 with lock := .locking }, rfl, ?_⟩
    change Host.Outcome.next ((s.setScan { sosMisfit s 0 with lock := .locking }).reportLoss.revolutionStage.lineStage) = _
    rw [revolutionStage_of_bad (r := gathered s true r) (by rw [State.reportLoss_scan]; rfl)
        (by rw [State.reportLoss_scan]; show s.scan.rev.map _ = _; rw [hrev]; rfl) (by simp [revolutionGood, gathered]),
      failLock_of_not_locked (by rw [State.reportLoss_scan]; nofun),
      lineStage_of_not_locked (by rw [State.setScan_scan, State.reportLoss_scan]; nofun), State.reportLoss_scan]
    rfl

/-! ## The entry of LOCKED (R98, R110, R160) -/

/-- LOCKED entered, as the gate and a waiting settle take it. -/
def State.lockGained (u : State) : State := (u.setScan { u.scan with lock := .locked }).updateGate.settleLockGained

theorem lockGained_eq (u : State) :
    ∃ marked settle timeout,
      u.lockGained = { u with
        scan := { u.scan with lock := .locked }
        power := { u.power with
          gateOpen := gateLaw .locked u.run.state, marked := marked, settle := settle, settleTimeout := timeout } } ∧
      (u.power.settle.waiting = true → settle.waiting = false ∧ timeout = none) := by
  unfold State.lockGained State.settleLockGained
  rw [State.updateGate_eq]
  split
  next => exact ⟨_, _, _, rfl, fun _ => ⟨rfl, rfl⟩⟩
  next hwaiting => exact ⟨_, u.power.settle, u.power.settleTimeout, rfl, fun h => absurd h hwaiting⟩

theorem gainLock_of_not_priming (h : u.run.state ≠ .priming) : u.gainLock = u.lockGained := by
  have hrun : u.lockGained.run.state ≠ .priming := by simpa [State.lockGained] using h
  show u.lockGained.primingLocked = _
  unfold State.primingLocked
  split
  next hpriming => exact absurd hpriming hrun
  next => rfl

theorem gainLock_of_stage5 (h : u.run.state = .priming) (hstage : u.run.stage = 5) :
    u.gainLock = u.lockGained.primingStage6 := by
  have hrun : u.lockGained.run = u.run := by simp [State.lockGained]
  show u.lockGained.primingLocked = _
  unfold State.primingLocked
  rw [hrun, h, if_pos hstage]

/-! ## The line event at the entry of LOCKED -/

/-- The scan after a good revolution of LOCKING (R87). -/
def goodRevolution (s : State) : ScanTiming :=
  { freshRevolution (sosFit s 0) with goodCount := s.scan.goodCount + 1 }

theorem exec_sosEvent_good_locking {r : Revolution} (hready : sosReady s) (hlock : s.scan.lock = .locking)
    (hindex : s.scan.indexPending = true) (hwrap : s.scan.facet + 1 = s.rb.polygon.facets) (hrev : s.scan.rev = some r)
    (hfits : intervalFits s) (hgood : revolutionGood (gathered s false r) s.rb.polygon = true) :
    exec .sosEvent s = .next (if s.scan.goodCount + 1 = s.rb.polygon.goodRevs then
      (s.setScan (goodRevolution s)).gainLock else s.setScan (goodRevolution s)).lineStage := by
  rw [exec_sosEvent_wrap_fits hready (.inl hlock) hindex hwrap hfits,
    revolutionStage_of_good_locking (u := s.setScan (sosFit s 0)) (v := s.setScan (goodRevolution s)) rfl
      (sosFit_rev hrev 0) hgood hlock rfl]
  rfl

theorem exec_sosEvent_good_locked {r : Revolution} (hready : sosReady s) (hlock : s.scan.lock = .locked)
    (hindex : s.scan.indexPending = true) (hwrap : s.scan.facet + 1 = s.rb.polygon.facets) (hrev : s.scan.rev = some r)
    (hfits : intervalFits s) (hgood : revolutionGood (gathered s false r) s.rb.polygon = true) :
    exec .sosEvent s = .next (s.setScan (freshRevolution (sosFit s 0))).lineStage := by
  rw [exec_sosEvent_wrap_fits hready (.inr hlock) hindex hwrap hfits,
    revolutionStage_of_good_locked (u := s.setScan (sosFit s 0)) rfl (sosFit_rev hrev 0) hgood hlock]
  rfl

/-- The Regulator's part of a line event leaves the settle record and its timeout. -/
theorem regulatorLine_settle (v : State) :
    v.regulatorLine.1.power.settle = v.power.settle ∧ v.regulatorLine.1.power.settleTimeout = v.power.settleTimeout := by
  unfold State.regulatorLine State.regulateLine State.markLine
  repeat' split
  all_goals exact ⟨rfl, rfl⟩

theorem frameLine_of_no_context (h : s.frame.ctx = none) : s.frameLine = s :=
  frameLine_of_unheeded (fun c hc => by rw [h] at hc; contradiction)

/-- A line event in LOCKED without a FRAME card in the context. -/
theorem lineStage_of_no_context (hlock : u.scan.lock = .locked) (hctx : u.frame.ctx = none) :
    u.lineStage = u.regulatorLine.1.setScan { u.scan with
      window := .pixelWait, mark := u.regulatorLine.2, windowTimer := some (windowOffset u) } := by
  rw [lineStage_of_locked hlock, frameLine_of_no_context hctx]

/-- The settle of PRIMING stage 6 begins at the entry of LOCKED, and marks its first line. -/
theorem lineStage_gainLock_of_valid (hrun : u.run.state = .priming) (hstage : u.run.stage = 5) (hctx : u.frame.ctx = none)
    (hdrive : u.tables.active.drive.valid = true) (ht : u.gainLock.lineStage = t) :
    t.power.gateOpen = true ∧ t.run = { u.run with stage := 6, lockWait := none } ∧ t.power.state = .settling ∧
    t.power.pwr = u.power.pwr ∧ t.power.limited = .all false ∧ t.power.settleTimeout = none ∧
    t.power.settle = { channel := .red, attempts := 0, inBand := 0, waiting := false, used := .all 0 } ∧
    t.scan.mark = true ∧ t.dp.monitorRequest = some .red ∧
    t.power.marked = some { channel := .red, purpose := .settle, valid := true } ∧ t.deck = u.deck := by
  obtain ⟨marked, settle, timeout, hgained, -⟩ := lockGained_eq u
  rw [gainLock_of_stage5 hrun hstage, hgained, primingStage6_of_valid (by exact hdrive)] at ht
  rw [lineStage_of_no_context (by rfl) (by exact hctx),
    regulatorLine_of_settling (by simp [settleBegun, hrun]; rfl) (by rfl) (by simp [settleBegun])] at ht
  subst ht
  exact ⟨by simp [State.markLine, settleBegun, hrun]; rfl, rfl, rfl, rfl, rfl, rfl, rfl, rfl, rfl, rfl, rfl⟩

/-- Without a VALID DRIVE copy deck A's header is read at the entry of LOCKED. -/
theorem lineStage_gainLock_of_invalid (hrun : u.run.state = .priming) (hstage : u.run.stage = 5)
    (hctx : u.frame.ctx = none) (hdrive : u.tables.active.drive.valid = false) (ht : u.gainLock.lineStage = t) :
    t.power.gateOpen = true ∧ t.run = { u.run with stage := 7, lockWait := none } ∧ t.deck.seek = .reading ∧
    t.bus = u.bus ++ [.read u.nextId (nextDeckAddress u) 64] := by
  obtain ⟨marked, settle, timeout, hgained, -⟩ := lockGained_eq u
  rw [gainLock_of_stage5 hrun hstage, hgained, primingStage6_of_invalid (by exact hdrive)] at ht
  rw [lineStage_of_no_context (by rfl) (by exact hctx)] at ht
  subst ht
  refine ⟨?_, by rw [State.setScan_run, State.regulatorLine_run]; rfl,
    by rw [State.setScan_deck, State.regulatorLine_deck]; rfl, by rw [State.setScan_bus, State.regulatorLine_bus]; rfl⟩
  rw [State.setScan_power, State.regulatorLine_gateOpen]
  simp [seekBegun, hrun]
  rfl

/-- An UNSETTLED regulator in RUNNING marks no line, so that the entry of LOCKED opens the gate and nothing else moves. -/
theorem lineStage_gainLock_of_unsettled (hrun : u.run.state = .running) (hpower : u.power.state = .unsettled)
    (hctx : u.frame.ctx = none) (ht : u.gainLock.lineStage = t) :
    t.power.gateOpen = true ∧ t.run = u.run ∧ t.frame = u.frame ∧ t.ring = u.ring ∧ t.film = u.film ∧ t.dp = u.dp := by
  obtain ⟨marked, settle, timeout, hgained, -⟩ := lockGained_eq u
  rw [gainLock_of_not_priming (by rw [hrun]; nofun), hgained, lineStage_of_no_context (by rfl) (by exact hctx),
    regulatorLine_unmarked (by right; left; exact hpower)] at ht
  subst ht
  exact ⟨by simp [hrun]; rfl, rfl, rfl, rfl, rfl, rfl⟩

/-- A settle that waits goes on at the entry of LOCKED. -/
theorem lineStage_gainLock_of_waiting (hrun : u.run.state ≠ .priming) (hwaiting : u.power.settle.waiting = true)
    (ht : u.gainLock.lineStage = t) : t.power.settle.waiting = false ∧ t.power.settleTimeout = none := by
  obtain ⟨marked, settle, timeout, hgained, hwait⟩ := lockGained_eq u
  obtain ⟨hsettle, htimeout⟩ := hwait hwaiting
  rw [gainLock_of_not_priming hrun, lineStage_of_locked (by rw [hgained])] at ht
  subst ht
  rw [State.setScan_power]
  obtain ⟨hkept, hkeptTimeout⟩ := regulatorLine_settle u.lockGained.frameLine
  rw [hkept, hkeptTimeout, State.frameLine_power, hgained]
  exact ⟨hsettle, htimeout⟩

/-- A line event leaves the lock and the facet, and opens the wait for the line's pixel window. -/
theorem lineStage_scan (hlock : u.scan.lock = .locked) :
    u.lineStage.scan = { u.scan with
      window := .pixelWait, mark := u.frameLine.regulatorLine.2, windowTimer := some (windowOffset u) } := by
  rw [lineStage_of_locked hlock]
  rfl

/-- Settles O28. -/
theorem revolutionsMakeTheLock : Obligations.RevolutionsMakeTheLock := by
  intro s v good hready hindex hwrap hrev hgood hlocks
  have hjudged (h : good) : intervalFits s ∧ revolutionGood (gathered s false v) s.rb.polygon = true := by
    obtain ⟨hfits, hrecord⟩ := hgood.mp h
    exact ⟨hfits, (revolutionGood_iff s false v).mpr ⟨rfl, hrecord⟩⟩
  have hspoiled (h : ¬good) (b : Bool) (hb : ¬intervalFits s → b = true) :
      revolutionGood (gathered s b v) s.rb.polygon = false := by
    by_contra hnot
    obtain ⟨hfit, hrecord⟩ := (revolutionGood_iff s b v).mp (by simpa using hnot)
    exact h (hgood.mpr ⟨by by_contra hmisfit; rw [hb hmisfit] at hfit; contradiction, hrecord⟩)
  rcases hlocks with hlock | hlock
  · have hunlocked : s.scan.lock ≠ .locked := by rw [hlock]; nofun
    by_cases hg : good
    · obtain ⟨hfits, hrecord⟩ := hjudged hg
      have hexec := exec_sosEvent_good_locking hready hlock hindex hwrap hrev hfits hrecord
      by_cases hlast : s.scan.goodCount + 1 = s.rb.polygon.goodRevs
      · rw [if_pos hlast] at hexec
        have hentered : (s.setScan (goodRevolution s)).gainLock.scan.lock = .locked := by rw [State.gainLock_scan]
        have hscan := lineStage_scan hentered
        rw [State.gainLock_scan] at hscan
        refine ⟨_, hexec, by rw [hscan]; rfl, by rw [hscan]; rfl, by rw [hscan]; rfl, by simp,
          fun _ => ⟨fun _ => ⟨by rw [hscan]; rfl, by rw [hscan]; rfl, fun h => absurd hlast h, fun _ => ?_⟩,
            fun h => absurd hg h⟩, fun h => absurd h hunlocked⟩
        refine ⟨by rw [hscan], by rw [hscan], (gateLawful_gainLock _).lineStage,
          fun hrun hpower hctx => lineStage_gainLock_of_unsettled (u := s.setScan (goodRevolution s)) hrun hpower hctx rfl,
          fun hrun hwaiting => lineStage_gainLock_of_waiting (u := s.setScan (goodRevolution s)) hrun hwaiting rfl,
          fun hrun hstage hctx => ?_⟩
        cases hdrive : s.tables.active.drive.valid
        case false =>
          obtain ⟨hgate, hseeks⟩ :=
            lineStage_gainLock_of_invalid (u := s.setScan (goodRevolution s)) hrun hstage hctx hdrive rfl
          exact ⟨hgate, nofun, fun _ => hseeks⟩
        case true =>
          obtain ⟨hgate, hsettles⟩ :=
            lineStage_gainLock_of_valid (u := s.setScan (goodRevolution s)) hrun hstage hctx hdrive rfl
          exact ⟨hgate, fun _ => hsettles, nofun⟩
      · rw [if_neg hlast, lineStage_of_not_locked (by exact hunlocked)] at hexec
        exact ⟨_, hexec, rfl, rfl, rfl, rfl, fun _ => ⟨fun _ => ⟨rfl, rfl, fun _ => ⟨hlock, hready.2.2.1, rfl⟩,
          fun h => absurd h hlast⟩, fun h => absurd hg h⟩, fun h => absurd h hunlocked⟩
    · have hexec := exec_sosEvent_wrap hready (.inl hlock) hindex hwrap
      rw [judged_of_bad_unlocked (s := s) (u := s.setScan (sosFaced s 0)) rfl rfl (by exact hunlocked) rfl hrev
        (hspoiled hg)] at hexec
      exact ⟨_, hexec, rfl, rfl, rfl, rfl, fun _ => ⟨fun h => absurd h hg, fun _ => ⟨hlock, rfl, rfl, hready.2.2.1, rfl⟩⟩,
        fun h => absurd h hunlocked⟩
  · have hlocking : s.scan.lock ≠ .locking := by rw [hlock]; nofun
    by_cases hg : good
    · obtain ⟨hfits, hrecord⟩ := hjudged hg
      have hexec := exec_sosEvent_good_locked hready hlock hindex hwrap hrev hfits hrecord
      obtain ⟨hscan, hregulator, hrest⟩ := lineStage_does (s := s) (c := freshRevolution (sosFit s 0)) hlock rfl
      generalize (s.setScan (freshRevolution (sosFit s 0))).lineStage = t at *
      refine ⟨t, hexec, by rw [hscan]; rfl, by rw [hscan]; rfl, by rw [hscan]; rfl, by rw [hrest]; simp,
        fun h => absurd h hlocking, fun _ => ⟨fun _ => ⟨by rw [hscan]; exact hlock, by rw [hscan]; rfl, by rw [hscan]; rfl,
          by rw [hscan], hregulator, by rw [hrest]; simp, fun hctx => ?_⟩, fun h => absurd hg h⟩⟩
      rw [frameLine_of_no_context (by exact hctx)] at hrest
      rw [hrest]
      exact ⟨rfl, rfl, rfl⟩
    · obtain ⟨c, hc, hexec⟩ := exec_sosEvent_bad_locked hready hlock hindex hwrap hrev
        (fun hfits => hspoiled hg false (absurd hfits))
      obtain ⟨hgate, hsettle, hframe⟩ := ((SameForFrame.refl s).setScan c).lostAt rfl (by rw [State.setScan_scan, hc]; nofun)
        (c := badRevolution { sosFaced s 0 with lock := .locking }) rfl
      exact ⟨_, hexec, rfl, rfl, rfl, by rw [State.setScan_tables, State.reportLoss_tables]; rfl,
        fun h => absurd h hlocking, fun _ => ⟨fun h => absurd h hg,
          fun _ => ⟨rfl, rfl, rfl, hready.2.2.1, hgate, hsettle, hframe⟩⟩⟩

end Sys2Proof.Machine

/-! PROOF. A raster line exposed by a line event, and the line event that starts EXPOSING (R9 to R13, R19, R116): O29 and
O30. -/

namespace Sys2Proof.Machine

variable {s t u v : State}

/-! ## What a raster line takes (R10, R11) -/

theorem imageLine_iff (c : FrameCtx) :
    imageLine c = true ↔ c.card.y0 ≤ c.r ∧ c.r < c.card.y0 + c.card.height := by simp [imageLine]

theorem exposeLine_of_blank {c : FrameCtx} (h : ¬imageLine c = true) :
    s.exposeLine c = s.beginRasterLine (c.sawOccupancy s.ring.slots.length) .blank := by
  simp only [State.exposeLine]
  exact if_neg h

theorem exposeLine_of_head {c : FrameCtx} {x : Slot} {rest : List Slot} (himage : imageLine c = true)
    (hslots : s.ring.slots = x :: rest) (hready : x.state = .ready) (htag : x.tag = .none) :
    s.exposeLine c = (s.setRing { s.ring with slots := { x with state := .inUse } :: rest }).beginRasterLine
      (c.sawOccupancy s.ring.slots.length) (.image x.readId) := by
  have hanswer : headAnswer s.ring.slots = .take x.readId := by simp [headAnswer, hslots, hready, htag]
  have htaken : takeHead s.ring.slots = { x with state := .inUse } :: rest := by rw [hslots]; rfl
  have himage' : imageLine (c.sawOccupancy s.ring.occupancy) = true := himage
  simp only [State.exposeLine, himage', hanswer, if_true, htaken]
  rfl

theorem exposeLine_of_spoil {c : FrameCtx} {cause : SpoilCause} (himage : imageLine c = true)
    (hanswer : headAnswer s.ring.slots = .spoil cause) :
    s.exposeLine c = s.spoil (c.sawOccupancy s.ring.slots.length) cause := by
  have himage' : imageLine (c.sawOccupancy s.ring.occupancy) = true := himage
  simp only [State.exposeLine, himage', hanswer, if_true]
  rfl

/-- A head that spoils an attempt spoils it at the line of the line event (R10, R19 step 2). -/
theorem spoilLineOf_of_head {slots : List Slot} {cause : SpoilCause} (h : headAnswer slots = .spoil cause) (c : FrameCtx) :
    spoilLineOf c cause = c.r := by
  unfold headAnswer at h
  split at h
  · cases h; rfl
  · split at h <;> cases h <;> rfl

theorem attemptSpoiled_of {c : FrameCtx} {cause : SpoilCause} {line : Nat} (h : attemptSpoiled s v c cause line)
    (hframe : t.frame = v.frame) (hring : t.ring = v.ring)
    (hdp : t.dp = { v.dp with monitorRequest := t.dp.monitorRequest }) : attemptSpoiled s t c cause line := by
  have hpending : t.dp.pending = v.dp.pending := by rw [hdp]
  have hmode : t.dp.mode = v.dp.mode := by rw [hdp]
  have hdrive : t.dp.drive = v.dp.drive := by rw [hdp]
  unfold attemptSpoiled at h ⊢
  rw [hframe, hring, hpending, hmode, hdrive]
  exact h

/-- A line event touches nothing but the scan, the Regulator and the monitor request beside what Frame Exposure did. -/
theorem line_fields (h : t = { v with
      scan := t.scan, power := t.power, dp := { v.dp with monitorRequest := t.dp.monitorRequest } }) :
    t.frame = v.frame ∧ t.ring = v.ring ∧ t.film = v.film ∧
    t.dp = { v.dp with monitorRequest := t.dp.monitorRequest } ∧ t.run = v.run ∧ t.regs = v.regs ∧ t.deck = v.deck ∧
    t.seq = v.seq ∧ t.tables = v.tables ∧ t.bus = v.bus := by
  refine ⟨?_, ?_, ?_, ?_, ?_, ?_, ?_, ?_, ?_, ?_⟩ <;> rw [h]

/-- Settles O29. -/
theorem sosExposesARasterLine : Obligations.SosExposesARasterLine := by
  intro s c hready hlock hfits hmid hctx hstate
  obtain ⟨t, hexec, hline, hlocked, hregulator, hrest⟩ := exec_sosEvent_line hready hlock hfits hmid
  generalize hu : s.setScan (sosFit s (s.scan.facet + 1)) = u at hrest
  have hsame : SameForFrame s u := by rw [← hu]; exact (SameForFrame.refl s).setScan _
  obtain ⟨hframe, hring, hfilm, hdp, hrun, hregs, hdeck, hseq, htables, -⟩ := line_fields hrest
  have hexposed := frameLine_of_exposing (s := u) (by rw [hsame.frame]; exact hctx) hstate
  rw [hexposed] at hframe hring hfilm hdp
  have hudp : u.dp = s.dp := by rw [← hu]; rfl
  refine ⟨t, hexec, hline, hlocked, hregulator, fun hblank => ?blank, fun hfrom hto x rest hslots hx htag => ?image,
    fun hfrom hto cause hcause => ?spoil, by simp [hrun, ← hu], by simp [hregs, ← hu],
    by simp [hdeck, ← hu], by simp [hseq, ← hu], by simp [htables, ← hu]⟩
  case blank =>
    rw [exposeLine_of_blank (by rw [imageLine_iff]; omega)] at hframe hring hfilm hdp
    exact ⟨by rw [hdp, ← hudp]; rfl, hring.trans hsame.ring, by rw [hfilm, ← hsame.film, ← hsame.rb]; rfl,
      by rw [hframe, ← hsame.frame, ← hsame.ring]; rfl⟩
  case image =>
    rw [exposeLine_of_head ((imageLine_iff c).mpr ⟨hfrom, hto⟩) (by rw [hsame.ring]; exact hslots) hx htag]
      at hframe hring hfilm hdp
    exact ⟨by rw [hdp, ← hudp]; rfl, by rw [hring, ← hsame.ring]; rfl, by rw [hfilm, ← hsame.film, ← hsame.rb]; rfl,
      by rw [hframe, ← hsame.frame, ← hsame.ring]; rfl⟩
  case spoil =>
    have hanswer : headAnswer s.ring.slots = .spoil cause := by
      rcases hcause with ⟨hempty | ⟨x, rest, hslots, hx | hx⟩, rfl⟩ | ⟨⟨x, rest, hslots, hx, htag⟩, rfl⟩ |
        ⟨⟨x, rest, hslots, hx, htag⟩, rfl⟩
      · rw [hempty]; rfl
      all_goals simp [headAnswer, *]
    rw [exposeLine_of_spoil ((imageLine_iff c).mpr ⟨hfrom, hto⟩) (by rw [hsame.ring]; exact hanswer)]
      at hframe hring hfilm hdp
    have hspoiled := hsame.attemptSpoiled (c.sawOccupancy u.ring.slots.length) cause
    rw [spoilLineOf_of_head hanswer, hsame.ring] at hspoiled
    rw [hsame.ring] at hframe hring hfilm hdp
    exact ⟨attemptSpoiled_of hspoiled hframe hring hdp, by rw [hfilm, (u.spoil_does _ _).2.1, hsame.film, hsame.rb]⟩

/-! ## The entry to EXPOSING (R9, R116) -/

/-- The context that a line event finds primed, as raster line 0 is exposed. -/
def exposedContext (s : State) (c : FrameCtx) : FrameCtx :=
  (c.toExposing s.film.counter (anyLimited s.power.limited)).sawOccupancy s.ring.slots.length

/-- What R9 gives the context of an attempt that starts EXPOSING. -/
def startsExposing (s : State) (c d : FrameCtx) : Prop :=
  d.position = some s.film.counter ∧ d.attemptsExposed = c.attemptsExposed + 1 ∧
  d.firstFilm = some (c.firstFilm.getD s.film.counter) ∧ d.clamps = .all { low := 0, high := 0 } ∧ d.lockWait = .stopped ∧
  d.powerLimited = (c.powerLimited || s.power.limited.r || s.power.limited.g || s.power.limited.b)

theorem startsExposing_next (s : State) (c : FrameCtx) (r : Nat) :
    startsExposing s c { exposedContext s c with r := r } :=
  ⟨rfl, rfl, rfl, rfl, rfl, by simp [exposedContext, FrameCtx.sawOccupancy, FrameCtx.toExposing, anyLimited, Bool.or_assoc]⟩

theorem startsExposing_spoiled (s : State) (c : FrameCtx) (cause : SpoilCause) (line : Nat) (stopPending : Bool) :
    startsExposing s c ((exposedContext s c).spoiled cause line stopPending) := startsExposing_next s c 0

theorem beginScan_of_still {f : Film} (h : f.state = .still) (rb : RunBlock) (noEdge : Bool) :
    f.beginScan rb noEdge = { f with
      cycle := some { forFrame := true, kind := .good, position := f.counter, edgeOn := rb.film.edgeEnable == 1 && !noEdge }
      scanRequested := 0, scanIssued := 0, pullIssued := 0, owed := 0, stepTimer := none, perfCount := 0
      state := .scanning } := by
  unfold Film.beginScan
  rw [h]

/-- The steps of raster line 0 asked for in SCANNING (R116). -/
theorem lineSteps_of_scanning {f : Film} (h : f.state = .scanning) (howed : f.owed = 0) (rb : RunBlock) :
    (f.lineSteps rb 0).state = .scanning ∧ (f.lineSteps rb 0).owed = rb.film.ms / rb.height ∧
    (f.lineSteps rb 0).cycle = f.cycle ∧ (f.lineSteps rb 0).counter = f.counter ∧
    (f.lineSteps rb 0).perfCount = f.perfCount := by
  unfold Film.lineSteps
  rw [h]
  refine ⟨by simp [Film.addSteps, h], ?_, rfl, rfl, rfl⟩
  simp [Film.addSteps, stepsOf, howed]

/-- A finish before any scan step was issued (R117). -/
theorem finish_of_scanning {f : Film} {rb : RunBlock} (h : f.state = .scanning) (howed : f.owed = 0)
    (hrequested : f.scanRequested = 0) (hissued : f.scanIssued = 0) (hms : 0 < rb.film.ms) (k : CloseKind) :
    (f.finish rb k).state = .catchup ∧ (f.finish rb k).owed = rb.film.ms ∧
    (f.finish rb k).cycle = f.cycle.map fun y => { y with kind := k.cycle } := by
  unfold Film.finish
  simp only [h, hrequested, howed, Film.addSteps, hissued]
  rw [if_neg (by omega)]
  exact ⟨rfl, by simp, rfl⟩

theorem headAnswer_take {slots : List Slot} {id : Nat} (h : headAnswer slots = .take id) :
    ∃ x rest, slots = x :: rest ∧ x.state = .ready ∧ x.tag = .none := by
  unfold headAnswer at h
  split at h
  next => contradiction
  next x rest =>
    split at h
    next hready htag => exact ⟨x, rest, rfl, hready, htag⟩
    all_goals contradiction

/-- A head that spoils a line event is no clean READY slot, and names its cause by its tag (R10). -/
theorem headAnswer_spoil {slots : List Slot} {cause : SpoilCause} (h : headAnswer slots = .spoil cause) {x : Slot}
    {rest : List Slot} (hslots : slots = x :: rest) (hready : x.state = .ready) :
    x.tag ≠ .none ∧ cause = if x.tag = .error then .lineError else .lineTimeout := by
  rw [hslots] at h
  simp only [headAnswer, hready] at h
  cases htag : x.tag <;> rw [htag] at h <;> cases h <;> exact ⟨nofun, rfl⟩

theorem lineUnheeded_of {c : FrameCtx} (hctx : s.frame.ctx = some c)
    (h : c.state = .closing ∨ c.state = .preparing ∧
      (s.run.state ≠ .running ∨ s.ring.slots.length < min s.rb.high c.card.height ∨
        ∃ x ∈ s.ring.slots.take (min s.rb.high c.card.height), x.state ≠ .ready ∨ x.owner ≠ attemptOf c)) :
    lineUnheeded s := by
  intro d hd
  obtain rfl : c = d := Option.some.inj (hctx.symm.trans hd)
  refine h.imp_right (fun ⟨hstate, hnot⟩ => ⟨hstate, hnot.imp_right fun hring hprimed => ?_⟩)
  obtain ⟨hlength, hheads⟩ := hprimed
  rcases hring with hshort | ⟨x, hx, hbad⟩
  · omega
  · obtain ⟨hready, howner⟩ := hheads x hx
    exact hbad.elim (· hready) (· howner)

/-- Settles O30. -/
theorem sosStartsExposing : Obligations.SosStartsExposing := by
  intro s c hready hlock hfits hmid hctx
  obtain ⟨t, hexec, hline, -, hregulator, hrest⟩ := exec_sosEvent_line hready hlock hfits hmid
  generalize hu : s.setScan (sosFit s (s.scan.facet + 1)) = u at hrest
  have hsame : SameForFrame s u := by rw [← hu]; exact (SameForFrame.refl s).setScan _
  have hudp : u.dp = s.dp := by rw [← hu]; rfl
  have hlimited : u.power.limited = s.power.limited := by rw [← hu]; rfl
  obtain ⟨hframe, hring, hfilm, hdp, hrun, hregs, -, -, htables, hbus⟩ := line_fields hrest
  have hpending : t.dp.pending = u.frameLine.dp.pending := by rw [hdp]
  refine ⟨t, hexec, hline, hregulator, fun hunheeded => ?unheeded, fun hstate hrunning hstill hlength hheads => ?starts,
    by simp [hrun, ← hu], by simp [hregs, ← hu], by simp [htables, ← hu]⟩
  case unheeded =>
    have hu' : lineUnheeded u := by rw [← hu]; exact lineUnheeded_of hctx hunheeded
    rw [frameLine_of_unheeded hu'] at hframe hring hfilm hpending hbus
    exact ⟨hframe.trans hsame.frame, hring.trans hsame.ring, hfilm.trans hsame.film, by rw [hpending, hudp],
      hbus.trans hsame.bus⟩
  case starts =>
    have hprimed : ringPrimed u c := by
      rw [ringPrimed, hsame.rb, hsame.ring]
      exact ⟨hlength, hheads⟩
    have hbegun := frameLine_of_primed (s := u) (by rw [hsame.frame]; exact hctx) hstate (by rw [hsame.run]; exact hrunning)
      hprimed
    rw [hlimited, hsame.film, hsame.rb] at hbegun
    generalize hg : s.film.beginScan s.rb c.card.noEdge = g at hbegun
    rw [beginScan_of_still hstill] at hg
    have hscanning : g.state = .scanning := by rw [← hg]
    have howed : g.owed = 0 := by rw [← hg]
    have hcounter : g.counter = s.film.counter := by rw [← hg]
    have hperf : g.perfCount = 0 := by rw [← hg]
    generalize hd : c.toExposing s.film.counter (anyLimited s.power.limited) = d at hbegun
    have hr : d.r = 0 := by rw [← hd]; rfl
    have hcard : d.card = c.card := by rw [← hd]; rfl
    have hsaw : d.sawOccupancy s.ring.slots.length = exposedContext s c := by rw [← hd]; rfl
    have hlit : imageLine d = true ↔ c.card.y0 = 0 ∧ 0 < c.card.height := by
      rw [imageLine_iff, hr, hcard]
      omega
    have hringx : (u.setFilm g).ring = s.ring := hsame.ring
    obtain ⟨hscans, howes, hcycle, hcount, hperfs⟩ := lineSteps_of_scanning hscanning howed s.rb
    obtain ⟨hposition, hattempts, hfirst, hclamps, hwait, hpower⟩ := startsExposing_next s c 1
    by_cases himage : imageLine d = true
    · obtain ⟨hy0, hheight⟩ := hlit.mp himage
      cases hanswer : headAnswer s.ring.slots with
      | take id =>
        obtain ⟨x, rest, hslots, hx, htag⟩ := headAnswer_take hanswer
        rw [hbegun, exposeLine_of_head (x := x) (rest := rest) himage (by rw [hringx, hslots]) hx htag, hringx, hsaw]
          at hframe hring hfilm hpending hbus
        replace hfilm : t.film = g.lineSteps s.rb 0 := by rw [hfilm, ← hsame.rb]; rfl
        refine ⟨_, by rw [hframe, ← hsame.frame]; rfl, hposition, hattempts, hfirst, hclamps, hwait, hpower,
          by rw [hfilm, hcount, hcounter], by rw [hfilm, hperfs, hperf], fun _ => ⟨rfl, rfl, by rw [hfilm, hscans],
          by rw [hfilm, howes], by rw [hfilm, hcycle, ← hg], hbus.trans hsame.bus⟩, fun h => ?_,
          fun _ _ y ys hys hy => ⟨fun _ => ?_, fun hbad => ?_⟩⟩
        · omega
        · obtain ⟨rfl, rfl⟩ := List.cons.inj (hslots.symm.trans hys)
          exact ⟨hpending, hring⟩
        · obtain ⟨rfl, rfl⟩ := List.cons.inj (hslots.symm.trans hys)
          exact absurd htag hbad
      | spoil cause =>
        have hspoil := exposeLine_of_spoil (s := u.setFilm g) himage (by rw [hringx]; exact hanswer)
        obtain ⟨hspoilDp, hspoilFilm, hspoilFrame⟩ := (u.setFilm g).spoil_does (d.sawOccupancy s.ring.slots.length) cause
        rw [hringx] at hspoil
        rw [hbegun, hspoil] at hframe hfilm hpending
        rw [hspoilFrame] at hframe
        rw [hspoilFilm] at hfilm
        rw [hspoilDp, Datapath.zeroOrder_pending] at hpending
        rw [spoilLineOf_of_head hanswer, hsaw] at hframe
        obtain ⟨hfinishCounter, hfinishPerf⟩ := Prod.ext_iff.mp (Film.finish_kept g s.rb .spoiled)
        replace hfilm : t.film = g.finish s.rb .spoiled := by rw [hfilm, ← hsame.rb]; rfl
        obtain ⟨hposition, hattempts, hfirst, hclamps, hwait, hpower⟩ :=
          startsExposing_spoiled s c cause 0 u.run.stopPending
        refine ⟨(exposedContext s c).spoiled cause 0 u.run.stopPending, by rw [hframe, ← hsame.frame]; rfl, hposition,
          hattempts, hfirst, hclamps, hwait, hpower,
          by rw [hfilm, ← hcounter]; exact congrArg Prod.fst hfinishCounter, by rw [hfilm, ← hperf]; exact hfinishPerf,
          fun h => ?_, fun h => ?_,
          fun _ _ y ys hys hy => ?_⟩
        · rcases h with h | h | ⟨y, ys, hys, hy, htag⟩
          · omega
          · omega
          · exact absurd htag (headAnswer_spoil hanswer hys hy).1
        · omega
        · obtain ⟨htag, hcause⟩ := headAnswer_spoil hanswer hys hy
          refine ⟨fun h => absurd h htag, fun _ => ⟨rfl, rfl, rfl, rfl, hcause, hpending, fun hms => ?_⟩⟩
          obtain ⟨hcatchup, hsteps, hfinished⟩ := finish_of_scanning hscanning howed (by rw [← hg]) (by rw [← hg]) hms .spoiled
          rw [hfilm]
          exact ⟨hcatchup, hsteps, by rw [hfinished, ← hg]; rfl⟩
    · rw [hbegun, exposeLine_of_blank himage, hringx, hsaw] at hframe hring hfilm hpending hbus
      replace hfilm : t.film = g.lineSteps s.rb 0 := by rw [hfilm, ← hsame.rb]; rfl
      refine ⟨_, by rw [hframe, ← hsame.frame]; rfl, hposition, hattempts, hfirst, hclamps, hwait, hpower,
        by rw [hfilm, hcount, hcounter], by rw [hfilm, hperfs, hperf], fun _ => ⟨rfl, rfl, by rw [hfilm, hscans],
        by rw [hfilm, howes], by rw [hfilm, hcycle, ← hg], hbus.trans hsame.bus⟩, fun _ => ⟨hpending, hring.trans hsame.ring⟩,
        fun hy0 hheight => absurd (hlit.mpr ⟨hy0, hheight⟩) himage⟩

end Sys2Proof.Machine

/-! PROOF. A card's result handed on (R152, R156), how the run goes on from it (R70), and the ways in which a card's outcome
comes to be acted on (R133 to R137): the rules that the statements about cards share. -/

namespace Sys2Proof.Machine

variable {s t u v : State} {d : Deck} {r : CardResult}

/-! ## Results (R147, R152) -/

/-- A result handed on with a deck taken, for a card that has none yet. -/
theorem handResult_eq (htaken : s.deck.taken = some d) (hindex : s.deck.finishedCount ≤ s.seq.current.index)
    (r : CardResult) :
    s.handResult r = { s with
      seq := { s.seq with current := { s.seq.current with finished := true } }
      deck := { s.deck with finishedCount := s.deck.finishedCount + 1 }
      bus := s.bus ++
        resultWrites (deckAddr s d) s.seq.current.index (s.deck.finishedCount + 1) r s.film.counter } := by
  have haddr : addrPlus (deckAddr s d) (slotOffset s.seq.current.index + 0x50) =
      deckAddr s d + BitVec.ofNat 64 (64 + 128 * s.seq.current.index) + 80 := by
    rw [addrPlus, slotOffset, BitVec.ofNat_add, ← BitVec.add_assoc]
    rfl
  unfold State.handResult State.writeResult
  simp only [htaken]
  rw [if_neg (by omega), haddr]
  simp only [State.busWrite, State.setBus, State.setDeck, State.setSeq, resultWrites, List.append_assoc, List.cons_append,
    List.nil_append]
  rfl

/-- The writes of a refresh are those of another state with the same address, switch and generation to come. -/
theorem refreshWrites_congr {k n : Nat} (haddr : runAddress v = runAddress s)
    (henabled : v.deck.snapshotEnabled = s.deck.snapshotEnabled)
    (hgeneration : (v.deck.generation + k) % 2 ^ 32 = (s.deck.generation + n) % 2 ^ 32) (body : List Byte) :
    refreshWrites v k body = refreshWrites s n body := by
  simp only [refreshWrites, haddr, henabled, hgeneration]

@[simp] theorem snapshotBody_refresh (s : State) : snapshotBody s.refresh = snapshotBody s := by
  rw [State.refresh_eq]
  rfl

/-- A card's finish: its result was written, its owner's blocks are as v shows them, and the refresh follows. -/
theorem cardFinishes_refresh {counter : Nat} (hrun : v.run = s.run)
    (hseq : v.seq = { s.seq with current := { s.seq.current with finished := true } })
    (hdeck : v.deck = { s.deck with finishedCount := s.deck.finishedCount + 1 }) (haddr : runAddress v = runAddress s)
    (hbus : v.bus = s.bus ++
      resultWrites (deckAddr s d) s.seq.current.index (s.deck.finishedCount + 1) r counter) :
    cardFinishes s v.refresh d r counter false := by
  refine ⟨by simp [hrun], by simp [hseq], by rw [State.refresh_eq, hdeck]; rfl, [], ?_⟩
  rw [State.refresh_bus, snapshotBody_refresh, hbus,
    refreshWrites_congr (n := 1) haddr (by rw [hdeck]) (by rw [hdeck])]
  simp

/-- The same at a dwell end, whose own refresh came first (log entry 7). -/
theorem cardFinishes_refresh_dwell {counter : Nat} {body : List Byte} (hrun : v.run = s.run)
    (hseq : v.seq = { s.seq with current := { s.seq.current with finished := true } })
    (hdeck : v.deck = { s.deck with
      finishedCount := s.deck.finishedCount + 1
      generation := if s.deck.snapshotEnabled then (s.deck.generation + 1) % 2 ^ 32 else s.deck.generation })
    (haddr : runAddress v = runAddress s)
    (hbus : v.bus = s.bus ++ refreshWrites s 1 body ++
      resultWrites (deckAddr s d) s.seq.current.index (s.deck.finishedCount + 1) r counter) :
    cardFinishes s v.refresh d r counter true := by
  have hgeneration (h : s.deck.snapshotEnabled = true) : v.deck.generation = (s.deck.generation + 1) % 2 ^ 32 := by
    rw [hdeck]
    exact if_pos h
  have henabled : v.deck.snapshotEnabled = s.deck.snapshotEnabled := by rw [hdeck]
  refine ⟨by simp [hrun], by simp [hseq], ?_, body, ?_⟩
  · rw [State.refresh_eq]
    show ({ v.deck with generation := _ } : DeckReader) = _
    rw [henabled]
    cases hs : s.deck.snapshotEnabled
    · rw [hdeck]
      simp [hs]
    · rw [hgeneration hs, hdeck]
      simp only [if_true, DeckReader.mk.injEq, true_and, and_true]
      omega
  · rw [State.refresh_bus, snapshotBody_refresh, hbus]
    cases hs : s.deck.snapshotEnabled
    · simp [refreshWrites, henabled, hs]
    · rw [refreshWrites_congr (n := 2) haddr henabled (by rw [hgeneration hs]; omega)]
      rfl

/-- A result handed on by an owner that touches nothing of its own. -/
theorem cardFinishesAlone_handResult (htaken : s.deck.taken = some d)
    (hindex : s.deck.finishedCount ≤ s.seq.current.index) (r : CardResult) :
    cardFinishesAlone s (s.handResult r).refresh d r := by
  rw [handResult_eq htaken hindex]
  exact ⟨cardFinishes_refresh rfl rfl rfl rfl rfl, by simp, by simp, by simp, by simp, by simp, by simp, by simp, by simp,
    by simp⟩

/-! ## How the run goes on (R70) -/

/-- HELD is entered by a card's finish in RUNNING. -/
theorem heldFrom_enterHeld (hrun : u.run.state = .running) : heldFrom u (u.enterHeld false) := by
  intro hlaw
  have hgate := hlaw.gateOpen_eq (by rw [hrun]; rfl)
  rw [enterHeld_of_not_waiting hlaw (by rw [hrun]; nofun), ← hgate]

theorem finishCourse_of_stop (h : u.run.stopPending = true) (failed : Bool) : finishCourse u failed = .ending := by
  simp [finishCourse, h]

theorem finishCourse_of_not_running (hstop : u.run.stopPending = false) (hrun : u.run.state ≠ .running) (failed : Bool) :
    finishCourse u failed = .stays := by
  simp only [finishCourse, hstop]
  split
  next hrunning => contradiction
  next => rfl

theorem finishCourse_of_running (hstop : u.run.stopPending = false) (hrun : u.run.state = .running) :
    finishCourse u false =
      if u.run.powerLimitPending then .powerLimit else if u.run.pausePending then .held else .advance := by
  simp [finishCourse, hstop, hrun]

/-- The items of R70 without item 2, as the run takes them; `adv` stands for the advance. -/
theorem takeCourse_leads {adv : State → State} (hadvance : u.run.stopPending = false → u.run.state = .running →
      u.run.powerLimitPending = false → u.run.pausePending = false → adv u = u.advance) :
    finishLeads u (u.takeCourse (finishCourse u false) adv) := by
  refine ⟨fun hstop => by rw [finishCourse_of_stop hstop]; rfl, fun hstop => ⟨fun hrun => ?_, fun hrun => ?_⟩⟩
  · rw [finishCourse_of_not_running hstop hrun]; rfl
  · rw [finishCourse_of_running hstop hrun]
    refine ⟨fun hlimit => by rw [if_pos hlimit]; rfl, fun hlimit => ?_⟩
    rw [if_neg (by simp [hlimit])]
    refine ⟨fun hpause => ?_, fun hpause => ?_⟩
    · rw [if_pos hpause]
      exact heldFrom_enterHeld hrun
    · rw [if_neg (by simp [hpause])]
      exact hadvance hstop hrun hlimit hpause

/-! ## A card becomes current (R135 step 4) -/

/-- What the outcome of a card leads to (R136). -/
def State.actedOn (u : State) (o : CardOutcome) : State :=
  match o with
  | .good b => u.dispatchBody b
  | .invalid why field b => u.refuseInvalid why field b
  | .readFailed => u.halt .cardRead
  | .pending => u

theorem actOnCard_eq (s : State) :
    s.actOnCard = (s.setSeq { s.seq with current := { s.seq.current with acted := true } }).actedOn
      s.seq.current.outcome := rfl

theorem addrPlus_slot (a : Addr) (index : Nat) : addrPlus a (slotOffset index) = a + BitVec.ofNat 64 (64 + 128 * index) :=
  rfl

theorem takenAddr_eq (htaken : s.deck.taken = some d) : takenAddr s = deckAddr s d := by simp [takenAddr, htaken]

/-- The read of the card after, where the deck has one (R135 step 4). -/
theorem readLookahead_of_more (htaken : s.deck.taken = some d) (hmore : s.seq.nextIndex < s.deck.cardCount) :
    s.readLookahead = { s with
      seq := { s.seq with lookahead := recordReading s s.seq.nextIndex }
      bus := s.bus ++ [.read s.nextId (deckAddr s d + BitVec.ofNat 64 (64 + 128 * s.seq.nextIndex)) 80]
      nextId := s.nextId + 1 } := by
  rw [State.readLookahead, if_pos hmore, State.readBody, takenAddr_eq htaken, addrPlus_slot]
  rfl

theorem becomeCurrent_eq (htaken : s.deck.taken = some d) :
    s.becomeCurrent = (becameCurrent s d).actedOn s.seq.current.outcome := by
  generalize hu : s.setSeq { s.seq with nextIndex := s.seq.nextIndex + 1, current := { s.seq.current with entered := true } } = u
  have hbegun : s.becomeCurrent = u.readLookahead.actOnCard := by rw [← hu]; rfl
  have hnext : u.seq.nextIndex = s.seq.nextIndex + 1 := by rw [← hu]; rfl
  have hcount : u.deck.cardCount = s.deck.cardCount := by rw [← hu]; rfl
  have hdeck : u.deck.taken = some d := by rw [← hu]; exact htaken
  rw [hbegun, becameCurrent]
  dsimp only
  by_cases hmore : s.seq.nextIndex + 1 < s.deck.cardCount
  · rw [if_pos hmore, readLookahead_of_more hdeck (by rw [hnext, hcount]; exact hmore), actOnCard_eq, ← hu]
    rfl
  · rw [if_neg hmore, State.readLookahead, if_neg (by rw [hnext, hcount]; exact hmore), actOnCard_eq, ← hu]
    rfl

/-- Once the current card has become current, step 4 of an advance finds nothing to do. -/
theorem takeUp_of_entered (h : u.seq.current.entered = true) : u.takeUp = u := by
  simp [State.takeUp, mayBecomeCurrent, h]

theorem takeUp_of_not_present (h : u.seq.current.state ≠ .present) : u.takeUp = u := by
  simp [State.takeUp, mayBecomeCurrent, h]

theorem takeUp_of_not_running (h : u.run.state ≠ .running) : u.takeUp = u := by
  simp [State.takeUp, mayBecomeCurrent, h]

theorem takeUp_of_waiting (hrun : u.run.state = .running) (hpresent : u.seq.current.state = .present)
    (hentered : u.seq.current.entered = false) : u.takeUp = u.becomeCurrent := by
  simp [State.takeUp, mayBecomeCurrent, hrun, hpresent, hentered]

/-! ## Steps 1 to 3 of an advance (R135) -/

theorem advanceRecord_of_end (hrun : s.run.state = .running) (htaken : s.deck.taken = some d)
    (hend : s.seq.nextIndex = s.deck.cardCount) : s.advanceRecord = s.deckDone := by
  simp [State.advanceRecord, hrun, htaken, hend]

theorem advanceRecord_of_waits (hrun : s.run.state = .running) (htaken : s.deck.taken = some d)
    (hmore : s.seq.nextIndex ≠ s.deck.cardCount) (hstate : s.seq.current.state ≠ .empty)
    (hentered : s.seq.current.entered = false) (hindex : s.seq.current.index = s.seq.nextIndex) : s.advanceRecord = s := by
  simp [State.advanceRecord, hrun, htaken, hmore, currentWaits, hstate, hentered, hindex]

theorem currentWaits_eq_false (h : s.seq.current.state = .empty ∨ s.seq.current.entered = true) :
    currentWaits s = false := by
  rcases h with h | h <;> simp [currentWaits, h]

theorem advanceRecord_of_lookahead (hrun : s.run.state = .running) (htaken : s.deck.taken = some d)
    (hmore : s.seq.nextIndex ≠ s.deck.cardCount) (hcurrent : s.seq.current.state = .empty ∨ s.seq.current.entered = true)
    (hstate : s.seq.lookahead.state ≠ .empty) (hindex : s.seq.lookahead.index = s.seq.nextIndex) :
    s.advanceRecord = s.setSeq { s.seq with current := s.seq.lookahead, lookahead := .emptied } := by
  simp [State.advanceRecord, hrun, htaken, hmore, currentWaits_eq_false hcurrent, lookaheadHolds, hstate, hindex]

theorem advanceRecord_of_none (hrun : s.run.state = .running) (htaken : s.deck.taken = some d)
    (hmore : s.seq.nextIndex ≠ s.deck.cardCount) (hcurrent : s.seq.current.state = .empty ∨ s.seq.current.entered = true)
    (hlookahead : s.seq.lookahead.state = .empty ∨ s.seq.lookahead.index ≠ s.seq.nextIndex) :
    s.advanceRecord = s.readCurrent s.seq.nextIndex := by
  have hholds : lookaheadHolds s = false := by
    rcases hlookahead with h | h <;> simp [lookaheadHolds, h]
  simp [State.advanceRecord, hrun, htaken, hmore, currentWaits_eq_false hcurrent, hholds]

/-! ## The four ways to a card's outcome (R133 to R137) -/

theorem exec_cardReadEnd_current {p : PendingRead} (hread : s.seq.current.read = some p) (e : ReadEnd) :
    exec (.cardReadEnd p.id e) s = .next
      (s.setSeq { s.seq with current := s.seq.current.delivered (cardOutcomeOf s.rb.height e) }).currentDelivered := by
  have hawaits : s.seq.current.awaits p.id = true := by simp [CardRecord.awaits, hread]
  show execCardReadEnd p.id e s = _
  simp [execCardReadEnd, hawaits]

/-- What becoming current leaves, whether or not the deck has another card. -/
theorem becameCurrent_kept (s : State) (d : Deck) :
    (becameCurrent s d).deck = s.deck ∧ (becameCurrent s d).run = s.run ∧
    (becameCurrent s d).seq.current = { s.seq.current with entered := true, acted := true } ∧
    ((becameCurrent s d).seq.nextIndex < (becameCurrent s d).deck.cardCount →
      (becameCurrent s d).seq.lookahead.state = .reading ∧
      (becameCurrent s d).seq.lookahead.index = (becameCurrent s d).seq.nextIndex) := by
  unfold becameCurrent
  dsimp only
  split
  next hmore => exact ⟨rfl, rfl, rfl, fun _ => ⟨rfl, rfl⟩⟩
  next hlast => exact ⟨rfl, rfl, rfl, fun h => absurd h hlast⟩

/-- A card's outcome is acted on at u: a card that became current waits for the read of the next one, and a card read
again is followed by step 4 of an advance. -/
def actedOnAt (u : State) (d : Deck) (o : CardOutcome) (answer : Host.Outcome State Fault Refusal) : Prop :=
  u.deck.taken = some d ∧ u.run.state = .running ∧ u.seq.current.entered = true ∧
  (answer = .next (u.actedOn o).takeUp ∨
   answer = .next (u.actedOn o) ∧ (u.seq.nextIndex < u.deck.cardCount →
     u.seq.lookahead.state = .reading ∧ u.seq.lookahead.index = u.seq.nextIndex))

theorem actedOnAt_becameCurrent (htaken : s.deck.taken = some d) (hrun : s.run.state = .running) :
    actedOnAt (becameCurrent s d) d s.seq.current.outcome (.next s.becomeCurrent) := by
  obtain ⟨hdeck, hrunKept, hcurrent, hlookahead⟩ := becameCurrent_kept s d
  exact ⟨by rw [hdeck, htaken], by rw [hrunKept, hrun], by rw [hcurrent], .inr ⟨by rw [becomeCurrent_eq htaken], hlookahead⟩⟩

/-- An advance that leaves the current record PRESENT for the next card makes it current. -/
theorem actedOnAt_advance (hadvance : s.advanceRecord = v) (htaken : v.deck.taken = some d)
    (hrun : v.run.state = .running) (hpresent : v.seq.current.state = .present) (hentered : v.seq.current.entered = false) :
    actedOnAt (becameCurrent v d) d v.seq.current.outcome (.next s.advance) := by
  rw [State.advance, hadvance, takeUp_of_waiting hrun hpresent hentered]
  exact actedOnAt_becameCurrent htaken hrun

/-- RESUME to RUNNING goes on with what the current record shows. -/
theorem exec_resume_running (hlaw : GateLawful s) (hways : s.run.state = .held ∧ s.deck.taken ≠ none ∨
      s.run.state = .halted ∧ accepts .halted s.run.haltCause .resume = true ∧ s.run.resume = .running) :
    exec .resume s = .next (resumed s .running).resumeRunning := by
  rcases hways with ⟨hheld, htaken⟩ | ⟨hhalted, hcause, hpoint⟩
  · obtain ⟨d, htaken⟩ := Option.ne_none_iff_exists'.mp htaken
    have hpoint : heldResume s = .running := by rw [heldResume, htaken]
    rw [exec_resume_held hheld, hpoint, acceptResume_eq hlaw]
    rfl
  · rw [exec_resume_of_halted hlaw hhalted hcause hpoint]
    rfl

theorem currentUnfinished_of_entered (hstate : s.seq.current.state ≠ .empty) (hentered : s.seq.current.entered = true)
    (hfinished : s.seq.current.finished = false) : currentUnfinished s = true := by
  unfold currentUnfinished
  cases h : s.seq.current.state <;> simp_all

/-- A card's outcome that RESUME finds held is acted on (R137). -/
theorem resumeRunning_of_held (hstate : s.seq.current.state = .present) (hentered : s.seq.current.entered = true)
    (hfinished : s.seq.current.finished = false) (hacted : s.seq.current.acted = false) :
    s.resumeRunning = ((s.setSeq { s.seq with current := { s.seq.current with acted := true } }).actedOn
      s.seq.current.outcome).takeUp := by
  rw [State.resumeRunning, if_pos (currentUnfinished_of_entered (by rw [hstate]; nofun) hentered hfinished),
    if_neg (by simp [hacted]), hstate]
  rfl

/-- Each of the four ways leads to what the card's outcome leads to. -/
theorem cardActedOn.at {o : CardOutcome} {answer : Host.Outcome State Fault Refusal} (h : cardActedOn s d o u answer) :
    actedOnAt u d o answer := by
  obtain ⟨htaken, ⟨p, e, v, hrun, hread, ho, rfl, hv, rfl⟩ |
    ⟨hrun, hmore, hcurrent, hpresent, hindex, hentered, rfl, rfl, rfl⟩ |
    ⟨hrun, hmore, hpresent, hentered, hindex, rfl, rfl, rfl⟩ |
    ⟨hlaw, hways, hpresent, hentered, hfinished, hacted, rfl, rfl, rfl⟩⟩ := h
  · have hdelivered : s.setSeq { s.seq with current := s.seq.current.delivered (cardOutcomeOf s.rb.height e) } = v := by
      rw [hv, ho]
      rfl
    have hvrun : v.run.state = .running := by rw [hv]; exact hrun
    have hvtaken : v.deck.taken = some d := by rw [hv]; exact htaken
    have hventered : v.seq.current.entered = s.seq.current.entered := by rw [hv]
    have hvoutcome : v.seq.current.outcome = o := by rw [hv]
    rw [exec_cardReadEnd_current hread, hdelivered, ← hventered, ← hvoutcome]
    simp only [State.currentDelivered, hvrun]
    split
    next hreread => exact ⟨hvtaken, hvrun, hreread, .inl rfl⟩
    next => exact actedOnAt_becameCurrent hvtaken hvrun
  · exact actedOnAt_advance (advanceRecord_of_lookahead hrun htaken (by omega) hcurrent (by rw [hpresent]; nofun) hindex)
      htaken hrun hpresent hentered
  · exact actedOnAt_advance (advanceRecord_of_waits hrun htaken (by omega) (by rw [hpresent]; nofun) hentered hindex)
      htaken hrun hpresent hentered
  · have hpoint := hways.imp_left fun hheld => And.intro hheld (show s.deck.taken ≠ none by rw [htaken]; nofun)
    rw [exec_resume_running hlaw hpoint, resumeRunning_of_held (by simpa using hpresent) (by simpa using hentered)
      (by simpa using hfinished) (by simpa using hacted)]
    exact ⟨by simpa using htaken, by simp, hentered, .inl (by simp only [State.setSeq, resumed_seq])⟩

end Sys2Proof.Machine

/-! PROOF. An attempt prepared (R4 to R7): what `enterPreparing` does, tied to `attemptPrepared`. -/

namespace Sys2Proof.Machine

variable {s t u v : State} {d : Deck} {c : FrameCtx}

/-! ## The swap and the refusal (R5, R72, R73) -/

theorem swapTables_power (u : State) :
    u.swapTables.power =
      if u.tables.staged.drive.state = .valid then u.power.driveSwapped else u.power := by
  split
  next h => rw [swapTables_of_drive h]; rfl
  next h => rw [swapTables_of_no_drive h]; rfl

theorem swapTables_settled_iff (u : State) :
    u.swapTables.power.state = .settled ↔ u.power.state = .settled ∧ u.tables.staged.drive.state ≠ .valid := by
  rw [swapTables_power]
  split
  next h => simp [Power.driveSwapped, h]
  next h => simp [h]

/-- Why an attempt is refused at its entry to PREPARING, or that it is not (R5). -/
theorem refusalReason_eq (u : State) (c : FrameCtx) :
    ((u.tables.active.get (curveTarget c.card.stock)).valid = false ∨ u.tables.active.drive.valid = false →
      refusalReason u c = .noTable) ∧
    ((u.tables.active.get (curveTarget c.card.stock)).valid = true → u.tables.active.drive.valid = true →
      refusalReason u c = if u.power.state = .settled then .none else .notSettled) := by
  unfold refusalReason
  refine ⟨fun h => if_pos ?_, fun hcurve hdrive => ?_⟩
  · rcases h with h | h <;> simp [h]
  · rw [if_neg (by simp [hcurve, hdrive])]
    by_cases hstate : u.power.state = .settled
    · rw [if_neg (by simp [hstate]), if_pos hstate]
    · rw [if_pos (by simpa using hstate), if_neg hstate]

/-- A finish is one of every state that shows the same run, records, decks and host bus. -/
theorem cardFinishes_congr {r : CardResult} {counter : Nat} {dwell : Bool} (h : cardFinishes t v d r counter dwell)
    (hrun : t.run = s.run) (hseq : t.seq = s.seq) (hdeck : t.deck = s.deck) (hbus : t.bus = s.bus) (hrb : t.rb = s.rb)
    (haddr : runAddress t = runAddress s) : cardFinishes s v d r counter dwell := by
  have hdeckAddr : deckAddr t d = deckAddr s d := by cases d <;> simp [deckAddr, hrb]
  unfold cardFinishes at h ⊢
  simp only [refreshWrites, hrun, hseq, hdeck, hbus, haddr, hdeckAddr] at h ⊢
  exact h

/-- A FRAME card refused at PREPARING: the ring flushed, its result written, the context empty (R5, R138). -/
theorem refuseFrame_finishes (htaken : u.deck.taken = some d) (hindex : u.deck.finishedCount ≤ u.seq.current.index)
    (why : Reason) :
    ∃ v, u.refuseFrame c why = v.halt .cardRefused ∧
      cardFinishes u v d { outcome := .refused, reason := why, field := 0, kind := frameFields c .refused }
        u.film.counter false ∧
      v.frame = { u.frame with ctx := none } ∧ v.ring = u.ring.flushed u.ring.cursor.park ∧ v.dp.pending = none ∧
      v.power = u.power ∧ v.regs = u.regs := by
  have hflushed := u.zeroOrder.flushParked_eq
  have hhanded := handResult_eq (s := u.zeroOrder.flushParked) (d := d) (by simpa using htaken) (by simpa using hindex)
    { outcome := .refused, reason := why, field := 0, kind := frameFields c .refused }
  refine ⟨_, rfl, ?_, ?_⟩
  · rw [hhanded, hflushed]
    exact cardFinishes_refresh rfl rfl rfl rfl rfl
  · rw [hhanded, hflushed]
    exact ⟨by simp [State.emptyCtx, State.zeroOrder], by simp [State.emptyCtx, State.zeroOrder],
      by simp [State.emptyCtx, State.zeroOrder], by simp [State.emptyCtx, State.zeroOrder],
      by simp [State.emptyCtx, State.zeroOrder]⟩

/-! ## The cursor pointed at an attempt (R6, R55, R58) -/

theorem pointCursor_of_within (h : u.ring.cursor.within (attemptOf c) = true) : u.pointCursor c = u := if_pos h

theorem pointCursor_ring (h : u.ring.cursor.within (attemptOf c) = false) :
    (u.pointCursor c).ring =
      if u.ring.slots = [] then
        (u.setRing { u.ring with cursor := cursorAt (attemptOf c) c.card none }).fetch.ring
      else flushedRing u u.frame (cursorAt (attemptOf c) c.card none) := by
  have hnot : ¬u.ring.cursor.within c.attemptId = true := by
    show ¬u.ring.cursor.within (attemptOf c) = true
    simp [h]
  rw [State.pointCursor, if_neg hnot]
  dsimp only
  split
  next hempty => rw [if_pos (List.isEmpty_iff.mp hempty)]; rfl
  next hslots =>
    rw [if_neg (fun h => hslots (List.isEmpty_iff.mpr h)), State.flushParked_eq]
    rfl

/-! ## The entry to PREPARING (R4 to R7) -/

/-- A context at its entry to PREPARING. -/
theorem enterPreparing_of_no_film (h : u.film.magazine = 0) :
    u.enterPreparing c = (u.setCtx c.toPreparing).halt .filmOut := by
  simp only [State.enterPreparing]
  exact if_pos h

theorem enterPreparing_of_film (h : 0 < u.film.magazine) (hv : (u.setCtx c.toPreparing).swapTables = v) :
    u.enterPreparing c = match refusalReason v c.toPreparing with
      | .none => v.beginFrameWait c.toPreparing
      | why => v.refuseFrame c.toPreparing why := by
  subst hv
  simp only [State.enterPreparing]
  exact if_neg (by omega)

theorem enterPreparing_of_refused (h : 0 < u.film.magazine) (hv : (u.setCtx c.toPreparing).swapTables = v)
    {why : Reason} (hwhy : refusalReason v c.toPreparing = why) (hrefused : why ≠ .none) :
    u.enterPreparing c = v.refuseFrame c.toPreparing why := by
  rw [enterPreparing_of_film h hv, hwhy]
  cases why with
  | none => contradiction
  | _ => rfl

theorem enterPreparing_of_ready (h : 0 < u.film.magazine) (hv : (u.setCtx c.toPreparing).swapTables = v)
    (hready : refusalReason v c.toPreparing = .none) :
    u.enterPreparing c = v.beginFrameWait c.toPreparing := by
  rw [enterPreparing_of_film h hv, hready]

theorem setCtx_swapTables (u : State) (c : FrameCtx) : (u.setCtx c).swapTables = u.swapTables.setCtx c := by
  by_cases h : u.tables.staged.drive.state = .valid
  · rw [swapTables_of_drive h, swapTables_of_drive (s := u.setCtx c) h]; rfl
  · rw [swapTables_of_no_drive h, swapTables_of_no_drive (s := u.setCtx c) h]; rfl

/-- The entry to PREPARING is what the statements say of it. -/
theorem attemptPrepared_enterPreparing (u : State) (c : FrameCtx) : attemptPrepared u (u.enterPreparing c) c := by
  refine ⟨fun hempty => enterPreparing_of_no_film hempty, fun hfilm => ?_⟩
  generalize hw : u.swapTables = w
  have hv : (u.setCtx c.toPreparing).swapTables = w.setCtx c.toPreparing := by rw [setCtx_swapTables, hw]
  have hkept : (u.enterPreparing c).tables = w.tables ∧ (u.enterPreparing c).film = u.film ∧
      (u.enterPreparing c).scan = u.scan := by
    rw [enterPreparing_of_film hfilm hv, ← hw]
    split <;> simp [State.setCtx]
  obtain ⟨htables, hfilmKept, hscan⟩ := hkept
  obtain ⟨hnoTable, hwhole⟩ := refusalReason_eq (w.setCtx c.toPreparing) c.toPreparing
  refine ⟨htables, hfilmKept, hscan, fun d why htaken hindex hwhy => ?refused, fun hcurve hdrive hsettled hstaged => ?waits⟩
  case refused =>
    rw [htables] at hwhy
    have hreason : refusalReason (w.setCtx c.toPreparing) c.toPreparing = why ∧ why ≠ .none := by
      rcases hwhy with ⟨hmissing, rfl⟩ | ⟨⟨hcurve, hdrive, hunsettled⟩, rfl⟩
      · exact ⟨hnoTable hmissing, nofun⟩
      · have hstate : w.power.state ≠ .settled := by
          rw [← hw, ne_eq, swapTables_settled_iff]
          exact fun ⟨hsettled, hstaged⟩ => hunsettled.elim (· hsettled) hstaged
        exact ⟨(hwhole hcurve hdrive).trans (if_neg hstate), nofun⟩
    obtain ⟨v, hrefuse, hfinishes, hframe, hring, hpending, hpower, hregs⟩ :=
      refuseFrame_finishes (u := w.setCtx c.toPreparing) (d := d) (c := c.toPreparing) (by simp [← hw, State.setCtx, htaken])
        (by simpa [← hw, State.setCtx] using hindex) why
    refine ⟨v, (enterPreparing_of_refused hfilm hv hreason.1 hreason.2).trans hrefuse, ?_, ?_, ?_, hpending, hpower, ?_⟩
    · rw [← hw] at hfinishes
      have hcounter : (u.swapTables.setCtx c.toPreparing).film.counter = u.film.counter := by simp [State.setCtx]
      rw [hcounter] at hfinishes
      exact cardFinishes_congr hfinishes (by simp [State.setCtx]) (by simp [State.setCtx]) (by simp [State.setCtx])
        (by simp [State.setCtx]) (by simp [State.setCtx]) (by simp [State.setCtx, runAddress])
    · rw [hframe, ← hw]; simp [State.setCtx]
    · rw [hring, ← hw]; simp [State.setCtx]; rfl
    · rw [hregs, ← hw]; simp [State.setCtx]
  case waits =>
    rw [htables] at hcurve hdrive
    have hstate : w.power.state = .settled := by rw [← hw, swapTables_settled_iff]; exact ⟨hsettled, hstaged⟩
    have hpower : w.power = u.power := by rw [← hw, swapTables_power, if_neg hstaged]
    rw [enterPreparing_of_ready hfilm hv ((hwhole hcurve hdrive).trans (if_pos hstate))]
    have hrb : w.rb = u.rb := by rw [← hw]; simp
    have hframe : w.frame = u.frame := by rw [← hw]; simp
    have hringKept : w.ring = u.ring := by rw [← hw]; simp
    refine ⟨by rw [← hw]; simp [State.beginFrameWait, State.setCtx], by simpa [State.beginFrameWait, State.setCtx] using hpower,
      by rw [← hw]; simp [State.beginFrameWait, State.setCtx], by rw [← hw]; simp [State.beginFrameWait, State.setCtx],
      by rw [← hw]; simp [State.beginFrameWait, State.setCtx], ?_, fun hwithin => ?_, fun hwithin => ?_⟩
    · simp only [State.beginFrameWait, State.setCtx, State.setFrame_frame, State.pointCursor_frame, State.setFrame_rb, hrb,
        hframe]
      rfl
    · show ((w.setCtx c.toPreparing).pointCursor c.toPreparing).ring = _
      rw [pointCursor_of_within (by rw [← hringKept] at hwithin; exact hwithin)]
      exact hringKept
    · show ((w.setCtx c.toPreparing).pointCursor c.toPreparing).ring = _
      rw [pointCursor_ring (by rw [← hringKept] at hwithin; exact hwithin)]
      have halike (g : LineRing) : FetchAlike ({ w.setCtx c.toPreparing with ring := g } : State)
          { u with frame := { u.frame with ctx := some c.toPreparing }, ring := g } := by
        rw [← hw]
        exact ⟨by simp [State.setCtx], by simp [State.setCtx], rfl, by simp [State.setCtx], by simp [State.setCtx],
          fun _ => rfl⟩
      show (if w.ring.slots = [] then _ else _) = _
      rw [hringKept]
      split
      · refine Eq.trans ?_ (halike _).fetch.ring
        rw [← hringKept]
        rfl
      · refine Eq.trans ?_ (halike _).fetch.ring
        rw [← hringKept]
        rfl

end Sys2Proof.Machine

/-! PROOF. A card's outcome acted on by its owner, an advance, and RESUME to RUNNING (R135 to R140, R163 to R165): O14,
O50, O52 and O53. -/

namespace Sys2Proof.Machine

variable {s t u v : State} {d : Deck} {answer : Host.Outcome State Fault Refusal}

/-! ## Owners that leave the current card as it became current -/

/-- An outcome that leaves nothing for step 4 of an advance is what the machine answers. -/
theorem actedOnAt.answer_of_takeUp {o : CardOutcome} (h : actedOnAt u d o answer)
    (htaken : (u.actedOn o).takeUp = u.actedOn o) : answer = .next (u.actedOn o) := by
  obtain ⟨-, -, -, hanswer | ⟨hanswer, -⟩⟩ := h
  · rwa [htaken] at hanswer
  · exact hanswer

theorem actedOnAt.answer_eq {o : CardOutcome} (h : actedOnAt u d o answer)
    (hentered : (u.actedOn o).seq.current.entered = true) : answer = .next (u.actedOn o) :=
  h.answer_of_takeUp (takeUp_of_entered hentered)

@[simp] theorem handResult_entered (s : State) (r : CardResult) :
    (s.handResult r).seq.current.entered = s.seq.current.entered := by
  simp [State.handResult]

theorem enterPreparing_entered (u : State) (c : FrameCtx) :
    (u.enterPreparing c).seq.current.entered = u.seq.current.entered := by
  rcases Nat.eq_zero_or_pos u.film.magazine with hempty | hfilm
  · rw [enterPreparing_of_no_film hempty]
    simp [State.setCtx]
  · rw [enterPreparing_of_film hfilm rfl]
    split
    · simp [State.setCtx]
    · simp [State.refuseFrame, State.setCtx, State.emptyCtx, State.zeroOrder]

theorem dispatchFrame_eq (u : State) (k : FrameCard) :
    u.actedOn (.good (.frame k)) = u.enterPreparing (contextOf u.seq.current k) := rfl

/-- A GOOD FRAME card goes to Frame Exposure. -/
theorem actedOnAt.frame {k : FrameCard} (h : actedOnAt u d (.good (.frame k)) answer) :
    ∃ t, answer = .next t ∧ attemptPrepared u t (contextOf u.seq.current k) := by
  have hentered : (u.actedOn (.good (.frame k))).seq.current.entered = true := by
    rw [dispatchFrame_eq, enterPreparing_entered]
    exact h.2.2.1
  refine ⟨_, h.answer_eq hentered, ?_⟩
  rw [dispatchFrame_eq]
  exact attemptPrepared_enterPreparing u _

/-- An INVALID card is REFUSED, and the run halts. -/
theorem actedOnAt.invalid {why : Reason} {field : Nat} {b : CardBody} (h : actedOnAt u d (.invalid why field b) answer)
    (hindex : u.deck.finishedCount ≤ u.seq.current.index) :
    ∃ v, answer = .next (v.halt .cardRefused) ∧
      cardFinishesAlone u v d { outcome := .refused, reason := why, field := field, kind := unworked b } := by
  have hentered : (u.actedOn (.invalid why field b)).seq.current.entered = true := by
    simpa [State.actedOn, State.refuseInvalid] using h.2.2.1
  exact ⟨_, h.answer_eq hentered, cardFinishesAlone_handResult h.1 hindex _⟩

/-- A card whose read failed halts the run without a result. -/
theorem actedOnAt.readFailed (h : actedOnAt u d .readFailed answer) : answer = .next (u.halt .cardRead) :=
  h.answer_eq (by simpa [State.actedOn] using h.2.2.1)

/-- Settles O50. -/
theorem frameCardIsPrepared : Obligations.FrameCardIsPrepared := fun _ _ _ _ _ h => h.at.frame

/-! ## An advance (R135) -/

theorem advanceRecord_of_not_running (h : s.run.state ≠ .running) : s.advanceRecord = s := by
  unfold State.advanceRecord
  split
  next hrun _ => exact absurd hrun h
  next => rfl

theorem advance_of_not_running (h : s.run.state ≠ .running) : s.advance = s := by
  rw [State.advance, advanceRecord_of_not_running h, takeUp_of_not_running h]

theorem returnDeck_of_taken (h : s.deck.taken = some d) :
    s.returnDeck = ((s.busWrite (deckAddr s d) [3, 0, 0, 0]).setDeck { s.deck with taken := none }).raise .deckReturned := by
  unfold State.returnDeck
  rw [h]
  rfl

/-- At the deck's end the deck is returned and the next one sought (R135 step 1, R153). -/
theorem advance_of_end (hrun : s.run.state = .running) (htaken : s.deck.taken = some d)
    (hend : s.seq.nextIndex = s.deck.cardCount) :
    s.advance = seekBegun (((s.emptyRecords.busWrite (deckAddr s d) [3, 0, 0, 0]).setDeck
      { s.deck with taken := none }).raise .deckReturned) := by
  have hreturned : s.emptyRecords.returnDeck = ((s.emptyRecords.busWrite (deckAddr s d) [3, 0, 0, 0]).setDeck
      { s.deck with taken := none }).raise .deckReturned := returnDeck_of_taken (s := s.emptyRecords) htaken
  rw [State.advance, advanceRecord_of_end hrun htaken hend, State.deckDone, hreturned, State.seekDeck_eq,
    takeUp_of_not_present (by exact (nofun : RecState.empty ≠ .present))]

/-- A card whose read is under way is waited for. -/
theorem advance_of_waits (hrun : s.run.state = .running) (htaken : s.deck.taken = some d)
    (hmore : s.seq.nextIndex < s.deck.cardCount) (hstate : s.seq.current.state = .reading)
    (hentered : s.seq.current.entered = false) (hindex : s.seq.current.index = s.seq.nextIndex) : s.advance = s := by
  rw [State.advance, advanceRecord_of_waits hrun htaken (by omega) (by rw [hstate]; nofun) hentered hindex,
    takeUp_of_not_present (by rw [hstate]; nofun)]

/-- A lookahead whose read is under way becomes the current record, and is waited for. -/
theorem advance_of_lookahead_reading (hrun : s.run.state = .running) (htaken : s.deck.taken = some d)
    (hmore : s.seq.nextIndex ≠ s.deck.cardCount) (hcurrent : s.seq.current.state = .empty ∨ s.seq.current.entered = true)
    (hstate : s.seq.lookahead.state = .reading) (hindex : s.seq.lookahead.index = s.seq.nextIndex) :
    s.advance = s.setSeq { s.seq with current := s.seq.lookahead, lookahead := .emptied } := by
  rw [State.advance, advanceRecord_of_lookahead hrun htaken hmore hcurrent (by rw [hstate]; nofun) hindex,
    takeUp_of_not_present (by rw [State.setSeq_seq, hstate]; nofun)]

/-- With no lookahead the next card is read now. -/
theorem advance_of_no_lookahead (hrun : s.run.state = .running) (htaken : s.deck.taken = some d)
    (hmore : s.seq.nextIndex ≠ s.deck.cardCount) (hcurrent : s.seq.current.state = .empty ∨ s.seq.current.entered = true)
    (hstate : s.seq.lookahead.state = .empty) :
    s.advance = { s with
      seq := { s.seq with current := recordReading s s.seq.nextIndex }
      bus := s.bus ++ [.read s.nextId (deckAddr s d + BitVec.ofNat 64 (64 + 128 * s.seq.nextIndex)) 80]
      nextId := s.nextId + 1 } := by
  have hread : s.readCurrent s.seq.nextIndex = { s with
      seq := { s.seq with current := recordReading s s.seq.nextIndex }
      bus := s.bus ++ [.read s.nextId (deckAddr s d + BitVec.ofNat 64 (64 + 128 * s.seq.nextIndex)) 80]
      nextId := s.nextId + 1 } := by
    rw [State.readCurrent, State.readBody, takenAddr_eq htaken, addrPlus_slot]
    rfl
  rw [State.advance, advanceRecord_of_none hrun htaken hmore hcurrent (.inl hstate), hread,
    takeUp_of_not_present (by exact (nofun : RecState.reading ≠ .present))]

/-- RESUME in HELD with a deck taken, and no card unfinished, carries out the held advance. -/
theorem exec_resume_held_advance (hheld : s.run.state = .held) (htaken : s.deck.taken = some d)
    (hfinished : currentUnfinished s = false) :
    exec .resume s = .next (((s.setRun { s.run with haltCause := .none, lastOutcome := .accepted }).changeRunState
      .running).advance) := by
  have hpoint : heldResume s = .running := by rw [heldResume, htaken]
  rw [exec_resume_held hheld, hpoint, State.acceptResume, State.resumeAt, State.resumeRunning, if_neg]
  · rfl
  · simpa [currentUnfinished, ResumePoint.runState] using hfinished

/-- Settles O53. -/
theorem advanceTakesTheNextCard : Obligations.AdvanceTakesTheNextCard := by
  intro s d htaken
  refine ⟨advance_of_not_running, fun hheld hfinished => exec_resume_held_advance hheld htaken hfinished,
    fun hrun hend => ?returned, fun hrun hmore => advance_of_waits hrun htaken hmore,
    fun hrun hmore hcurrent => ⟨fun hstate hindex => ?_, fun hstate => ?_⟩, fun u hrun hmore hways => ?taken⟩
  case returned =>
    rw [advance_of_end hrun htaken hend]
    refine ⟨rfl, by simp [seekBegun, Cause.bit], rfl, rfl, ?_, rfl, rfl, rfl⟩
    simp [seekBegun, nextDeckAddress, State.busWrite, State.emptyRecords]
  · exact advance_of_lookahead_reading hrun htaken (by omega) hcurrent hstate hindex
  · exact advance_of_no_lookahead hrun htaken (by omega) hcurrent hstate
  case taken =>
    have hacted : actedOnAt u d u.seq.current.outcome (.next s.advance) := by
      rcases hways with ⟨hcurrent, hpresent, hindex, hentered, rfl⟩ | ⟨hpresent, hentered, hindex, rfl⟩
      · rw [(becameCurrent_kept _ d).2.2.1]
        exact actedOnAt_advance (advanceRecord_of_lookahead hrun htaken (by omega) hcurrent (by rw [hpresent]; nofun) hindex)
          htaken hrun hpresent hentered
      · rw [(becameCurrent_kept _ d).2.2.1]
        exact actedOnAt_advance (advanceRecord_of_waits hrun htaken (by omega) (by rw [hpresent]; nofun) hentered hindex)
          htaken hrun hpresent hentered
    refine ⟨fun ho => ?_, fun why field b ho hindex => ?_, fun k ho => ?_⟩
    · rw [ho] at hacted
      exact Host.Outcome.next.inj hacted.readFailed
    · rw [ho] at hacted
      obtain ⟨v, hv, hfinishes⟩ := hacted.invalid hindex
      exact ⟨v, Host.Outcome.next.inj hv, hfinishes⟩
    · rw [ho] at hacted
      obtain ⟨t, ht, hprepared⟩ := hacted.frame
      rwa [Host.Outcome.next.inj ht]

end Sys2Proof.Machine

/-! PROOF. The owners of TABLE, CALIBRATE, LEADER, HOLD and END cards take a GOOD card (R65, R66, R107, R112, R123, R125,
R139, R140), and the end of a card's read (R133 to R137): O49, O51 and O52. -/

namespace Sys2Proof.Machine

variable {s t u v : State} {d : Deck} {answer : Host.Outcome State Fault Refusal}

/-! ## The load that a TABLE card opens (R65, R66) -/

theorem targets_get_put {α : Type} (p : PerTarget α) (g : Target) (x : α) : (p.put g x).get g = x := by
  cases g <;> rfl

/-- A load of the card at the current record, opened at u, once n of its reads were issued. -/
def loadOpened (u : State) (g : Target) (source : Addr) (sum n : Nat) : State :=
  { u with
    tables := { u.tables with
      staged := u.tables.staged.put g { state := .loading, words := List.replicate (imageWords g) 0 }
      load := some { target := g, serial := u.seq.current.serial, index := u.seq.current.index, source := source
                     expected := sum, issued := n, ended := 0, failed := false }
      reads := u.tables.reads ++ (List.range n).map fun j =>
        { id := u.nextId + j, live := true, number := j, bytes := min 512 (2 * imageWords g - 512 * j)
          timer := u.rb.readLimit * 1000 } }
    bus := u.bus ++ (List.range n).map (fun j =>
      .read (u.nextId + j) (source + BitVec.ofNat 64 (512 * j)) (min 512 (2 * imageWords g - 512 * j)))
    nextId := u.nextId + n }

/-- An examination issues the load's next read while one is left and fewer than 4 are outstanding. -/
theorem loadOne_loadOpened (u : State) (g : Target) (source : Addr) (sum n : Nat) :
    (loadOpened u g source sum n).loadOne =
      if n < imageReads g ∧ u.tables.reads.length + n < 4 then loadOpened u g source sum (n + 1)
      else loadOpened u g source sum n := by
  have hready : loadReady (loadOpened u g source sum n).tables
      { target := g, serial := u.seq.current.serial, index := u.seq.current.index, source := source
        expected := sum, issued := n, ended := 0, failed := false } = true ↔
      n < imageReads g ∧ u.tables.reads.length + n < 4 := by
    simp [loadReady, loadOpened, Config.loadReadLimit]
  have hload : (loadOpened u g source sum n).tables.load = some
      { target := g, serial := u.seq.current.serial, index := u.seq.current.index, source := source
        expected := sum, issued := n, ended := 0, failed := false } := rfl
  unfold State.loadOne
  simp only [hload]
  by_cases hissue : n < imageReads g ∧ u.tables.reads.length + n < 4
  · rw [if_pos hissue, if_pos (hready.mpr hissue)]
    unfold loadOpened
    rw [List.range_succ, List.map_append, List.map_append, ← List.append_assoc, ← List.append_assoc]
    rfl
  · rw [if_neg hissue, if_neg (fun h => hissue (hready.mp h))]

theorem loadOne_loadOpened_min {g : Target} {source : Addr} {sum n k : Nat}
    (hn : n = min (4 - u.tables.reads.length) (imageReads g)) (hk : k ≤ n) :
    (loadOpened u g source sum k).loadOne = loadOpened u g source sum (min (k + 1) n) := by
  rw [loadOne_loadOpened]
  split
  · rw [show min (k + 1) n = k + 1 by omega]
  · rw [show min (k + 1) n = k by omega]

theorem openLoad_eq {g : Target} {n : Nat} (hn : n = min (4 - u.tables.reads.length) (imageReads g)) (source : Addr)
    (sum : Nat) : u.openLoad g source sum = loadOpened u g source sum n := by
  have hopened : u.openLoad g source sum = (loadOpened u g source sum 0).loadMore := by
    simp [State.openLoad, loadOpened, State.setTables]
  rw [hopened, State.loadMore, loadOne_loadOpened_min hn (by omega), loadOne_loadOpened_min hn (by omega),
    loadOne_loadOpened_min hn (by omega), loadOne_loadOpened_min hn (by omega)]
  congr 1
  omega

/-! ## The settle that a CALIBRATE card begins (R107, R112) -/

theorem dispatchCalibrate_of_drive (h : u.swapTables.tables.active.drive.valid = true) :
    u.dispatchCalibrate = settleBegun u.swapTables := by
  rw [State.dispatchCalibrate, if_pos h, State.beginSettle_eq]

/-- Settles O51. -/
theorem tableAndCalibrateCardsBegin : Obligations.TableAndCalibrateCardsBegin := by
  refine fun s u d answer => ⟨fun code source sum g n h htarget hn => ?table,
    fun h => ⟨fun hdrive => ?settles, fun hdrive hindex => ?refused⟩⟩
  case table =>
    have hopened : u.actedOn (.good (.table code source sum)) = loadOpened u g source sum n := by
      show u.dispatchTable code source sum = _
      rw [State.dispatchTable, htarget]
      exact openLoad_eq hn source sum
    have hanswer := h.at.answer_eq (by rw [hopened]; exact h.at.2.2.1)
    rw [hopened] at hanswer
    have hstaged : (loadOpened u g source sum n).tables.staged.get g =
        { state := .loading, words := List.replicate (imageWords g) 0 } := targets_get_put _ _ _
    exact ⟨_, hanswer, rfl, by rw [hstaged], by rw [hstaged]; rfl⟩
  case settles =>
    have hsettles : u.actedOn (.good .calibrate) = settleBegun u.swapTables := dispatchCalibrate_of_drive hdrive
    have hanswer := h.at.answer_eq (by rw [hsettles]; simpa [settleBegun] using h.at.2.2.1)
    rwa [hsettles] at hanswer
  case refused =>
    have hrefused : u.actedOn (.good .calibrate) = (u.swapTables.handResult
        { outcome := .refused, reason := .noTable, field := 0, kind := .none }).refresh.halt .cardRefused := by
      show u.dispatchCalibrate = _
      rw [State.dispatchCalibrate]
      exact if_neg (by simp [hdrive])
    have hanswer := h.at.answer_eq (by rw [hrefused]; simpa using h.at.2.2.1)
    rw [hrefused] at hanswer
    exact ⟨_, hanswer, cardFinishesAlone_handResult (by simpa using h.at.1) (by simpa using hindex) _⟩

/-! ## LEADER, HOLD and END cards (R123, R125, R139, R140) -/

theorem beginLeader_eq (f : Film) (rb : RunBlock) (noEdge : Bool) :
    ∃ timer, f.beginLeader rb noEdge = { f with
      state := .catchup, owed := f.owed + rb.film.ms, stepTimer := timer, scanRequested := rb.film.ms, scanIssued := 0
      pullIssued := 0, perfCount := 0
      cycle := some { forFrame := false, kind := .leader, position := f.counter
                      edgeOn := rb.film.edgeEnable == 1 && !noEdge } } := ⟨_, rfl⟩

/-- A leader cycle that may begin does, or finds the magazine empty (R123, R125). -/
theorem leaderCycle_of_ready {l : LeaderCard} (hleader : s.film.leader = some l) (hready : leaderReady s l = true) :
    (s.film.magazine = 0 → s.leaderCycle = s.halt .filmOut) ∧
    (0 < s.film.magazine → s.leaderCycle = s.setFilm (s.film.beginLeader s.rb l.noEdge)) := by
  unfold State.leaderCycle
  rw [hleader]
  simp only [hready, if_true]
  exact ⟨fun h => if_pos h, fun h => if_neg (by omega)⟩

theorem leaderReady_of {l : LeaderCard} (hstill : s.film.state = .still) (hmore : l.completed < l.count)
    (hrun : s.run.state = .running) (hstop : s.run.stopPending = false) (hdark : s.power.darkHaltPending = false) :
    leaderReady s l = true := by
  simp [leaderReady, hstill, hmore, hrun, hstop, hdark]

theorem runAddress_raise (s : State) (c : Cause) : runAddress (s.raise c) = runAddress s := rfl

/-- HELD entered with HOLD raised, from a card's finish in RUNNING (R139, R162). -/
theorem enterHeld_marked (hrun : u.run.state = .running) (ht : u.enterHeld true = t) :
    t.run = { u.run with state := .held, pausePending := false } ∧ t.regs.causes = u.regs.causes ||| 4 ∧
    t.seq = u.seq ∧ t.deck.taken = u.deck.taken ∧ t.deck.finishedCount = u.deck.finishedCount ∧ t.frame = u.frame ∧
    t.ring = u.ring ∧ t.film = u.film ∧ t.scan = u.scan ∧ t.tables = u.tables ∧ t.dp = u.dp ∧
    t.bus = u.bus ++ refreshWrites u 1 (snapshotBody t) := by
  have hseek : u.stopSeekOfWaiting = u := by
    unfold State.stopSeekOfWaiting
    rw [hrun]
  have hheld : u.enterHeld true =
      (((u.setRun { u.run with pausePending := false }).enterRunState .held).raise .hold).refresh := by
    rw [State.enterHeld, hseek]
    rfl
  subst ht
  rw [hheld]
  refine ⟨by simp [State.enterRunState], by simp [State.enterRunState, Cause.bit], by simp, by simp,
    by simp [State.refresh_eq], by simp, by simp, by simp, by simp, by simp, by simp, ?_⟩
  rw [State.refresh_bus, snapshotBody_refresh, refreshWrites_congr (s := u) (n := 1)
    ((runAddress_raise _ _).trans (by simp [runAddress])) (by simp) (by simp)]
  simp

/-- Settles O52. -/
theorem leaderHoldAndEndCards : Obligations.LeaderHoldAndEndCards := by
  refine fun s u d answer => ⟨fun count noEdge l h hstill hcount hstop hdark hl => ?leader, fun h hindex => ?hold,
    fun h hindex => ?finish⟩
  case leader =>
    obtain ⟨-, hrun, hentered, -⟩ := h.at
    have htaken : u.actedOn (.good (.leader count noEdge)) =
        (u.setFilm { u.film with leader := some l }).leaderCycle := by rw [hl]; rfl
    have hready : leaderReady (u.setFilm { u.film with leader := some l }) l = true :=
      leaderReady_of hstill (by rw [hl]; exact hcount) hrun hstop hdark
    obtain ⟨hempty, hbegins⟩ := leaderCycle_of_ready (s := u.setFilm { u.film with leader := some l }) rfl hready
    refine ⟨fun hfilm => ?_, fun hfilm => ?_⟩
    · rw [hempty hfilm] at htaken
      have hanswer := h.at.answer_eq (by rw [htaken]; simpa using hentered)
      rwa [htaken] at hanswer
    · rw [hbegins hfilm] at htaken
      obtain ⟨timer, hfilmBegun⟩ := beginLeader_eq { u.film with leader := some l } u.rb noEdge
      have hanswer := h.at.answer_eq (by rw [htaken]; exact hentered)
      rw [htaken] at hanswer
      refine ⟨timer, hanswer.trans ?_⟩
      subst hl
      exact congrArg (fun f => Host.Outcome.next (u.setFilm f)) hfilmBegun
  case hold =>
    obtain ⟨htaken, hrun, hentered, -⟩ := h.at
    have hfinishes := cardFinishesAlone_handResult htaken hindex
      { outcome := .done, reason := .none, field := 0, kind := .none }
    generalize hv : (u.handResult { outcome := .done, reason := .none, field := 0, kind := .none }).refresh = v at hfinishes
    have hheld : u.actedOn (.good .hold) = v.enterHeld true := by rw [← hv]; rfl
    obtain ⟨⟨hvrun, hvseq, hvdeck, -⟩, hframe, hring, hdp, htables, hscan, -, hfilm, -, hregs⟩ := id hfinishes
    obtain ⟨trun, tcauses, tseq, ttaken, tcount, tframe, tring, tfilm, tscan, ttables, tdp, tbus⟩ :=
      enterHeld_marked (u := v) (by rw [hvrun, hrun]) rfl
    have hanswer := h.at.answer_eq (by rw [hheld, tseq, hvseq]; exact hentered)
    rw [hheld] at hanswer
    exact ⟨v, _, hanswer, hfinishes, by rw [trun, hvrun], by rw [tcauses, hregs], tseq, by rw [ttaken, hvdeck]; exact htaken,
      by rw [tcount, hvdeck], by rw [tframe, hframe], by rw [tring, hring], by rw [tfilm, hfilm], by rw [tscan, hscan],
      by rw [ttables, htables], by rw [tdp, hdp], tbus⟩
  case finish =>
    have hended : u.actedOn (.good .endCard) =
        (u.handResult { outcome := .done, reason := .none, field := 0, kind := .none }).refresh.endRun := rfl
    have hanswer := h.at.answer_of_takeUp (by
      rw [hended]
      exact takeUp_of_not_running (by simp [State.endRun, State.toIdle]))
    rw [hended] at hanswer
    exact ⟨_, hanswer, cardFinishesAlone_handResult h.at.1 hindex _⟩

/-! ## The end of a card's read (R133, R56) -/

theorem exec_cardReadEnd_lookahead {p : PendingRead} {e : ReadEnd} (hread : s.seq.lookahead.read = some p)
    (hcurrent : s.seq.current.awaits p.id = false) :
    exec (.cardReadEnd p.id e) s = .next
      (s.setSeq { s.seq with lookahead := s.seq.lookahead.delivered (cardOutcomeOf s.rb.height e) }).tryCross.fetch := by
  have hawaits : s.seq.lookahead.awaits p.id = true := by simp [CardRecord.awaits, hread]
  show execCardReadEnd p.id e s = _
  simp [execCardReadEnd, hawaits, hcurrent]

/-- A SPENT cursor crosses where it may, and any other cursor stays (R56). -/
theorem crossedCursor_of_mayCross {k : FrameCard} (hspent : s.ring.cursor.state = .spent) (h : mayCross s k) :
    crossedCursor s = some (crossedTo s k) := by
  obtain ⟨⟨c, hctx, htag, hserial, hindex⟩, hpresent, hgood⟩ := h
  simp [crossedCursor, hctx, lookaheadFrame, hpresent, hgood, hspent, ofCard, htag, hserial, hindex, crossedTo, cursorAt,
    Cursor.pointed]

theorem crossedCursor_eq_none (h : s.ring.cursor.state ≠ .spent ∨ ∀ k, ¬mayCross s k) : crossedCursor s = none := by
  unfold crossedCursor
  split
  next c k hctx hlookahead =>
    refine if_neg (fun hcrosses => ?_)
    simp only [Bool.and_eq_true, beq_iff_eq, ofCard] at hcrosses
    obtain ⟨hspent, ⟨htag, hserial⟩, hindex⟩ := hcrosses
    rcases h with h | h
    · exact h hspent
    · refine h k ⟨⟨c, hctx, htag, hserial, hindex⟩, ?_⟩
      unfold lookaheadFrame at hlookahead
      split at hlookahead
      next hpresent hgood => exact ⟨hpresent, by rw [hgood, Option.some.inj hlookahead]⟩
      next => contradiction
  next => rfl

theorem tryCross_of_mayCross {k : FrameCard} (hspent : s.ring.cursor.state = .spent) (h : mayCross s k) :
    s.tryCross = { s with ring.cursor := crossedTo s k } := by
  rw [State.tryCross, crossedCursor_of_mayCross hspent h]
  rfl

theorem tryCross_of_not (h : s.ring.cursor.state ≠ .spent ∨ ∀ k, ¬mayCross s k) : s.tryCross = s := by
  rw [State.tryCross, crossedCursor_eq_none h]

/-- The current card's read ends in RUNNING: its outcome is acted on. -/
theorem actedOnAt_cardReadEnd {p : PendingRead} {e : ReadEnd} (htaken : s.deck.taken = some d)
    (hrun : s.run.state = .running) (hread : s.seq.current.read = some p)
    (hv : v = { s with seq.current := { s.seq.current with
      state := .present, read := none, outcome := cardOutcomeOf s.rb.height e } })
    (hu : u = if s.seq.current.entered then { v with seq.current := { v.seq.current with acted := true } }
      else becameCurrent v d) :
    actedOnAt u d (cardOutcomeOf s.rb.height e) (exec (.cardReadEnd p.id e) s) :=
  cardActedOn.at ⟨htaken, .inl ⟨p, e, v, hrun, hread, rfl, rfl, hv, hu⟩⟩

@[simp] theorem halt_finishedCount (s : State) (c : HaltCause) :
    (s.halt c).deck.finishedCount = s.deck.finishedCount := by
  unfold State.halt
  split
  · simp [State.refresh_eq, State.stopSeekOfWaiting]
    split <;> rfl
  · split <;> simp [State.refresh_eq]

/-- The next card's read leaves the records but the lookahead. -/
theorem readLookahead_seq (s : State) :
    s.readLookahead.seq = { s.seq with lookahead := s.readLookahead.seq.lookahead } := by
  unfold State.readLookahead
  split <;> rfl

/-- A card whose read failed halts the run, whether it becomes current by it or is read again. -/
theorem currentDelivered_of_readFailed (hrun : v.run.state = .running) (ho : v.seq.current.outcome = .readFailed) :
    ∃ w : State, v.currentDelivered = w.halt .cardRead ∧ w.run = v.run ∧ w.deck = v.deck ∧ w.frame = v.frame ∧
      w.film = v.film ∧ w.seq.current.finished = v.seq.current.finished ∧
      w.seq.nextIndex = (if v.seq.current.entered then v.seq.nextIndex else v.seq.nextIndex + 1) ∧
      (v.seq.current.entered = true → w.seq.lookahead = v.seq.lookahead) := by
  unfold State.currentDelivered
  rw [hrun]
  dsimp only
  split
  next hentered =>
    refine ⟨v.setSeq { v.seq with current := { v.seq.current with acted := true } }, ?_, rfl, rfl, rfl, rfl, rfl, rfl, fun _ => rfl⟩
    rw [State.actAnew, actOnCard_eq, ho, State.actedOn]
    exact takeUp_of_entered (by simpa using hentered)
  next hnot =>
    generalize hu : v.setSeq { v.seq with
      nextIndex := v.seq.nextIndex + 1, current := { v.seq.current with entered := true } } = u
    have hseq := readLookahead_seq u
    have hnext : u.readLookahead.seq.nextIndex = v.seq.nextIndex + 1 := by rw [hseq, ← hu]; rfl
    have hcurrent : u.readLookahead.seq.current = { v.seq.current with entered := true } := by rw [hseq, ← hu]; rfl
    refine ⟨u.readLookahead.setSeq { u.readLookahead.seq with current := { u.readLookahead.seq.current with acted := true } },
      ?_, by simp [← hu], by simp [← hu], by simp [← hu], by simp [← hu], by simp [hcurrent],
      hnext,
      fun h => absurd h hnot⟩
    rw [State.becomeCurrent, hu, actOnCard_eq, hcurrent]
    simp only [ho]
    rfl

/-- Settles O49. -/
theorem cardReadEnds : Obligations.CardReadEnds := by
  refine fun s p e => ⟨fun hread hcurrent => ?lookahead, fun hread hrun => ?held, fun passed hread hrun hpassed =>
    ⟨fun ho => ?failed, fun d why field b ho htaken hindex w u hw hu => ?invalid⟩⟩
  case lookahead =>
    refine ⟨_, exec_cardReadEnd_lookahead hread hcurrent, ?_⟩
    generalize hu : s.setSeq { s.seq with lookahead := s.seq.lookahead.delivered (cardOutcomeOf s.rb.height e) } = u
    have hseq : u.tryCross.fetch.seq = u.seq := by simp
    have hu' : ({ s with seq := u.seq } : State) = u := by rw [← hu]; rfl
    have hring : u.ring = s.ring := by rw [← hu]; rfl
    rw [hseq, hu']
    refine ⟨by rw [← hu]; rfl, fun k hspent hcross => ?_, fun hnot => ?_, by simp [← hu], by simp [← hu], by simp [← hu],
      by simp [← hu]⟩
    · rw [tryCross_of_mayCross (by rw [hring]; exact hspent) hcross, ← hring, ← hu]
      exact ⟨rfl, rfl⟩
    · rw [tryCross_of_not (by rw [hring]; exact hnot)]
      exact ⟨rfl, rfl⟩
  case held =>
    rw [exec_cardReadEnd_current hread]
    unfold State.currentDelivered
    split
    next hrunning => exact absurd hrunning hrun
    next => rfl
  case failed =>
    rw [exec_cardReadEnd_current hread]
    obtain ⟨w, hw, hwrun, hdeck, hframe, hfilm, hfinished, hnext, hlookahead⟩ := currentDelivered_of_readFailed
      (v := s.setSeq { s.seq with current := s.seq.current.delivered (cardOutcomeOf s.rb.height e) }) hrun ho
    obtain ⟨htrun, -⟩ := State.halt_taken w .cardRead (by rw [hwrun]; exact congrArg RunState.takesHalt hrun)
    rw [hw]
    exact ⟨_, rfl, by rw [htrun], by rw [htrun]; rfl, by rw [State.halt_seq, hpassed]; exact hnext,
      by rw [State.halt_seq]; exact hfinished,
      by simp [hdeck], fun h => by simpa using hlookahead h, by simpa using hframe, by simpa using hfilm⟩
  case invalid =>
    have hacted := actedOnAt_cardReadEnd (e := e) htaken hrun hread hw hu
    rw [ho] at hacted
    have hcurrent : u.seq.current.index = s.seq.current.index ∧ u.deck = s.deck ∧ u.seq.nextIndex = passed := by
      rw [hu, hpassed]
      split
      · rw [hw]; exact ⟨rfl, rfl, rfl⟩
      · obtain ⟨hdeck, -, hrecord, -⟩ := becameCurrent_kept w d
        refine ⟨by rw [hrecord, hw], by rw [hdeck, hw], ?_⟩
        rw [becameCurrent]
        dsimp only
        split <;> rw [hw]
    obtain ⟨v, hv, hfinishes⟩ := hacted.invalid (by rw [hcurrent.1, hcurrent.2.1]; exact hindex)
    refine ⟨v, hv, ?_, hfinishes⟩
    obtain ⟨⟨-, hvseq, -⟩, -⟩ := hfinishes
    rw [hvseq]
    exact hcurrent.2.2

end Sys2Proof.Machine

/-! PROOF. Settle readings, load reads and dumps, whose last end finishes a card (R66 to R71, R74, R75, R108, R109, R112):
O38, O41 and O44. -/

namespace Sys2Proof.Machine

variable {s t u v : State} {d : Deck}

/-! ## A settle reading (R108, R109) -/

/-- A reading in band of its channel. -/
abbrev readingInBand (s : State) (ch : Channel) (m : BitVec 10) : Prop :=
  m ≠ 0 ∧ ((m.toNat : Int) - s.rb.power.tgt.get ch).natAbs ≤ s.rb.power.db

theorem inBand_iff (s : State) (ch : Channel) (m : BitVec 10) :
    inBand s.rb.power ch m.toNat = true ↔ readingInBand s ch m := by
  have hdark : m.toNat ≠ 0 ↔ m ≠ 0 := ⟨fun h hm => h (by rw [hm]; rfl), fun h hm => h (BitVec.eq_of_toNat_eq hm)⟩
  simp [inBand, readingInBand, hdark]

theorem settlePwr_eq (s : State) (ch : Channel) (m : BitVec 10) (v : Int) :
    settlePwr s.rb.power ch m.toNat v =
      if readingInBand s ch m then v
      else max (-(s.rb.power.lim : Int)) (min (s.rb.power.lim : Int)
        (v + (if m.toNat < s.rb.power.tgt.get ch then (s.rb.power.sstep : Int) else -(s.rb.power.sstep : Int)))) := by
  unfold settlePwr
  by_cases hband : readingInBand s ch m
  · rw [if_pos ((inBand_iff s ch m).mpr hband), if_pos hband]
  · rw [if_neg (fun h => hband ((inBand_iff s ch m).mp h)), if_neg hband]
    simp only [limitPwr_eq_max_min, Int.ofNat_lt]
    split
    · rfl
    · rw [Int.sub_eq_add_neg]

/-- The Regulator once a settle reading was counted, PWR stepped (R108 steps 1 and 2). -/
def settleReadAs (p : Power) (ch : Channel) (n : Nat) (w : Int) : Power :=
  { p with
    conversion := none, pwr := p.pwr.put ch w
    settle := { p.settle with attempts := p.settle.attempts + 1, inBand := n } }

theorem settleCounted_eq {ch : Channel} {m : BitVec 10} {n : Nat} {w : Int} (hchannel : s.power.settle.channel = ch)
    (hn : n = if readingInBand s ch m then s.power.settle.inBand + 1 else 0)
    (hw : w = if readingInBand s ch m then s.power.pwr.get ch
      else max (-(s.rb.power.lim : Int)) (min (s.rb.power.lim : Int)
        (s.power.pwr.get ch +
          (if m.toNat < s.rb.power.tgt.get ch then (s.rb.power.sstep : Int) else -(s.rb.power.sstep : Int))))) :
    s.conversionOver.power.settleCounted s.rb.power m.toNat = settleReadAs s.power ch n w := by
  have hcount : (if inBand s.rb.power ch m.toNat = true then s.power.settle.inBand + 1 else 0) = n := by
    rw [hn]
    exact if_congr (inBand_iff s ch m) rfl rfl
  have hpwr : settlePwr s.rb.power ch m.toNat (s.power.pwr.get ch) = w := by rw [settlePwr_eq, hw]
  subst hchannel
  unfold Power.settleCounted
  rw [settleReadAs, ← hcount, ← hpwr]
  rfl

/-- A valid SETTLE reading that fits is used (R102, R108). -/
theorem exec_conversionCompletion_settle {c : Conversion} {m : BitVec 10} {ch : Channel}
    (hconversion : s.power.conversion = some c)
    (hsample : c.sample = { channel := ch, purpose := .settle, valid := true }) (hsettling : s.power.state = .settling)
    (hchannel : s.power.settle.channel = ch) :
    exec (.conversionCompletion m) s = .next (s.conversionOver.useSettle m.toNat) := by
  have hfits : readingFits s.conversionOver c.sample = true := by
    simp [readingFits, hsample, State.conversionOver, hsettling, hchannel]
  rw [exec_conversionCompletion hconversion, State.useReading, hfits, hsample]
  rfl

theorem channelSettled_of_blue {q : Power} (h : q.settle.channel = .blue) :
    q.channelSettled = ({ q with
      state := .settled, cadence := 0, nextChannel := .red, settleTimeout := none
      settle := { q.settle with used := q.settle.used.put .blue q.settle.attempts, waiting := false } }, .settled) := by
  have hused : q.settle.used.put q.settle.channel q.settle.attempts = q.settle.used.put .blue q.settle.attempts := by rw [h]
  rw [← hused]
  unfold Power.channelSettled
  dsimp only
  split
  next => rfl
  next hred => rw [h] at hred; contradiction
  next hgreen => rw [h] at hgreen; contradiction

theorem channelSettled_of_not_blue {q : Power} (h : q.settle.channel ≠ .blue) :
    q.channelSettled = ({ q with settle := { q.settle with
      channel := if q.settle.channel = .red then .green else .blue, attempts := 0, inBand := 0
      used := q.settle.used.put q.settle.channel q.settle.attempts } }, .goesOn) := by
  unfold Power.channelSettled
  dsimp only
  split
  next hblue => exact absurd hblue h
  next hred => rw [if_pos hred]
  next hgreen => rw [if_neg (by rw [hgreen]; nofun)]

/-- What a counted settle reading leads to (R108 steps 3 and 4). -/
theorem useSettle_of_counted {m : Nat} {q : Power} (hq : s.power.settleCounted s.rb.power m = q) :
    (q.settle.inBand < s.rb.power.need → q.settle.attempts < s.rb.power.amax → s.useSettle m = s.setPower q) ∧
    (q.settle.inBand < s.rb.power.need → s.rb.power.amax ≤ q.settle.attempts →
      s.useSettle m = (s.setPower q.endSettle).halt .settleFail) ∧
    (s.rb.power.need ≤ q.settle.inBand → q.settle.channel ≠ .blue →
      s.useSettle m = s.setPower { q with settle := { q.settle with
        channel := if q.settle.channel = .red then .green else .blue, attempts := 0, inBand := 0
        used := q.settle.used.put q.settle.channel q.settle.attempts } }) ∧
    (s.rb.power.need ≤ q.settle.inBand → q.settle.channel = .blue →
      s.useSettle m = (s.setPower { q with
        state := .settled, cadence := 0, nextChannel := .red, settleTimeout := none
        settle := { q.settle with used := q.settle.used.put .blue q.settle.attempts, waiting := false } }).settleDone) := by
  unfold State.useSettle Power.settleStep
  rw [hq]
  dsimp only
  refine ⟨fun hband hattempts => ?_, fun hband hattempts => ?_, fun hband hchannel => ?_, fun hband hchannel => ?_⟩
  · rw [if_neg (by omega), if_neg (by omega)]
  · rw [if_neg (by omega), if_pos hattempts]
  · rw [if_pos hband, channelSettled_of_not_blue hchannel]
  · rw [if_pos hband, channelSettled_of_blue hchannel]

/-- A SETTLED regulator ends PRIMING stage 6 (R161). -/
theorem settleDone_of_priming (hrun : s.run.state = .priming) (hstage : s.run.stage = 6) :
    s.settleDone = seekBegun { s with run.stage := 7 } := by
  unfold State.settleDone
  rw [hrun]
  dsimp only
  rw [if_pos hstage, primingStage7_eq]

/-- A SETTLED regulator finishes the CALIBRATE card (R112). -/
theorem settleDone_of_calibrate (hrun : s.run.state = .running) (hworking : working s .calibrate) :
    s.settleDone = s.finishCalibrate := by
  have hbody : currentBody s = some .calibrate := by
    simp [currentBody, hworking.current, hworking.outcome]
  unfold State.settleDone
  rw [hrun, hbody]

/-- Settles O38. -/
theorem settleReadingSteps : Obligations.SettleReadingSteps := by
  intro s c m ch hconversion hsample hsettling hchannel n w hn hw
  have hcounted := settleCounted_eq hchannel hn hw
  obtain ⟨hgoesOn, hfails, hnext, hsettles⟩ := useSettle_of_counted (s := s.conversionOver) hcounted
  have hqchannel : (settleReadAs s.power ch n w).settle.channel = ch := hchannel
  rw [hqchannel] at hnext hsettles
  rw [exec_conversionCompletion_settle hconversion hsample hsettling hchannel]
  refine ⟨fun hband hattempts => ?_, fun hband hblue => ?_, fun hband hattempts hhalts => ?failed,
    fun hband hblue hrun hstage => ?priming, fun d hband hblue hrun hworking htaken hindex => ?calibrate⟩
  · rw [hgoesOn hband hattempts]
    rfl
  · rw [hnext hband hblue]
    rfl
  case failed =>
    obtain ⟨hrun, hgate, hstate, hpwr, -, -, hcauses, -⟩ := State.halt_taken
      (s.conversionOver.setPower (settleReadAs s.power ch n w).endSettle) .settleFail (by exact hhalts)
    refine ⟨_, congrArg _ (hfails hband hattempts), ?_⟩
    refine ⟨hstate.trans ?_, hpwr.trans ?_, congrArg RunCtl.state hrun, congrArg RunCtl.haltCause hrun, hgate,
      by rw [hcauses]; simp, by rw [State.halt_film]; rfl, by rw [State.halt_frame]; rfl⟩
    · rw [State.setPower_power, Power.endSettle_of_settling (by exact hsettling)]
    · rw [State.setPower_power, Power.endSettle_pwr]
      rfl
  case priming =>
    refine ⟨_, congrArg _ (hsettles hband hblue), ?_⟩
    generalize hv : s.conversionOver.setPower _ = v
    rw [settleDone_of_priming (by rw [← hv]; exact hrun) (by rw [← hv]; exact hstage), ← hv]
    exact ⟨rfl, rfl, rfl, rfl, rfl, rfl, rfl, rfl⟩
  case calibrate =>
    subst hblue
    rw [hsettles hband rfl]
    generalize hv : s.conversionOver.setPower _ = v
    rw [settleDone_of_calibrate (by rw [← hv]; exact hrun) (by rw [← hv]; exact hworking)]
    have hhanded := handResult_eq (s := v) (d := d) (by rw [← hv]; exact htaken) (by rw [← hv]; exact hindex)
      { outcome := .settled, reason := .none, field := 0, kind := .calibrate v.power.pwr v.power.settle.used }
    refine ⟨_, _, rfl, ?_, ?_, ?_, ?_, ?_, ?_, takeCourse_leads (fun _ _ _ _ => rfl)⟩ <;> rw [hhanded, ← hv]
    · exact cardFinishes_refresh rfl rfl rfl rfl rfl
    · rw [State.refresh_power, ← hchannel]
      rfl
    · simp; rfl
    · simp; rfl
    · simp; rfl
    · simp; rfl

/-! ## The end of a load read (R66, R67, R70) -/

theorem exec_loadReadComplete {e : LoadRead} (h : s.tables.entry e.id = some e) (a : Answer) :
    exec (.loadReadComplete e.id a) s = .next (s.endLoadRead e (answerOf a e.bytes)) := by
  show execLoadReadComplete e.id a s = _
  simp [execLoadReadComplete, h]

theorem exec_loadReadExpiry {e : LoadRead} (h : s.tables.entry e.id = some e) :
    exec (.loadReadExpiry e.id) s = .next (s.endLoadRead e none) := by
  show execLoadReadExpiry e.id s = _
  simp [execLoadReadExpiry, h]

/-- The Table Store with a read's entry taken from the list. -/
def TableStore.without (t : TableStore) (e : LoadRead) : TableStore :=
  { t with reads := t.reads.filter fun x => x.id != e.id }

/-- A read of the load in progress ends: the load that it was the last of finishes its card, and any other goes on. -/
theorem endLoadRead_of_live {e : LoadRead} {l m : Load} {data : Option (List Byte)} (hlive : e.live = true)
    (hload : s.tables.load = some l)
    (hended : ((s.tables.without e).readEnded e l data).load = some m) :
    s.endLoadRead e data =
      if m.over then (s.setTables ((s.tables.without e).readEnded e l data)).finishLoad m
      else (s.setTables ((s.tables.without e).readEnded e l data)).loadMore := by
  have hafter : s.endLoadRead e data = (s.setTables ((s.tables.without e).readEnded e l data)).afterLoadRead := by
    unfold State.endLoadRead
    split
    next k hk => rw [Option.some.inj (hk.symm.trans hload)]; rfl
    next hnot => exact absurd hload (hnot l hlive)
  rw [hafter, State.afterLoadRead, State.setTables_tables, hended]

/-- A good read while failed is no puts its words at their positions (R66). -/
theorem readEnded_good {t : TableStore} {e : LoadRead} {l : Load} (hfailed : l.failed = false) (bs : List Byte) :
    t.readEnded e l (some bs) = { t with
      load := some { l with ended := l.ended + 1 }
      staged := t.staged.put l.target
        { (t.staged.get l.target) with
          words := writeWords (t.staged.get l.target).words (256 * e.number) (words16 bs) } } := by
  unfold TableStore.readEnded
  rw [hfailed]
  rfl

/-- Any other end leaves the words, and the load is failed (R66). -/
theorem readEnded_failed {t : TableStore} {e : LoadRead} {l : Load} {data : Option (List Byte)}
    (h : l.failed = true ∨ data = none) :
    t.readEnded e l data = { t with load := some { l with ended := l.ended + 1, failed := true } } := by
  unfold TableStore.readEnded
  split
  next hfailed => rw [hfailed] at h; exact h.elim nofun nofun
  next hfailed => rw [← hfailed]
  next => rfl

/-- A load that is over finishes its card (R70). -/
theorem loadOne_of_failed {l : Load} (hload : s.tables.load = some l) (h : l.failed = true) : s.loadOne = s := by
  unfold State.loadOne
  rw [hload]
  exact if_neg (by simp [loadReady, h])

theorem loadMore_of_failed {l : Load} (hload : s.tables.load = some l) (h : l.failed = true) : s.loadMore = s := by
  unfold State.loadMore
  simp only [loadOne_of_failed hload h]

/-- What an examination of a load in progress keeps: it can only issue reads. -/
def loadGoesOn (s t : State) : Prop :=
  t.tables.staged = s.tables.staged ∧ t.tables.active = s.tables.active ∧ s.tables.reads <+: t.tables.reads ∧
  ∀ l, s.tables.load = some l → ∃ n, t.tables.load = some { l with issued := n } ∧ l.issued ≤ n

theorem loadGoesOn_trans (h : loadGoesOn s t) (k : loadGoesOn t u) : loadGoesOn s u := by
  obtain ⟨hstaged, hactive, hreads, hload⟩ := h
  obtain ⟨kstaged, kactive, kreads, kload⟩ := k
  refine ⟨kstaged.trans hstaged, kactive.trans hactive, hreads.trans kreads, fun l hl => ?_⟩
  obtain ⟨n, hn, hle⟩ := hload l hl
  obtain ⟨m, hm, hle'⟩ := kload _ hn
  exact ⟨m, hm, hle.trans hle'⟩

theorem loadGoesOn_loadOne (s : State) : loadGoesOn s s.loadOne := by
  unfold State.loadOne
  split
  next hnone => exact ⟨rfl, rfl, List.prefix_rfl, fun l hl => ⟨l.issued, hl, le_rfl⟩⟩
  next l hload =>
    split
    · exact ⟨rfl, rfl, List.prefix_append _ _, fun k hk =>
        ⟨l.issued + 1, by rw [Option.some.inj (hk.symm.trans hload)]; rfl,
          by rw [Option.some.inj (hk.symm.trans hload)]; omega⟩⟩
    · exact ⟨rfl, rfl, List.prefix_rfl, fun l hl => ⟨l.issued, hl, le_rfl⟩⟩

theorem loadGoesOn_loadMore (s : State) : loadGoesOn s s.loadMore :=
  loadGoesOn_trans (loadGoesOn_trans (loadGoesOn_trans (loadGoesOn_loadOne _) (loadGoesOn_loadOne _))
    (loadGoesOn_loadOne _)) (loadGoesOn_loadOne _)

/-- A load that is over finishes its card by its checks (R67, R70). -/
theorem finishLoad_does {m : Load} {detail : Detail × Option Nat} (hchecks : loadChecks s.tables m = detail)
    (htaken : s.deck.taken = some d) (hindex : s.deck.finishedCount ≤ s.seq.current.index) :
    ∃ u, s.finishLoad m = u.takeCourse (finishCourse u (detail.1 != .none)) State.advance ∧
      cardFinishes s u d
        { outcome := if detail.1 = .none then .staged else .loadFailed, reason := .none, field := 0
          kind := .table detail.1
            (if detail.1 = .readError then 0 else sumOfImage m.target (s.tables.staged.get m.target).words) detail.2 }
        s.film.counter false ∧
      u.tables = { s.tables with
        load := none
        staged := s.tables.staged.put m.target
          (if detail.1 = .none then { state := .valid, words := (s.tables.staged.get m.target).words }
           else { state := .invalid, words := [] }) } ∧
      u.run = s.run ∧ u.frame = s.frame ∧ u.film = s.film ∧ u.power = s.power ∧ u.scan = s.scan ∧ u.ring = s.ring ∧
      u.regs = s.regs := by
  have hresult : loadResult s.tables m =
      { outcome := if detail.1 = .none then .staged else .loadFailed, reason := .none, field := 0
        kind := .table detail.1
          (if detail.1 = .readError then 0 else sumOfImage m.target (s.tables.staged.get m.target).words) detail.2 } := by
    simp only [loadResult, hchecks, imageSum_eq_sumOfImage, beq_iff_eq]
  have hfailed : ((loadResult s.tables m).outcome == .loadFailed) = (detail.1 != .none) := by
    rw [hresult]
    cases detail.1 <;> rfl
  have hended : s.tables.loadEnded m = { s.tables with
      load := none
      staged := s.tables.staged.put m.target
        (if detail.1 = .none then { state := .valid, words := (s.tables.staged.get m.target).words }
         else { state := .invalid, words := [] }) } := by
    simp only [TableStore.loadEnded, hchecks, beq_iff_eq]
  have hhanded := handResult_eq (s := s.setTables (s.tables.loadEnded m)) (d := d) htaken hindex (loadResult s.tables m)
  refine ⟨((s.setTables (s.tables.loadEnded m)).handResult (loadResult s.tables m)).refresh, ?_, ?_, ?_, ?_⟩
  · rw [← hfailed]
    rfl
  · rw [hhanded, hresult]
    exact cardFinishes_refresh rfl rfl rfl rfl rfl
  · simp [hended]
  · rw [hhanded]
    simp

theorem takeCourse_of_failed (hcause : u.takeCourse (finishCourse u true) State.advance = t) :
    (u.run.stopPending = true → t = u.endRun) ∧
    (u.run.stopPending = false → (u.run.state = .running → t = u.halt .tableLoad) ∧ (u.run.state ≠ .running → t = u)) := by
  subst hcause
  refine ⟨fun hstop => by rw [finishCourse_of_stop hstop]; rfl, fun hstop => ⟨fun hrun => ?_, fun hrun => ?_⟩⟩
  · have hcourse : finishCourse u true = .tableLoad := by simp [finishCourse, hstop, hrun]
    rw [hcourse]
    rfl
  · rw [finishCourse_of_not_running hstop hrun]
    rfl

theorem targets_put_put {α : Type} (p : PerTarget α) (g : Target) (x y : α) : (p.put g x).put g y = p.put g y := by
  cases g <;> rfl

/-- The Table Store after the end of a read of its load, with the staged copies and the failed flag that it leaves. -/
def loadReadOver (t : TableStore) (e : LoadRead) (l : Load) (staged : PerTarget StagedCopy) (failed : Bool) : TableStore :=
  { t with
    staged := staged, load := some { l with ended := l.ended + 1, failed := failed }
    reads := t.reads.filter fun x => x.id != e.id }

/-- What the last end of a load leaves: its card finished by its checks, and the run going on from it (R70). -/
def loadFinishes (s t : State) (d : Deck) (e : LoadRead) (l : Load) (detail : Detail × Option Nat)
    (words : List (BitVec 16)) : Prop :=
  ∃ u, cardFinishes s u d
      { outcome := if detail.1 = .none then .staged else .loadFailed, reason := .none, field := 0
        kind := .table detail.1 (if detail.1 = .readError then 0 else sumOfImage l.target words) detail.2 }
      s.film.counter false ∧
    u.tables = { s.tables with
      load := none, reads := s.tables.reads.filter fun x => x.id != e.id
      staged := s.tables.staged.put l.target
        (if detail.1 = .none then { state := .valid, words := words } else { state := .invalid, words := [] }) } ∧
    u.frame = s.frame ∧ u.film = s.film ∧ u.power = s.power ∧ u.scan = s.scan ∧ u.ring = s.ring ∧ u.regs = s.regs ∧
    (detail.1 = .none → finishLeads u t) ∧
    (detail.1 ≠ .none →
      (s.run.stopPending = true → t = u.endRun) ∧
      (s.run.stopPending = false → (s.run.state = .running → t = u.halt .tableLoad) ∧ (s.run.state ≠ .running → t = u)))

theorem loadFinishes_of_over {e : LoadRead} {l : Load} {data : Option (List Byte)} {staged : PerTarget StagedCopy}
    {failed : Bool} {detail : Detail × Option Nat} (hlive : e.live = true) (hload : s.tables.load = some l)
    (hended : (s.tables.without e).readEnded e l data = loadReadOver s.tables e l staged failed)
    (hlast : l.ended + 1 = l.issued) (hover : failed = true ∨ l.issued = imageReads l.target)
    (hput : ∀ x, staged.put l.target x = s.tables.staged.put l.target x)
    (hchecks : tableChecks l.target (staged.get l.target).words l.expected failed = detail)
    (htaken : s.deck.taken = some d) (hindex : s.deck.finishedCount ≤ s.seq.current.index) :
    loadFinishes s (s.endLoadRead e data) d e l detail (staged.get l.target).words := by
  have hfinish := endLoadRead_of_live hlive hload (m := { l with ended := l.ended + 1, failed := failed })
    (by rw [hended]; rfl)
  rw [hended, if_pos (by simp [Load.over, hlast, hover])] at hfinish
  obtain ⟨u, hcourse, hfinishes, htables, hrun, hframe, hfilm, hpower, hscan, hring, hregs⟩ := finishLoad_does
    (s := s.setTables (loadReadOver s.tables e l staged failed)) (d := d)
    (m := { l with ended := l.ended + 1, failed := failed }) hchecks htaken hindex
  rw [hfinish, hcourse]
  refine ⟨u, hfinishes, htables.trans ?_, hframe, hfilm, hpower, hscan, hring, hregs, fun hstaged => ?_, fun hfails => ?_⟩
  · rw [← hput]
    rfl
  · rw [hstaged]
    exact takeCourse_leads (fun _ _ _ _ => rfl)
  · have hleads : (detail.1 != .none) = true := by simpa using hfails
    rw [hleads, ← State.setTables_run s, ← hrun]
    exact takeCourse_of_failed rfl

/-- A read of the load in progress that is not its last lets the next reads be issued. -/
theorem endLoadRead_of_more {e : LoadRead} {l : Load} {data : Option (List Byte)} {staged : PerTarget StagedCopy}
    {failed : Bool} (hlive : e.live = true) (hload : s.tables.load = some l)
    (hended : (s.tables.without e).readEnded e l data = loadReadOver s.tables e l staged failed)
    (hmore : l.ended + 1 < l.issued) :
    s.endLoadRead e data = (s.setTables (loadReadOver s.tables e l staged failed)).loadMore := by
  have hgoes := endLoadRead_of_live hlive hload (m := { l with ended := l.ended + 1, failed := failed })
    (by rw [hended]; rfl)
  have hnot : (l.ended + 1 == l.issued) = false := by simpa using hmore.ne
  rwa [hended, if_neg (by simp [Load.over, hnot])] at hgoes

/-- The events that end a load read with no words for its copy. -/
theorem exec_failed_loadRead {e : LoadRead} {l : Load} {c : Instr} (hentry : s.tables.entry e.id = some e)
    (hc : c = .loadReadComplete e.id .error ∨ c = .loadReadExpiry e.id ∨
      l.failed = true ∧ ∃ data, c = .loadReadComplete e.id (.good data)) :
    ∃ data, exec c s = .next (s.endLoadRead e data) ∧
      (s.tables.without e).readEnded e l data = loadReadOver s.tables e l s.tables.staged true := by
  rcases hc with rfl | rfl | ⟨hfailed, data, rfl⟩
  · exact ⟨none, exec_loadReadComplete hentry _, readEnded_failed (.inr rfl)⟩
  · exact ⟨none, exec_loadReadExpiry hentry, readEnded_failed (.inr rfl)⟩
  · exact ⟨_, exec_loadReadComplete hentry _, readEnded_failed (.inl hfailed)⟩

/-- Settles O41. -/
theorem loadReadsEnd : Obligations.LoadReadsEnd := by
  intro s e l hentry hlive hload
  have hgood (data : List Byte) (hfailed : l.failed = false) : (s.tables.without e).readEnded e l (some data) =
      loadReadOver s.tables e l (s.tables.staged.put l.target
        { (s.tables.staged.get l.target) with
          words := writeWords (s.tables.staged.get l.target).words (256 * e.number) (words16 data) }) false := by
    rw [readEnded_good hfailed, loadReadOver, ← hfailed]
    rfl
  have hcomplete (data : List Byte) (hlength : data.length = e.bytes) :
      exec (.loadReadComplete e.id (.good data)) s = .next (s.endLoadRead e (some data)) := by
    rw [exec_loadReadComplete hentry, answerOf, if_pos hlength]
  refine ⟨fun data hfailed hlength hmore => ?_, fun c hc hmore => ?_,
    fun c d detail words hlast htaken hindex hends => ?_⟩
  · rw [hcomplete data hlength, endLoadRead_of_more hlive hload (hgood data hfailed) hmore]
    generalize hu : s.setTables _ = u
    obtain ⟨hstaged, hactive, hreads, hissued⟩ := loadGoesOn_loadMore u
    obtain ⟨n, hn, hle⟩ := hissued { l with ended := l.ended + 1 } (by rw [← hu]; exact congrArg some (by rw [← hfailed]))
    rw [← hu] at hstaged hactive hreads
    exact ⟨_, rfl, by rw [← hu]; exact hstaged, by rw [← hu]; exact hactive, by rw [← hu]; exact hreads, ⟨n, hn, hle⟩,
      by simp [← hu], by simp [← hu], by simp [← hu], by simp [← hu], by simp [← hu]⟩
  · obtain ⟨data, hexec, hended⟩ := exec_failed_loadRead hentry hc
    rw [hexec, endLoadRead_of_more hlive hload hended hmore,
      loadMore_of_failed (l := { l with ended := l.ended + 1, failed := true }) rfl rfl]
    rfl
  · rcases hends with ⟨data, rfl, hfailed, hlength, hissued, rfl, rfl⟩ | ⟨hc, rfl⟩
    · have hwords (x : StagedCopy) : ((s.tables.staged.put l.target x).get l.target) = x := targets_get_put _ _ _
      obtain ⟨u, hu⟩ := loadFinishes_of_over hlive hload (hgood data hfailed) hlast (.inr hissued)
        (fun x => targets_put_put _ _ _ _) rfl htaken hindex
      rw [hwords] at hu
      exact ⟨u, _, hcomplete data hlength, hu⟩
    · obtain ⟨data, hexec, hended⟩ := exec_failed_loadRead hentry hc
      obtain ⟨u, hu⟩ := loadFinishes_of_over hlive hload hended hlast (.inl rfl) (fun _ => rfl) rfl htaken hindex
      rw [tableChecks_of_failed] at hu
      exact ⟨u, _, hexec, hu⟩

/-! ## The image that a dump writes (R63, R74) -/

/-- Pieces of n bytes cut from a list, the last with what remains. -/
theorem flatMap_pieces {α : Type} (l : List α) (n m : Nat) :
    (List.range m).flatMap (fun k => (l.drop (n * k)).take n) = l.take (n * m) := by
  induction m with
  | zero => simp
  | succ m ih =>
    rw [List.range_succ, List.flatMap_append, ih, Nat.mul_succ, List.take_add]
    simp

theorem bytes16_length (ws : List (BitVec 16)) : (bytes16 ws).length = 2 * ws.length := by
  induction ws with
  | nil => rfl
  | cons w ws ih =>
    have hstep : (bytes16 (w :: ws)).length = 2 + (bytes16 ws).length := List.length_append
    rw [hstep, ih, List.length_cons]
    omega

theorem checkedWords_le (g : Target) : checkedWords g ≤ imageWords g := by cases g <;> decide

theorem imageBytes_le_reads (g : Target) :
    2 * imageWords g ≤ 512 * imageReads g ∧ 512 * imageReads g < 2 * imageWords g + 512 := by
  cases g <;> decide

theorem dumpWords_length {g : Target} {c : ActiveCopy} (h : c.words.length = imageWords g) :
    (dumpWords g c).length = imageWords g := by
  have hle := checkedWords_le g
  rw [dumpWords, List.length_append, List.length_take, List.length_replicate]
  omega

theorem dumpBytes_eq (g : Target) (c : ActiveCopy) (k : Nat) :
    dumpBytes g c k = ((bytes16 (dumpWords g c)).drop (512 * k)).take 512 := rfl

/-- Pad words written as 0 leave the sum of an image as it was (R67). -/
theorem sumOfImage_dumpWords (g : Target) (c : ActiveCopy) : sumOfImage g (dumpWords g c) = sumOfImage g c.words := by
  have htake : (dumpWords g c).take (checkedWords g) = c.words.take (checkedWords g) ++
      List.replicate (min (checkedWords g - (c.words.take (checkedWords g)).length)
        (imageWords g - checkedWords g)) 0 := by
    rw [dumpWords, List.take_append, List.take_take, Nat.min_self, List.take_replicate]
  rw [sumOfImage, sumOfImage, htake, List.map_append, List.sum_append, List.map_replicate]
  simp

theorem dumpResult_of_valid {g : Target} (h : (s.tables.active.get g).valid = true) :
    dumpResult s g =
      { outcome := .dumped, reason := .none, field := 0
        kind := .dump (sumOfImage g (s.tables.active.get g).words) (imageWords g) } := by
  rw [dumpResult]
  simp only [h, if_true, imageSum_eq_sumOfImage, sumOfImage_dumpWords]

theorem dumpResult_of_invalid {g : Target} (h : (s.tables.active.get g).valid = false) :
    dumpResult s g = { outcome := .nothingToDump, reason := .none, field := 0, kind := .dump 0 0 } := by
  simp [dumpResult, h]

/-! ## A DUMP card (R74, R75) -/

/-- After a finish the run takes at most one card: step 4 of an advance completes it, and no other course leaves one to
take up. -/
theorem takeUp_takeCourse (u : State) :
    (u.takeCourse (finishCourse u false) State.advanceRecord).takeUp =
      u.takeCourse (finishCourse u false) State.advance := by
  by_cases hstop : u.run.stopPending = true
  · rw [finishCourse_of_stop hstop]
    exact takeUp_of_not_running (by simp [State.takeCourse, State.endRun, State.toIdle])
  rw [Bool.not_eq_true] at hstop
  by_cases hrun : u.run.state = .running
  · rw [finishCourse_of_running hstop hrun]
    split
    · refine takeUp_of_not_running ?_
      obtain ⟨hhalted, -⟩ := State.halt_taken (u.setRun { u.run with powerLimitPending := false }) .powerLimit
        (by exact congrArg RunState.takesHalt hrun)
      show (State.halt _ _).run.state ≠ _
      rw [hhalted]
      nofun
    · split
      · exact takeUp_of_not_running (by simp [State.takeCourse, State.enterHeld, State.enterRunState])
      · rfl
  · rw [finishCourse_of_not_running hstop hrun]
    exact takeUp_of_not_running hrun

/-- With the next card's read under way, or the deck at its end, an advance has no card to take up. -/
theorem advanceRecord_takeUp (hrun : u.run.state = .running) (htaken : u.deck.taken = some d)
    (hentered : u.seq.current.entered = true) (hle : u.seq.nextIndex ≤ u.deck.cardCount)
    (hlookahead : u.seq.nextIndex < u.deck.cardCount →
      u.seq.lookahead.state = .reading ∧ u.seq.lookahead.index = u.seq.nextIndex) :
    u.advanceRecord = u.advance := by
  rcases hle.eq_or_lt with hend | hmore
  · rw [advance_of_end hrun htaken hend, advanceRecord_of_end hrun htaken hend, State.deckDone, State.seekDeck_eq,
      returnDeck_of_taken (s := u.emptyRecords) htaken]
    rfl
  · obtain ⟨hreading, hindex⟩ := hlookahead hmore
    rw [advance_of_lookahead_reading hrun htaken hmore.ne (.inr hentered) hreading hindex,
      advanceRecord_of_lookahead hrun htaken hmore.ne (.inr hentered) (by rw [hreading]; nofun) hindex]

/-- A DUMP card whose active copy is INVALID finishes at once, and the run goes on from it. -/
theorem actedOnAt.nothingToDump {g : Target} {code : Nat} {dest : Addr} {answer : Host.Outcome State Fault Refusal}
    (h : actedOnAt u d (.good (.dump code dest)) answer) (htarget : targetOf code = some g)
    (hinvalid : (u.tables.active.get g).valid = false) (hindex : u.deck.finishedCount ≤ u.seq.current.index)
    (hle : u.seq.nextIndex ≤ u.deck.cardCount) :
    ∃ v t, answer = .next t ∧ finishLeads v t ∧
      cardFinishesAlone u v d { outcome := .nothingToDump, reason := .none, field := 0, kind := .dump 0 0 } := by
  obtain ⟨htaken, hrun, hentered, hways⟩ := h
  have hfinishes := cardFinishesAlone_handResult htaken hindex (dumpResult u g)
  generalize hv : (u.handResult (dumpResult u g)).refresh = v at hfinishes
  have hacted : u.actedOn (.good (.dump code dest)) = v.takeCourse (finishCourse v false) State.advanceRecord := by
    show u.dispatchDump code dest = _
    rw [← hv, State.dispatchDump, htarget]
    exact if_neg (by simp [hinvalid])
  rw [hacted] at hways
  rw [dumpResult_of_invalid hinvalid] at hfinishes
  obtain ⟨⟨hvrun, hvseq, hvdeck, -⟩, -⟩ := id hfinishes
  rcases hways with hanswer | ⟨hanswer, hlookahead⟩
  · rw [takeUp_takeCourse] at hanswer
    exact ⟨v, _, hanswer, takeCourse_leads (fun _ _ _ _ => rfl), hfinishes⟩
  · refine ⟨v, _, hanswer, takeCourse_leads (fun _ _ _ _ => ?_), hfinishes⟩
    exact advanceRecord_takeUp (by rw [hvrun, hrun]) (by rw [hvdeck]; exact htaken) (by rw [hvseq]; exact hentered)
      (by rw [hvseq, hvdeck]; exact hle) (by rw [hvseq, hvdeck]; exact hlookahead)

/-- A dump's tick, in a state with nothing due. -/
theorem step_of_dump {x : Dump} (hdump : s.tables.dump = some x) (hempty : s.pending = []) (hdue : due s = []) :
    step s = .next (if x.issued + 1 < imageReads x.target then s.tick.dumpWrite x
      else (s.tick.dumpWrite x).finishDump x) := by
  have hdump' : s.tick.tables.dump = some x := hdump
  rw [((stepTakesTheFront).2 s hempty).1 hdue, State.dumpOn, hdump']

/-- Settles O44. -/
theorem dumpWritesTheImage : Obligations.DumpWritesTheImage := by
  refine ⟨fun g c hlength => ⟨?image, fun k hk => ?piece⟩,
    fun s u d g code dest answer h htarget => ⟨fun hvalid => ?begins, fun hinvalid hindex hle => ?nothing⟩,
    fun s x hdump hempty hdue => ⟨fun hmore => ?writes, fun k w hlast hvalid htaken hindex hw => ?finishes⟩⟩
  case image =>
    have hbytes := bytes16_length (dumpWords g c)
    rw [dumpWords_length hlength] at hbytes
    obtain ⟨hreads, -⟩ := imageBytes_le_reads g
    simp only [funext (dumpBytes_eq g c), flatMap_pieces]
    exact List.take_of_length_le (by omega)
  case piece =>
    have hbytes := bytes16_length (dumpWords g c)
    rw [dumpWords_length hlength] at hbytes
    rw [dumpBytes_eq, List.length_take, List.length_drop, hbytes]
  case begins =>
    have hopened : u.actedOn (.good (.dump code dest)) = u.openDump g dest := by
      show u.dispatchDump code dest = _
      rw [State.dispatchDump, htarget]
      exact if_pos hvalid
    have hanswer := h.at.answer_eq (by rw [hopened]; exact h.at.2.2.1)
    rw [hopened] at hanswer
    exact hanswer
  case nothing => exact h.at.nothingToDump htarget hinvalid hindex hle
  case writes =>
    rw [step_of_dump hdump hempty hdue, if_pos hmore]
    rfl
  case finishes =>
    have hwritten : (s.tick.dumpWrite x).setTables { (s.tick.dumpWrite x).tables with dump := none } = w := by rw [hw]; rfl
    have hresult := dumpResult_of_valid (s := s.tick.dumpWrite x) (g := x.target) hvalid
    rw [step_of_dump hdump hempty hdue, if_neg (by omega), State.finishDump, hwritten, hresult]
    refine ⟨_, _, rfl, takeCourse_leads (fun _ _ _ _ => rfl), ?_⟩
    exact cardFinishesAlone_handResult (s := w) (by rw [hw]; exact htaken) (by rw [hw]; exact hindex) _

end Sys2Proof.Machine

/-! PROOF. RESUME to RUNNING takes up the current card (R137, R163 to R165): O14. -/

namespace Sys2Proof.Machine

variable {s t u v : State} {d : Deck}

theorem resumeRunning_of_finished (h : currentUnfinished s = false) : s.resumeRunning = s.advance := by
  rw [State.resumeRunning, if_neg (by simp [h])]

theorem resumeRunning_of_acted (hstate : s.seq.current.state = .present) (hentered : s.seq.current.entered = true)
    (hfinished : s.seq.current.finished = false) (hacted : s.seq.current.acted = true) :
    s.resumeRunning = s.resumeCard := by
  rw [State.resumeRunning, if_pos (currentUnfinished_of_entered (by rw [hstate]; nofun) hentered hfinished),
    if_pos hacted]

/-- The owner of a card that was dispatched goes on at RESUME. -/
theorem resumeRunning_of_working {b : CardBody} (h : working s b) :
    s.resumeRunning = s.resumeCard ∧ s.seq.current.outcome = .good b := by
  obtain ⟨hstate, hentered, hfinished, hacted, houtcome⟩ := h
  exact ⟨resumeRunning_of_acted hstate hentered hfinished hacted, houtcome⟩

theorem resumeCard_of_frame {k : FrameCard} {c : FrameCtx} (h : s.seq.current.outcome = .good (.frame k))
    (hctx : s.frame.ctx = some c) :
    (c.state = .preparing → s.resumeCard = s.enterPreparing c) ∧
    (c.state = .closing → c.retakePending = true → s.resumeCard = s.enterPreparing { c with haltAfter := .none }) := by
  have howner : s.resumeCard = s.resumeFrame := by rw [State.resumeCard, h]
  rw [howner, State.resumeFrame, hctx]
  exact ⟨fun hstate => by simp [hstate], fun hstate hretake => by simp [hstate, hretake]⟩

theorem resumeCard_of_leader {n : Nat} {e : Bool} (h : s.seq.current.outcome = .good (.leader n e)) :
    s.resumeCard = s.leaderCycle := by rw [State.resumeCard, h]

theorem resumeCard_of_calibrate (h : s.seq.current.outcome = .good .calibrate) : s.resumeCard = s.resumeCalibrate := by
  rw [State.resumeCard, h]

theorem rereadCurrent_eq (htaken : s.deck.taken = some d) :
    s.rereadCurrent = { s with
      seq := { s.seq with current := { recordReading s s.seq.current.index with entered := true } }
      bus := s.bus ++ [.read s.nextId (deckAddr s d + BitVec.ofNat 64 (64 + 128 * s.seq.current.index)) 80]
      nextId := s.nextId + 1 } := by
  rw [State.rereadCurrent, State.readBody, takenAddr_eq htaken, addrPlus_slot]
  rfl

theorem resumed_deckAddr (s : State) (d : Deck) (r : RunState) : deckAddr (resumed s r) d = deckAddr s d := by
  cases d <;> simp [deckAddr]

/-- An outcome that RESUME finds held is acted on at the resumed state. -/
theorem actedOnAt_resumed (htaken : u.deck.taken = some d) (hrun : u.run.state = .running)
    (hpresent : u.seq.current.state = .present) (hentered : u.seq.current.entered = true)
    (hfinished : u.seq.current.finished = false) (hacted : u.seq.current.acted = false)
    (hv : v = { u with seq.current := { u.seq.current with acted := true } }) :
    actedOnAt v d u.seq.current.outcome (.next u.resumeRunning) := by
  rw [resumeRunning_of_held hpresent hentered hfinished hacted, hv]
  exact ⟨htaken, hrun, hentered, .inl rfl⟩

/-- Settles O14. -/
theorem resumeTakesUpTheCard : Obligations.ResumeTakesUpTheCard := by
  intro s u hlaw hways hu
  have hexec : exec .resume s = .next u.resumeRunning := by rw [exec_resume_running hlaw hways, hu]
  have hseq : u.seq = s.seq := by rw [hu, resumed_seq]
  have hfilm : u.film = s.film := by rw [hu, resumed_film]
  have hframe : u.frame = s.frame := by rw [hu, resumed_frame]
  have hrb : u.rb = s.rb := by rw [hu, resumed_rb]
  have hrun : u.run.state = .running := by rw [hu, resumed_run]
  have hstop : u.run.stopPending = s.run.stopPending := by rw [hu, resumed_run]
  have hpower : u.power = { s.power with gateOpen := s.scan.lock == .locked } := by rw [hu, resumed_power]
  have hworking (b : CardBody) (h : working s b) : exec .resume s = .next u.resumeCard ∧ u.seq.current.outcome = .good b := by
    obtain ⟨hcard, houtcome⟩ := resumeRunning_of_working (s := u) (b := b) (by rw [working, hseq]; exact h)
    exact ⟨by rw [hexec, hcard], houtcome⟩
  refine ⟨fun hfinished => ?advance, fun k c hk hctx => ⟨fun hstate => ?preparing, fun hstate hretake => ?retake⟩,
    fun n e l hl hleader hstill hmore hstopped hdark => ?leader, fun hc => ⟨fun hstate => ?waits, fun hstate => ?settles⟩,
    fun hown => ?own, fun d htaken hpresent hentered hfinished => ⟨fun hacted ho => ?reread, fun hacted v hv => ?held⟩⟩
  case advance =>
    rw [hexec, resumeRunning_of_finished (by simpa [currentUnfinished, hseq] using hfinished)]
  case preparing =>
    obtain ⟨hresume, houtcome⟩ := hworking _ hk
    obtain ⟨hprepares, -⟩ := resumeCard_of_frame houtcome (by rw [hframe]; exact hctx)
    exact ⟨_, by rw [hresume, hprepares hstate], attemptPrepared_enterPreparing u c⟩
  case retake =>
    obtain ⟨hresume, houtcome⟩ := hworking _ hk
    obtain ⟨-, hretakes⟩ := resumeCard_of_frame houtcome (by rw [hframe]; exact hctx)
    exact ⟨_, by rw [hresume, hretakes hstate hretake], attemptPrepared_enterPreparing u _⟩
  case leader =>
    obtain ⟨hresume, houtcome⟩ := hworking _ hl
    have hready : leaderReady u l = true :=
      leaderReady_of (by rw [hfilm]; exact hstill) hmore hrun (by rw [hstop]; exact hstopped) (by rw [hpower]; exact hdark)
    obtain ⟨hempty, hbegins⟩ := leaderCycle_of_ready (by rw [hfilm]; exact hleader) hready
    rw [hresume, resumeCard_of_leader houtcome]
    rw [hfilm] at hempty
    rw [hfilm, hrb] at hbegins
    refine ⟨fun hmagazine => by rw [hempty hmagazine], fun hmagazine => ?_⟩
    obtain ⟨timer, hbegun⟩ := beginLeader_eq s.film s.rb l.noEdge
    exact ⟨timer, by rw [hbegins hmagazine, hbegun]; rfl⟩
  case waits =>
    obtain ⟨hresume, houtcome⟩ := hworking _ hc
    have hsettling : u.power.state = .settling := by rw [hpower]; exact hstate
    rw [hresume, resumeCard_of_calibrate houtcome, State.resumeCalibrate, hsettling]
    exact congrArg _ (State.resumeSettleWait_eq u)
  case settles =>
    obtain ⟨hresume, houtcome⟩ := hworking _ hc
    have hunsettled : u.power.state = .unsettled := by rw [hpower]; exact hstate
    rw [hresume, resumeCard_of_calibrate houtcome, State.resumeCalibrate, hunsettled]
    exact congrArg _ (State.beginSettle_eq u)
  case own =>
    rcases hown with ⟨g, a, x, h⟩ | ⟨g, a, h⟩ <;>
    · obtain ⟨hresume, houtcome⟩ := hworking _ h
      rw [hresume, State.resumeCard, houtcome]
  case reread =>
    rw [← hseq] at hpresent hentered hfinished hacted ho
    have htaken' : u.deck.taken = some d := by rw [hu]; simpa using htaken
    rw [hexec, resumeRunning_of_acted hpresent hentered hfinished hacted, State.resumeCard, ho]
    show Host.Outcome.next u.rereadCurrent = _
    have hid : u.nextId = s.nextId := by rw [hu, resumed_nextId]
    have haddr : deckAddr u d = deckAddr s d := by rw [hu, resumed_deckAddr]
    rw [rereadCurrent_eq htaken', haddr, hid, hseq]
  case held =>
    rw [← hseq] at hpresent hentered hfinished hacted hv
    have htaken' : u.deck.taken = some d := by rw [hu]; simpa using htaken
    have hat := actedOnAt_resumed htaken' hrun hpresent hentered hfinished hacted hv
    rw [hseq, ← hexec] at hat
    have hcurrent : v.seq.current = { s.seq.current with acted := true } := by rw [hv, hseq]
    have hdeck : v.deck.finishedCount = s.deck.finishedCount := by rw [hv, hu]; simp [resumed, State.refresh_eq]
    refine ⟨fun ho => ?_, fun why field b ho hindex => ?_, fun k ho => ?_⟩ <;> rw [ho] at hat
    · exact hat.readFailed
    · exact hat.invalid (by rw [hcurrent, hdeck]; exact hindex)
    · obtain ⟨t, ht, hprepared⟩ := hat.frame
      rw [hcurrent] at hprepared
      exact ⟨t, ht, hprepared⟩

end Sys2Proof.Machine

/-! PROOF. The film: steps issued, the dwell end and its owners (R15 to R17, R22, R23, R115 to R128): O54, O56 to O59. -/

namespace Sys2Proof.Machine

variable {s t u v : State} {d : Deck}

/-! ## The LED (R128) -/

/-- The bit presented at a pull-down step is the one whose EB steps hold it. -/
theorem presented_iff {eo eb p : Nat} {P : Nat → Prop} :
    (eo ≤ p ∧ p < eo + 44 * eb ∧ P ((p - eo) / eb)) ↔ ∃ j < 44, eo + j * eb ≤ p ∧ p < eo + (j + 1) * eb ∧ P j := by
  constructor
  · rintro ⟨hlow, hhigh, hP⟩
    have heb : 0 < eb := by
      by_contra hzero
      simp only [not_lt, Nat.le_zero] at hzero
      omega
    have hdiv : eb * ((p - eo) / eb) ≤ p - eo := Nat.mul_div_le _ _
    have hlt : p - eo < eb * ((p - eo) / eb + 1) := by
      rw [Nat.mul_succ]
      exact Nat.lt_mul_div_succ _ heb
    refine ⟨(p - eo) / eb, (Nat.div_lt_iff_lt_mul heb).mpr (by omega), ?_, ?_, hP⟩
    · rw [Nat.mul_comm]; omega
    · rw [Nat.mul_comm]; omega
  · rintro ⟨j, hj, hlow, hhigh, hP⟩
    have heb : 0 < eb := by
      by_contra hzero
      simp only [not_lt, Nat.le_zero] at hzero
      simp only [hzero, Nat.mul_zero] at hlow hhigh
      omega
    have hbit : (p - eo) / eb = j := by
      rw [Nat.div_eq_iff heb]
      have hsucc : (j + 1) * eb = j * eb + eb := Nat.succ_mul j eb
      omega
    have hmost : (j + 1) * eb ≤ 44 * eb := Nat.mul_le_mul_right _ hj
    exact ⟨by omega, by omega, by rw [hbit]; exact hP⟩

theorem ledLaw_iff {f : Film} (hstate : f.state = .pulling) (eo eb : Nat) :
    ledLaw f eo eb = true ↔ (∃ y, f.cycle = some y ∧ y.edgeOn = true) ∧
      ∃ j < 44, eo + j * eb ≤ f.pullIssued ∧ f.pullIssued < eo + (j + 1) * eb ∧ f.edgeCode.getLsbD j = true := by
  rw [← presented_iff (P := fun j => f.edgeCode.getLsbD j = true)]
  unfold ledLaw
  rw [hstate]
  cases hcycle : f.cycle with
  | none => simp
  | some y => simp [and_assoc]

/-! ## Steps (R115 to R118) -/

theorem exec_stepIssue_scan (howed : 0 < s.film.owed) (h : s.film.state = .scanning ∨ s.film.state = .catchup) :
    exec .stepIssue s = .next (s.setFilm (s.film.scanStep s.rb)) := by
  show execStepIssue s = _
  rw [execStepIssue, if_neg howed.ne']
  rcases h with h | h <;> rw [h]

theorem exec_stepIssue_pull (howed : 0 < s.film.owed) (h : s.film.state = .pulling) :
    exec .stepIssue s = .next (s.setFilm (s.film.pullStep s.rb)) := by
  show execStepIssue s = _
  rw [execStepIssue, if_neg howed.ne', h]

theorem issueStep_eq {f : Film} (howed : 0 < f.owed) (period : Nat) :
    f.issueStep period = { f with
      owed := f.owed - 1, stepHigh := true, pulseTimer := some (period / 2)
      stepTimer := if f.owed = 1 then none else some period } := by
  have hlast : (f.owed ≤ 1) = (f.owed = 1) := propext ⟨fun h => by omega, fun h => by omega⟩
  simp only [Film.issueStep, hlast]

/-- A scan step that is not the last of CATCHUP. -/
theorem scanStep_of_more {f : Film} {rb : RunBlock} (howed : 0 < f.owed)
    (h : f.state = .scanning ∨ (f.state = .catchup ∧ f.scanIssued + 1 < rb.film.ms)) :
    f.scanStep rb = { f with
      owed := f.owed - 1, scanIssued := f.scanIssued + 1, stepHigh := true
      pulseTimer := some (rb.film.stepPeriod / 2), stepTimer := if f.owed = 1 then none else some rb.film.stepPeriod } := by
  have hstays : ¬(f.state == .catchup && decide (rb.film.ms ≤ f.scanIssued + 1)) = true := by
    rcases h with h | ⟨h, hmore⟩
    · simp [h]
    · simp only [h, Bool.and_eq_true, decide_eq_true_eq]
      omega
  unfold Film.scanStep
  rw [issueStep_eq howed]
  exact if_neg hstays

/-- Entry to PULLING (R118), with the edge code assembled and its first bit presented. -/
theorem enterPulling_eq {f : Film} {y : Cycle} (rb : RunBlock) (hcycle : f.cycle = some y) :
    ∃ led, f.enterPulling rb = { f with
      state := .pulling, owed := f.owed + rb.film.mp
      stepTimer := if rb.film.mp = 0 then f.stepTimer else if f.owed = 0 then some rb.film.stepPeriod else f.stepTimer
      edgeCode := edgeCodeOf y.position rb.runNumber y.kind.code, led := led } ∧
    (led = true ↔ y.edgeOn = true ∧ ∃ j < 44, rb.film.eo + j * rb.film.eb ≤ f.pullIssued ∧
      f.pullIssued < rb.film.eo + (j + 1) * rb.film.eb ∧
      (edgeCodeOf y.position rb.runNumber y.kind.code).getLsbD j = true) := by
  have hcode : f.assemble rb = edgeCodeOf y.position rb.runNumber y.kind.code := by rw [Film.assemble, hcycle]
  unfold Film.enterPulling
  rw [hcode]
  refine ⟨_, rfl, (ledLaw_iff rfl _ _).trans (and_congr_left' ?_)⟩
  constructor
  · rintro ⟨z, hz, hon⟩
    rwa [Option.some.inj (hcycle.symm.trans hz)]
  · exact fun hon => ⟨y, hcycle, hon⟩

/-- The last scan step of CATCHUP enters PULLING. -/
theorem scanStep_of_last {f : Film} {rb : RunBlock} {y : Cycle} (howed : 0 < f.owed) (hstate : f.state = .catchup)
    (hlast : rb.film.ms ≤ f.scanIssued + 1) (hcycle : f.cycle = some y) :
    ∃ led, f.scanStep rb = { f with
      state := .pulling, owed := f.owed - 1 + rb.film.mp, scanIssued := f.scanIssued + 1, stepHigh := true
      pulseTimer := some (rb.film.stepPeriod / 2)
      stepTimer := if f.owed = 1 ∧ rb.film.mp = 0 then none else some rb.film.stepPeriod
      edgeCode := edgeCodeOf y.position rb.runNumber y.kind.code, led := led } ∧
    (led = true ↔ y.edgeOn = true ∧ ∃ j < 44, rb.film.eo + j * rb.film.eb ≤ f.pullIssued ∧
      f.pullIssued < rb.film.eo + (j + 1) * rb.film.eb ∧
      (edgeCodeOf y.position rb.runNumber y.kind.code).getLsbD j = true) := by
  have henters : (f.state == .catchup && decide (rb.film.ms ≤ f.scanIssued + 1)) = true := by simp [hstate, hlast]
  obtain ⟨led, hentered, hled⟩ := enterPulling_eq rb
    (f := { f with
      owed := f.owed - 1, scanIssued := f.scanIssued + 1, stepHigh := true
      pulseTimer := some (rb.film.stepPeriod / 2), stepTimer := if f.owed = 1 then none else some rb.film.stepPeriod })
    hcycle
  have htimer : (if rb.film.mp = 0 then (if f.owed = 1 then none else some rb.film.stepPeriod)
      else if f.owed - 1 = 0 then some rb.film.stepPeriod
      else if f.owed = 1 then none else some rb.film.stepPeriod) =
      if f.owed = 1 ∧ rb.film.mp = 0 then none else some rb.film.stepPeriod := by
    by_cases hone : f.owed = 1
    · simp [hone]
    · simp [hone]
  refine ⟨led, ?_, hled⟩
  unfold Film.scanStep
  rw [issueStep_eq howed, ← htimer]
  exact (if_pos henters).trans hentered

/-- A pull-down step, the last of which starts the settling period. -/
theorem pullStep_eq {f : Film} (rb : RunBlock) (howed : 0 < f.owed) (hstate : f.state = .pulling) :
    ∃ led, f.pullStep rb = { f with
      owed := f.owed - 1, pullIssued := f.pullIssued + 1, stepHigh := true
      pulseTimer := some (rb.film.stepPeriod / 2), stepTimer := if f.owed = 1 then none else some rb.film.stepPeriod
      settlingTimer := if rb.film.mp ≤ f.pullIssued + 1 then some rb.film.stepPeriod else f.settlingTimer, led := led } ∧
    (led = true ↔ (∃ y, f.cycle = some y ∧ y.edgeOn = true) ∧
      ∃ j < 44, rb.film.eo + j * rb.film.eb ≤ f.pullIssued + 1 ∧ f.pullIssued + 1 < rb.film.eo + (j + 1) * rb.film.eb ∧
        f.edgeCode.getLsbD j = true) := by
  unfold Film.pullStep
  rw [issueStep_eq howed]
  dsimp only
  split
  · exact ⟨_, rfl, ledLaw_iff (by exact hstate) _ _⟩
  · exact ⟨_, rfl, ledLaw_iff (by exact hstate) _ _⟩

/-- Frame Exposure's requests in SCANNING (R116, R117). -/
theorem finish_of_scanning_state {f : Film} (rb : RunBlock) (k : CloseKind) (hstate : f.state = .scanning) :
    (f.finish rb k).scanRequested = rb.film.ms ∧
    (f.finish rb k).cycle = f.cycle.map (fun y => { y with kind := if k = .good then .good else .spoiled }) ∧
    (f.scanIssued < rb.film.ms →
      (f.finish rb k).state = .catchup ∧ (f.finish rb k).owed = f.owed + (rb.film.ms - f.scanRequested)) ∧
    (rb.film.ms ≤ f.scanIssued → (f.finish rb k).state = .pulling) := by
  have hkind : k.cycle = if k = .good then .good else .spoiled := by cases k <;> rfl
  unfold Film.finish
  rw [hstate, hkind]
  dsimp only
  split
  next hissued => exact ⟨rfl, rfl, fun h => absurd h (by simpa [Film.addSteps] using hissued), fun _ => rfl⟩
  next hissued => exact ⟨rfl, rfl, fun _ => ⟨rfl, rfl⟩, fun h => absurd h hissued⟩

/-- Settles O54. -/
theorem stepsAreIssued : Obligations.StepsAreIssued := by
  refine ⟨fun s howed => ⟨fun h => ?more, fun y hstate hlast hcycle => ?last, fun hstate => ?pull⟩,
    fun f rb r k => ⟨fun hstate => ?asked, fun hstate => ?ignored⟩⟩
  case more => rw [exec_stepIssue_scan howed (h.imp_right And.left), scanStep_of_more howed h]; rfl
  case last =>
    obtain ⟨led, hstep, hled⟩ := scanStep_of_last howed hstate hlast hcycle
    exact ⟨led, by rw [exec_stepIssue_scan howed (.inr hstate), hstep]; rfl, hled⟩
  case pull =>
    obtain ⟨led, hstep, hled⟩ := pullStep_eq s.rb howed hstate
    exact ⟨led, by rw [exec_stepIssue_pull howed hstate, hstep]; rfl, hled⟩
  case asked =>
    have hlines : f.lineSteps rb r =
        { (f.addSteps (stepsOf rb r) rb.film.stepPeriod) with scanRequested := f.scanRequested + stepsOf rb r } := by
      unfold Film.lineSteps
      rw [hstate]
    rw [hlines]
    exact ⟨rfl, rfl, hstate, rfl, finish_of_scanning_state rb k hstate⟩
  case ignored =>
    constructor
    · unfold Film.lineSteps
      split
      next hscanning => exact absurd hscanning hstate
      next => rfl
    · unfold Film.finish
      split
      next hscanning => exact absurd hscanning hstate
      next => rfl

end Sys2Proof.Machine

/-! PROOF. The dwell end (R120): the position counted, and what its owner does then (O56 to O59). -/

namespace Sys2Proof.Machine

variable {s t u : State} {c : FrameCtx} {y : Cycle}

/-! ## The position is counted (R120 steps 1 to 5) -/

/-- The transport with the position of a cycle counted. -/
theorem Film.countPosition_eq {f : Film} (hy : f.cycle = some y) :
    f.countPosition = { f with
      counter := f.counter + 1, magazine := f.magazine - 1, dwellTimer := none
      good := f.good + (if y.kind = .good then 1 else 0)
      spoiled := f.spoiled + (if y.kind = .spoiled then 1 else 0)
      leaders := f.leaders + (if y.kind = .leader then 1 else 0) } := by
  unfold Film.countPosition
  simp only [hy, Film.countKind]
  split
  next hkind => simp [hkind]
  next hkind => simp [hkind]
  next hkind => simp [hkind]

theorem Film.countPosition_counter (f : Film) : f.countPosition.counter = f.counter + 1 := by
  unfold Film.countPosition Film.countKind
  (repeat' split) <;> rfl

theorem Film.countPosition_magazine (f : Film) : f.countPosition.magazine = f.magazine - 1 := by
  unfold Film.countPosition Film.countKind
  (repeat' split) <;> rfl

@[simp] theorem Film.checked_counts (f : Film) (passed : Bool) : (f.checked passed).counts = f.counts := by
  cases passed <;> rfl

/-- The state in which the owner of the cycle is told of the dwell end. -/
def State.counted (s : State) : State :=
  s.countPosition.setFilm (s.countPosition.film.checked (perfPasses s))

theorem State.counted_eq (s : State) :
    s.counted = { s with film := s.film.countPosition.checked (perfPasses s), regs := s.counted.regs } := by
  unfold State.counted State.countPosition
  dsimp only
  split <;> rfl

@[simp] theorem State.counted_film (s : State) : s.counted.film = s.film.countPosition.checked (perfPasses s) := by
  rw [State.counted_eq]

@[simp] theorem State.counted_run (s : State) : s.counted.run = s.run := by rw [State.counted_eq]
@[simp] theorem State.counted_rb (s : State) : s.counted.rb = s.rb := by rw [State.counted_eq]
@[simp] theorem State.counted_deck (s : State) : s.counted.deck = s.deck := by rw [State.counted_eq]
@[simp] theorem State.counted_seq (s : State) : s.counted.seq = s.seq := by rw [State.counted_eq]
@[simp] theorem State.counted_frame (s : State) : s.counted.frame = s.frame := by rw [State.counted_eq]
@[simp] theorem State.counted_ring (s : State) : s.counted.ring = s.ring := by rw [State.counted_eq]
@[simp] theorem State.counted_dp (s : State) : s.counted.dp = s.dp := by rw [State.counted_eq]
@[simp] theorem State.counted_tables (s : State) : s.counted.tables = s.tables := by rw [State.counted_eq]
@[simp] theorem State.counted_scan (s : State) : s.counted.scan = s.scan := by rw [State.counted_eq]
@[simp] theorem State.counted_power (s : State) : s.counted.power = s.power := by rw [State.counted_eq]
@[simp] theorem State.counted_bus (s : State) : s.counted.bus = s.bus := by rw [State.counted_eq]

/-- FILM_LOW is raised at the low threshold (R120 step 2). -/
theorem counted_filmLow (hlow : s.film.magazine - 1 = s.rb.film.lowThreshold) :
    s.counted.regs.causes.getLsbD 5 = true := by
  have hraised : s.counted.regs = ((s.setFilm s.film.countPosition).raise .filmLow).regs := by
    unfold State.counted State.countPosition
    rw [if_pos (show (s.setFilm s.film.countPosition).film.magazine = _ by
      rw [State.setFilm_film, Film.countPosition_magazine]; exact hlow)]
    rfl
  rw [hraised]
  show (s.regs.causes ||| Cause.filmLow.bit).getLsbD 5 = true
  rw [BitVec.getLsbD_or, Bool.or_eq_true]
  exact .inr (by decide)

theorem dwellEnd_eq (s : State) :
    s.dwellEnd =
      (if perfPasses s then s.counted.reportStill else s.counted).handCycle s.film.cycle (perfPasses s) := rfl

theorem exec_dwellEnd (hdwell : s.film.state = .dwell) : exec .dwellEnd s = .next s.dwellEnd := by
  show execDwellEnd s = _
  simp [execDwellEnd, hdwell]

/-- What the owner does with a dwell end keeps the counts and the causes. -/
theorem dwellEnd_steady (s : State) : Steady ⟨False, False, False, True⟩ s.counted s.dwellEnd :=
  .handCycle (.ite (Steady.refl _).reportStill (.refl _)) trivial

theorem dwellEnd_counts (s : State) :
    s.dwellEnd.film.counter = s.film.counter + 1 ∧ s.dwellEnd.film.magazine = s.film.magazine - 1 ∧
    (∀ y, s.film.cycle = some y →
      s.dwellEnd.film.good = s.film.good + (if y.kind = .good then 1 else 0) ∧
      s.dwellEnd.film.spoiled = s.film.spoiled + (if y.kind = .spoiled then 1 else 0) ∧
      s.dwellEnd.film.leaders = s.film.leaders + (if y.kind = .leader then 1 else 0)) ∧
    (s.film.magazine - 1 = s.rb.film.lowThreshold → s.dwellEnd.regs.causes.getLsbD 5 = true) := by
  have hsteady := dwellEnd_steady s
  have hcounts : s.dwellEnd.film.counts = s.film.countPosition.counts := by
    rw [hsteady.counts.resolve_left id, State.counted_eq, Film.checked_counts]
  obtain ⟨hcounter, hmagazine, hgood, hspoiled, hleaders⟩ := by
    simpa only [Film.counts, Prod.mk.injEq] using hcounts
  refine ⟨hcounter.trans (Film.countPosition_counter _), hmagazine.trans (Film.countPosition_magazine _), fun y hy => ?_,
    fun hlow => hsteady.causes.resolve_left id 5 (counted_filmLow hlow)⟩
  rw [hgood, hspoiled, hleaders, Film.countPosition_eq hy]
  exact ⟨rfl, rfl, rfl⟩

/-- Settles O56. -/
theorem dwellEndCountsThePosition : Obligations.DwellEndCountsThePosition := by
  intro s c
  refine ⟨fun hpulling htimer hdwell => ?_, ?_⟩
  · obtain ⟨n, hn⟩ := Option.ne_none_iff_exists'.mp htimer
    show execSettlingPeriodEnd s = _
    simp only [execSettlingPeriodEnd, hpulling, hn]
    rw [if_neg hdwell.ne']
    rfl
  · rintro (⟨rfl, hdwell⟩ | ⟨rfl, hpulling, htimer, hdwell⟩)
    · exact ⟨s.dwellEnd, exec_dwellEnd hdwell, dwellEnd_counts s⟩
    · obtain ⟨n, hn⟩ := Option.ne_none_iff_exists'.mp htimer
      refine ⟨_, ?_, dwellEnd_counts (s.setFilm { s.film with
        state := .dwell, settlingTimer := none, led := false
        dwellTimer := some (s.rb.film.dwell * Config.ticksPerMs) })⟩
      show execSettlingPeriodEnd s = _
      simp only [execSettlingPeriodEnd, hpulling, hn]
      rw [if_pos hdwell]
/-! ## The finish at a dwell end (log entry 7) -/

/-- What a card's finish carries over from the state it is told in: the refresh is written from these. -/
structure SameForFinish (s w : State) : Prop where
  run : w.run = s.run
  rb : w.rb = s.rb
  seq : w.seq = s.seq
  deck : w.deck = s.deck
  address : runAddress w = runAddress s
  bus : w.bus = s.bus

/-- The result of a dwell end: the refresh of the event, the result, and the refresh after it, with what the owner did
to its own blocks in between. -/
theorem cardFinishes_dwell {w v : State} {d : Deck} {r : CardResult} (hsame : SameForFinish s w)
    (htaken : s.deck.taken = some d) (hindex : s.deck.finishedCount ≤ s.seq.current.index)
    (hrun : v.run = w.run) (hseq : v.seq = (w.refresh.handResult r).seq) (hdeck : v.deck = (w.refresh.handResult r).deck)
    (hregs : v.regs = w.regs) (hbus : v.bus = (w.refresh.handResult r).bus) :
    cardFinishes s v.refresh d r w.film.counter true := by
  obtain ⟨hsrun, hsrb, hsseq, hsdeck, hsaddr, hsbus⟩ := hsame
  have hresult := handResult_eq (s := w.refresh) (d := d) (by simp [hsdeck, htaken])
    (by simpa [State.refresh_eq, hsdeck, hsseq] using hindex) r
  refine cardFinishes_refresh_dwell (body := snapshotBody w) (hrun.trans hsrun) ?_ ?_ ?_ ?_
  · rw [hseq, hresult]; simp [hsseq]
  · rw [hdeck, hresult]; simp [State.refresh_eq, hsdeck]
  · rw [← hsaddr]; simp [runAddress, hregs]
  · rw [hbus, hresult]
    simp only [State.refresh_eq, hsdeck, hsseq, hsbus]
    rw [refreshWrites_congr (s := s) (n := 1) hsaddr (by rw [hsdeck]) (by rw [hsdeck])]
    simp [deckAddr, hsrb]

theorem sameForFinish_counted (s : State) : SameForFinish s s.counted := by
  refine ⟨by simp, by simp, by simp, by simp, ?_, by simp⟩
  unfold State.counted State.countPosition
  dsimp only
  split <;> rfl

/-! ## How the run goes on from a FRAME card's finish (R16) -/

/-- The halt of a card's halt after cycle. -/
def HaltAfter.cause (h : HaltAfter) : HaltCause := if h = .polygonLost then .polygonLost else .laserDark

theorem takeFrameCourse_of_end {failed : Bool} {adv : State → State}
    (h : u.run.stopPending = true ∨ c.lastSpoil = .abort) :
    u.takeFrameCourse (frameCourse u c failed) adv = u.endRun := by
  rw [frameCourse, if_pos (by simpa using h)]
  rfl

theorem takeFrameCourse_of_haltAfter {failed : Bool} {adv : State → State} (hstop : u.run.stopPending = false)
    (habort : c.lastSpoil ≠ .abort) (h : c.haltAfter ≠ .none) :
    u.takeFrameCourse (frameCourse u c failed) adv = u.halt c.haltAfter.cause := by
  rw [frameCourse, if_neg (by simp [hstop, habort])]
  cases hafter : c.haltAfter with
  | polygonLost => rfl
  | laserDark => rfl
  | none => exact absurd hafter h

/-- With no halt after cycle: the items of R16 from the third on. -/
theorem frameCourse_of_no_haltAfter {failed : Bool} (hstop : u.run.stopPending = false) (habort : c.lastSpoil ≠ .abort)
    (h : c.haltAfter = .none) :
    frameCourse u c failed =
      if failed && c.lastSpoil.exhausts then .halt .retakesExhausted
      else if u.run.powerLimitPending then .powerLimit
      else if c.card.holdAfter then .held true
      else if u.run.pausePending then .held false
      else .advance := by
  simp [frameCourse, hstop, habort, h]

theorem exhausts_iff {x : SpoilCause} : x.exhausts = true ↔ x = .underrun ∨ x = .lineError ∨ x = .lineTimeout := by
  cases x <;> decide

/-! ## The owner of a frame cycle -/

theorem handCycle_frame {passed : Bool} (hframe : y.forFrame = true) (hctx : u.frame.ctx = some c) :
    u.handCycle (some y) passed = if y.kind = .spoiled then u.ownSpoiled c passed else u.ownGood c passed := by
  unfold State.handCycle
  simp only [hframe, hctx, if_true]
  cases y.kind <;> rfl

theorem halt_of_running (hrun : u.run.state = .running) (cause : HaltCause) :
    (u.halt cause).run.state = .halted ∧ (u.halt cause).run.haltCause = cause ∧ (u.halt cause).power.gateOpen = false := by
  obtain ⟨hr, hgate, -⟩ := State.halt_taken u cause (by rw [hrun]; rfl)
  exact ⟨by rw [hr], by rw [hr]; rfl, hgate⟩

/-- The write of a spoil entry, when the list has a place for it (R23). -/
def spoilWrites (s : State) (c : FrameCtx) : List BusOp :=
  if s.frame.entriesWritten < s.rb.spoilCapacity then
    [.write (s.rb.spoilList + BitVec.ofNat 64 (32 * s.frame.entriesWritten)) (spoilEntryBytes c s.rb.runNumber)]
  else []

/-- A SPOILED cycle's entry is recorded, SPOIL is raised, and the refresh of the event is written (R22). -/
def State.spoilTold (s : State) (c : FrameCtx) : State := ((s.recordSpoil c).raise .spoil).refresh

theorem State.recordSpoil_eq (s : State) (c : FrameCtx) :
    s.recordSpoil c = { s with frame := (s.recordSpoil c).frame, bus := s.bus ++ spoilWrites s c } := by
  unfold State.recordSpoil spoilWrites
  split
  · rfl
  · rw [List.append_nil]; rfl

theorem recordSpoil_written (h : s.frame.entriesWritten < s.rb.spoilCapacity) :
    (s.recordSpoil c).frame = { s.frame with entriesWritten := s.frame.entriesWritten + 1 } := by
  rw [State.recordSpoil, if_pos h]; rfl

theorem recordSpoil_dropped (h : s.rb.spoilCapacity ≤ s.frame.entriesWritten) :
    (s.recordSpoil c).frame = { s.frame with entriesDropped := s.frame.entriesDropped + 1 } := by
  rw [State.recordSpoil, if_neg h.not_gt]; rfl

theorem SameForFinish.setCtx {w : State} (h : SameForFinish s w) : SameForFinish s (w.setCtx c) :=
  ⟨h.run, h.rb, h.seq, h.deck, h.address, h.bus⟩

theorem sameForFinish_recorded (s : State) (c : FrameCtx) :
    SameForFinish { s with bus := s.bus ++ spoilWrites s c } ((s.recordSpoil c).raise .spoil) := by
  rw [State.recordSpoil_eq]
  exact ⟨rfl, rfl, rfl, rfl, rfl, rfl⟩

/-- What the record of a spoiled cycle leaves for good: SPOIL, the entry's count and its write. -/
theorem ownSpoiled_records (hctx : u.frame.ctx = some c) (passed : Bool) :
    (u.ownSpoiled c passed).regs.causes.getLsbD 1 = true ∧
    (u.frame.entriesWritten < u.rb.spoilCapacity →
      (u.ownSpoiled c passed).frame.entriesWritten = u.frame.entriesWritten + 1 ∧
      (u.ownSpoiled c passed).frame.entriesDropped = u.frame.entriesDropped ∧
      ∃ post, (u.ownSpoiled c passed).bus = u.bus ++
        [.write (u.rb.spoilList + BitVec.ofNat 64 (32 * u.frame.entriesWritten)) (spoilEntryBytes c u.rb.runNumber)] ++
        post) ∧
    (u.rb.spoilCapacity ≤ u.frame.entriesWritten →
      (u.ownSpoiled c passed).frame.entriesWritten = u.frame.entriesWritten ∧
      (u.ownSpoiled c passed).frame.entriesDropped = u.frame.entriesDropped + 1) := by
  have hsteady : Steady ⟨False, False, False, False⟩ (u.spoilTold c) (u.ownSpoiled c passed) :=
    (Steady.refl _).afterSpoiled (freeContext_of_some (by simpa [State.spoilTold, State.recordSpoil_ctx] using hctx))
  have hentries : (u.ownSpoiled c passed).frame.entries = (u.recordSpoil c).frame.entries :=
    (hsteady.entries.resolve_left id).trans (by simp [State.spoilTold])
  obtain ⟨hwritten, hdropped⟩ := Prod.mk.inj hentries
  refine ⟨hsteady.causes.resolve_left id 1 ?_, fun h => ⟨?_, ?_, ?_⟩, fun h => ⟨?_, ?_⟩⟩
  · simp only [State.spoilTold, State.refresh_regs, State.raise_causes, BitVec.getLsbD_or, Bool.or_eq_true]
    exact .inr (by decide)
  · rw [hwritten, recordSpoil_written h]
  · rw [hdropped, recordSpoil_written h]
  · obtain ⟨post, hpost⟩ := hsteady.bus
    have htold : (u.spoilTold c).bus = u.bus ++ spoilWrites u c ++ refreshWrites ((u.recordSpoil c).raise .spoil) 1
        (snapshotBody ((u.recordSpoil c).raise .spoil)) := by
      rw [State.spoilTold, State.refresh_bus, State.recordSpoil_eq]
      rfl
    rw [← hpost, htold, spoilWrites, if_pos h, List.append_assoc _ _ post]
    exact ⟨_, rfl⟩
  · rw [hwritten, recordSpoil_dropped h]
  · rw [hdropped, recordSpoil_dropped h]
/-! ## The dwell end of a frame cycle (R15, R16, R22) -/

theorem dwellEnd_failed (hperf : s.film.perfCount ≠ s.rb.film.perfs) (hy : s.film.cycle = some y) :
    s.dwellEnd = s.counted.handCycle (some y) false := by
  have hfail : perfPasses s = false := by simpa [perfPasses] using hperf
  rw [dwellEnd_eq, hfail, hy]
  rfl

theorem dwellEnd_passed (hperf : s.film.perfCount = s.rb.film.perfs) (hy : s.film.cycle = some y) :
    s.dwellEnd = s.counted.reportStill.handCycle (some y) true := by
  have hpass : perfPasses s = true := by simpa [perfPasses] using hperf
  rw [dwellEnd_eq, hpass, hy]
  rfl

theorem counted_film_failed (hperf : s.film.perfCount ≠ s.rb.film.perfs) : s.counted.film.state = .faulted := by
  have hfail : perfPasses s = false := by simpa [perfPasses] using hperf
  rw [State.counted_eq, hfail]
  rfl

theorem counted_film_passed (hperf : s.film.perfCount = s.rb.film.perfs) (hy : s.film.cycle = some y) :
    s.counted.film = { s.film with
      state := .still, cycle := none, counter := s.film.counter + 1, magazine := s.film.magazine - 1, dwellTimer := none
      good := s.film.good + (if y.kind = .good then 1 else 0)
      spoiled := s.film.spoiled + (if y.kind = .spoiled then 1 else 0)
      leaders := s.film.leaders + (if y.kind = .leader then 1 else 0) } := by
  have hpass : perfPasses s = true := by simpa [perfPasses] using hperf
  rw [State.counted_eq, hpass, Film.countPosition_eq hy]
  rfl

theorem reportStill_of_not_pending (h : u.power.darkHaltPending = false) : u.reportStill = u := by
  rw [State.reportStill, h]
  rfl

@[simp] theorem State.spoilTold_run (s : State) (c : FrameCtx) : (s.spoilTold c).run = s.run := by simp [State.spoilTold]
@[simp] theorem State.spoilTold_seq (s : State) (c : FrameCtx) : (s.spoilTold c).seq = s.seq := by simp [State.spoilTold]
@[simp] theorem State.spoilTold_film (s : State) (c : FrameCtx) : (s.spoilTold c).film = s.film := by
  simp [State.spoilTold]
@[simp] theorem State.spoilTold_tables (s : State) (c : FrameCtx) : (s.spoilTold c).tables = s.tables := by
  simp [State.spoilTold]
@[simp] theorem State.spoilTold_power (s : State) (c : FrameCtx) : (s.spoilTold c).power = s.power := by
  simp [State.spoilTold]
@[simp] theorem State.spoilTold_rb (s : State) (c : FrameCtx) : (s.spoilTold c).rb = s.rb := by simp [State.spoilTold]
@[simp] theorem State.spoilTold_ctx (s : State) (c : FrameCtx) : (s.spoilTold c).frame.ctx = s.frame.ctx := by
  simp [State.spoilTold, State.recordSpoil_ctx]
@[simp] theorem State.spoilTold_finishedCount (s : State) (c : FrameCtx) :
    (s.spoilTold c).deck.finishedCount = s.deck.finishedCount := by simp [State.spoilTold, State.refresh_eq]

/-- A failed check of a frame cycle: the transport FAULTED and the run halted, the card without a result. -/
theorem dwellEnd_registration (hperf : s.film.perfCount ≠ s.rb.film.perfs) (hy : s.film.cycle = some y)
    (hframe : y.forFrame = true) (hctx : s.frame.ctx = some c) (hrun : s.run.state = .running) :
    s.dwellEnd.film.state = .faulted ∧ s.dwellEnd.run.state = .halted ∧ s.dwellEnd.run.haltCause = .registration ∧
    s.dwellEnd.power.gateOpen = false ∧ s.dwellEnd.deck.finishedCount = s.deck.finishedCount ∧
    s.dwellEnd.seq = s.seq ∧
    (y.kind ≠ .spoiled → s.dwellEnd.frame = s.frame) ∧
    (y.kind = .spoiled → s.dwellEnd = s.counted.ownSpoiled c false ∧
      s.dwellEnd.frame.ctx = some { c with retakePending := false }) := by
  have hfilm := counted_film_failed hperf
  rw [dwellEnd_failed hperf hy, handCycle_frame hframe (by simpa using hctx)]
  by_cases hkind : y.kind = .spoiled
  · rw [if_pos hkind]
    have hown : s.counted.ownSpoiled c false =
        ((s.counted.spoilTold c).setCtx { c with retakePending := false }).halt .registration := rfl
    obtain ⟨hr, hcause, hgate⟩ := halt_of_running (cause := .registration)
      (u := (s.counted.spoilTold c).setCtx { c with retakePending := false })
      (by simpa [State.setCtx] using hrun)
    refine ⟨?_, ?_, ?_, ?_, ?_, ?_, fun h => absurd hkind h, fun _ => ⟨rfl, ?_⟩⟩
    all_goals rw [hown]
    · simpa [State.setCtx] using hfilm
    · exact hr
    · exact hcause
    · exact hgate
    · rw [halt_finishedCount]
      simp [State.setCtx]
    · simp [State.setCtx]
    · rw [State.halt_frame]; rfl
  · rw [if_neg hkind]
    have hown : s.counted.ownGood c false = s.counted.refresh.halt .registration := rfl
    obtain ⟨hr, hcause, hgate⟩ := halt_of_running (cause := .registration) (u := s.counted.refresh)
      (by simpa using hrun)
    refine ⟨?_, ?_, ?_, ?_, ?_, ?_, fun _ => ?_, fun h => absurd h hkind⟩
    all_goals rw [hown]
    · simpa using hfilm
    · exact hr
    · exact hcause
    · exact hgate
    · rw [halt_finishedCount]
      simp [State.refresh_eq]
    · simp
    · simp
/-- A FRAME card with its result: the context empty, the cursor parked, and the refresh made (R16). -/
def State.frameFinished (s : State) (c : FrameCtx) (o : ResultOutcome) : State :=
  (((s.handResult { outcome := o, reason := .none, field := 0, kind := frameFields c o }).emptyCtx).parkAtFinish c).refresh

theorem finishFrame_eq (s : State) (c : FrameCtx) (o : ResultOutcome) :
    s.finishFrame c o = (s.frameFinished c o).takeFrameCourse (frameCourse (s.frameFinished c o) c (o == .failed))
      State.advance := rfl

theorem frameFinished_fields (w : State) (c : FrameCtx) (o : ResultOutcome) :
    (w.frameFinished c o).run = w.run ∧ (w.frameFinished c o).film = w.film ∧
    (w.frameFinished c o).frame = { w.frame with ctx := none } ∧ (w.frameFinished c o).power = w.power ∧
    (w.frameFinished c o).scan = w.scan ∧ (w.frameFinished c o).tables = w.tables ∧ (w.frameFinished c o).dp = w.dp ∧
    (w.frameFinished c o).ring =
      (if w.ring.cursor.owner.tag = c.card.tag ∧ w.ring.cursor.owner.serial = c.serial ∧
          w.ring.cursor.owner.index = c.index then
        { w.ring with cursor := { w.ring.cursor with state := .parked, crossedFrom := none } } else w.ring) := by
  refine ⟨by simp [State.frameFinished, State.emptyCtx], by simp [State.frameFinished, State.emptyCtx],
    by simp [State.frameFinished, State.emptyCtx], by simp [State.frameFinished, State.emptyCtx],
    by simp [State.frameFinished, State.emptyCtx], by simp [State.frameFinished, State.emptyCtx],
    by simp [State.frameFinished, State.emptyCtx], ?_⟩
  simp only [State.frameFinished, State.refresh_ring, State.parkAtFinish, State.emptyCtx, State.setFrame_ring,
    State.handResult_ring, ofCard]
  simp only [Bool.and_eq_true, beq_iff_eq, and_assoc]
  split
  · simp [State.parkCursor, Cursor.park]
  · simp

/-- A FRAME card finishes at a dwell end told in w. -/
theorem cardFinishes_frameFinished {w : State} {d : Deck} (hsame : SameForFinish s w) (htaken : s.deck.taken = some d)
    (hindex : s.deck.finishedCount ≤ s.seq.current.index) (o : ResultOutcome) :
    cardFinishes s (w.refresh.frameFinished c o) d { outcome := o, reason := .none, field := 0, kind := frameFields c o }
      w.film.counter true :=
  cardFinishes_dwell hsame htaken hindex (by simp [State.emptyCtx]) (by simp [State.emptyCtx])
    (by simp [State.emptyCtx]) (by simp [State.emptyCtx]) (by simp [State.emptyCtx])

/-- How the run goes on from a FRAME card that finished with a GOOD cycle (R16). -/
theorem frameCourse_good_leads {d : Deck} {n : Nat} (hrun : u.run.state = .running) (htaken : u.deck.taken = some d)
    (hcount : u.deck.finishedCount = n) (ht : u.takeFrameCourse (frameCourse u c false) State.advance = t) :
    (u.run.stopPending = true ∨ c.lastSpoil = .abort → t = u.endRun) ∧
    (u.run.stopPending = false → c.lastSpoil ≠ .abort →
      (c.haltAfter ≠ .none → t = u.halt c.haltAfter.cause) ∧
      (c.haltAfter = .none →
        (u.run.powerLimitPending = true → t = ({ u with run.powerLimitPending := false } : State).halt .powerLimit) ∧
        (u.run.powerLimitPending = false →
          (c.card.holdAfter = true →
            t.run = { u.run with state := .held, pausePending := false } ∧
            t.regs.causes = u.regs.causes ||| 4 ∧ t.frame = u.frame ∧ t.seq = u.seq ∧ t.film = u.film ∧
            t.ring = u.ring ∧ t.deck.taken = some d ∧ t.deck.finishedCount = n ∧
            t.bus = u.bus ++ refreshWrites u 1 (snapshotBody t)) ∧
          (c.card.holdAfter = false →
            (u.run.pausePending = true → heldFrom u t) ∧ (u.run.pausePending = false → t = u.advance))))) := by
  subst ht
  refine ⟨fun h => takeFrameCourse_of_end h, fun hstop habort => ⟨takeFrameCourse_of_haltAfter hstop habort, fun hafter => ?_⟩⟩
  rw [frameCourse_of_no_haltAfter hstop habort hafter, Bool.false_and, if_neg Bool.false_ne_true]
  refine ⟨fun hlimit => by rw [if_pos hlimit]; rfl, fun hlimit => ?_⟩
  rw [if_neg (by simp [hlimit])]
  refine ⟨fun hhold => ?_, fun hhold => ?_⟩
  · rw [if_pos hhold]
    obtain ⟨hr, hregs, hseq, htakenAfter, hcountAfter, hframe, hring, hfilm, -, -, -, hbus⟩ := enterHeld_marked hrun rfl
    exact ⟨hr, hregs, hframe, hseq, hfilm, hring, htakenAfter.trans htaken, hcountAfter.trans hcount, hbus⟩
  · rw [if_neg (by simp [hhold])]
    refine ⟨fun hpause => ?_, fun hpause => ?_⟩
    · rw [if_pos hpause]
      exact heldFrom_enterHeld hrun
    · rw [if_neg (by simp [hpause])]
      rfl

/-- Settles O57. -/
theorem dwellEndJudgesTheFrame : Obligations.DwellEndJudgesTheFrame := by
  refine fun s c y hdwell hy hframe hctx hrun => ⟨fun hperf => ?failed, fun d hperf hkind hdark htaken hindex => ?passed⟩
  case failed =>
    obtain ⟨hfilm, hr, hcause, hgate, hcount, hseq, hgood, hspoiled⟩ := dwellEnd_registration hperf hy hframe hctx hrun
    refine ⟨_, exec_dwellEnd hdwell, hfilm, hr, hcause, hgate, hcount, hseq, fun hkind => hgood (by rw [hkind]; decide),
      fun hkind => ?_⟩
    obtain ⟨hown, hctxAfter⟩ := hspoiled hkind
    obtain ⟨hraised, hwritten, hdropped⟩ := ownSpoiled_records (u := s.counted) (c := c) (by simpa using hctx) false
    rw [← hown] at hraised hwritten hdropped
    simp only [State.counted_frame, State.counted_rb, State.counted_bus] at hwritten hdropped
    exact ⟨hraised, hctxAfter, hwritten, hdropped⟩
  case passed =>
    generalize hw : s.counted.setCtx { c with goodFilm := c.position } = w
    have hsame : SameForFinish s w := hw ▸ (sameForFinish_counted s).setCtx
    have hfilm := counted_film_passed hperf hy
    generalize ho : (if c.attemptsExposed = 1 then ResultOutcome.exposed else .retaken) = o
    have howned : s.dwellEnd = w.refresh.finishFrame { c with goodFilm := c.position } o := by
      rw [dwellEnd_passed hperf hy, reportStill_of_not_pending (by simpa using hdark),
        handCycle_frame hframe (by simpa using hctx), if_neg (by rw [hkind]; decide), ← hw, ← ho]
      rfl
    have hfinishes := cardFinishes_frameFinished (c := { c with goodFilm := c.position }) hsame htaken hindex o
    obtain ⟨hurun, hufilm, huframe, hupower, huscan, hutables, hudp, huring⟩ :=
      frameFinished_fields w.refresh { c with goodFilm := c.position } o
    generalize hu : w.refresh.frameFinished { c with goodFilm := c.position } o = u at *
    have hfields : frameFields { c with goodFilm := c.position } o = .frame c.lastSpoil c.attemptsExposed c.powerLimited
        c.minOccupancy c.firstFilm c.position c.clamps := by
      rw [← ho]
      split <;> rfl
    have hwfilm : w.film = s.counted.film := by rw [← hw]; rfl
    rw [hfields, hwfilm, hfilm] at hfinishes
    obtain ⟨hfrun, hfseq, hfdeck, -⟩ := id hfinishes
    have hleads := frameCourse_good_leads (c := { c with goodFilm := c.position }) (u := u) (d := d)
      (n := s.deck.finishedCount + 1) (by rw [hfrun, hrun]) (by rw [hfdeck, htaken]) (by rw [hfdeck])
      (ht := rfl)
    refine ⟨u, s.dwellEnd, exec_dwellEnd hdwell, hfinishes, ?_, ?_, ?_, ?_, ?_, ?_, ?_, ?_⟩
    · rw [hufilm, State.refresh_film, hwfilm, hfilm, hkind]; rfl
    · rw [huframe, ← hw]; simp [State.setCtx]
    · rw [huring, ← hw]; simp [State.setCtx]
    · rw [hupower, ← hw]; simp [State.setCtx]
    · rw [huscan, ← hw]; simp [State.setCtx]
    · rw [hutables, ← hw]; simp [State.setCtx]
    · rw [hudp, ← hw]; simp [State.setCtx]
    · rw [howned, finishFrame_eq, hu, ← hfrun, show (o == ResultOutcome.failed) = false by rw [← ho]; split <;> rfl]
      exact hleads
/-! ## A passed SPOILED cycle (R22) -/

theorem dwellEnd_spoiled (hperf : s.film.perfCount = s.rb.film.perfs) (hy : s.film.cycle = some y)
    (hframe : y.forFrame = true) (hkind : y.kind = .spoiled) (hctx : s.frame.ctx = some c)
    (hdark : s.power.darkHaltPending = false) : s.dwellEnd = s.counted.ownSpoiled c true := by
  rw [dwellEnd_passed hperf hy, reportStill_of_not_pending (by simpa using hdark),
    handCycle_frame hframe (by simpa using hctx), if_pos hkind]

/-- A retake whose attempt has a halt after cycle: the run halts with the attempt left CLOSING (R22). -/
theorem afterSpoiled_of_halt (hretake : c.retakePending = true) (hafter : c.haltAfter ≠ .none) :
    u.afterSpoiled c true = u.halt c.haltAfter.cause := by
  unfold State.afterSpoiled
  cases h : c.haltAfter <;> simp_all [HaltAfter.cause]

theorem afterSpoiled_of_retake (hretake : c.retakePending = true) (hafter : c.haltAfter = .none) :
    u.afterSpoiled c true = u.enterPreparing c := by
  simp [State.afterSpoiled, hretake, hafter]

theorem afterSpoiled_of_finish (hretake : c.retakePending = false) :
    u.afterSpoiled c true = u.finishFrame c .failed := by
  simp [State.afterSpoiled, hretake]

/-- How the run goes on from a FRAME card that finished FAILED for good (R16 items 1 to 3). -/
theorem frameCourse_failed_leads (hends : u.run.stopPending = true ∨ c.lastSpoil = .abort ∨ c.haltAfter ≠ .none ∨
      c.lastSpoil = .underrun ∨ c.lastSpoil = .lineError ∨ c.lastSpoil = .lineTimeout)
    (ht : u.takeFrameCourse (frameCourse u c true) State.advance = t) :
    (u.run.stopPending = true ∨ c.lastSpoil = .abort → t = u.endRun) ∧
    (u.run.stopPending = false → c.lastSpoil ≠ .abort →
      t = u.halt (if c.haltAfter = .polygonLost then .polygonLost
        else if c.haltAfter = .laserDark then .laserDark else .retakesExhausted)) := by
  subst ht
  refine ⟨takeFrameCourse_of_end, fun hstop habort => ?_⟩
  by_cases hafter : c.haltAfter = .none
  · have hexhausts : c.lastSpoil.exhausts = true := exhausts_iff.mpr (by simpa [hstop, habort, hafter] using hends)
    rw [frameCourse_of_no_haltAfter hstop habort hafter, hexhausts, hafter]
    rfl
  · rw [takeFrameCourse_of_haltAfter hstop habort hafter]
    cases h : c.haltAfter with
    | none => exact absurd h hafter
    | polygonLost => rfl
    | laserDark => rfl

/-- Settles O58. -/
theorem spoiledCyclePasses : Obligations.SpoiledCyclePasses := by
  intro s c y hdwell hy hframe hkind hctx hrun hperf hdark
  have hfilm := counted_film_passed hperf hy
  have hdwellEnd := dwellEnd_spoiled hperf hy hframe hkind hctx hdark
  obtain ⟨hraised, hwritten, hdropped⟩ := ownSpoiled_records (u := s.counted) (c := c) (by simpa using hctx) true
  rw [← hdwellEnd] at hraised hwritten hdropped
  simp only [State.counted_frame, State.counted_rb, State.counted_bus] at hwritten hdropped
  generalize hv : s.counted.spoilTold c = v at *
  have hvfilm : v.film = s.counted.film := by rw [← hv, State.spoilTold_film]
  have hvmagazine : v.film.magazine = s.film.magazine - 1 := by rw [hvfilm, hfilm]
  have hvrun : v.run = s.run := by rw [← hv]; simp
  have hvtables : v.tables = s.tables := by rw [← hv]; simp
  have hvpower : v.power = s.power := by rw [← hv]; simp
  have hvcount : v.deck.finishedCount = s.deck.finishedCount := by rw [← hv]; simp
  have hvctx : v.frame.ctx = some c := by rw [← hv]; simpa using hctx
  have hthen : s.dwellEnd = v.afterSpoiled c true := by rw [hdwellEnd, ← hv]; rfl
  refine ⟨s.dwellEnd, exec_dwellEnd hdwell, hraised, fun h => ⟨(hwritten h).1, (hwritten h).2.2⟩,
    fun h => (hdropped h).2, fun hretake hafter => ?halts, fun hretake hafter hempty => ?filmOut,
    fun hretake hafter hmagazine hsettled hstaged hcurve hdrive => ?retakes, fun d hretake htaken hindex hends => ?finishes⟩
  case halts =>
    rw [hthen, afterSpoiled_of_halt hretake hafter]
    obtain ⟨hr, hcause, hgate⟩ := halt_of_running (u := v) (by rw [hvrun, hrun]) c.haltAfter.cause
    refine ⟨hr, hcause, by rw [State.halt_frame, hvctx], by rw [State.halt_film, hvfilm, hfilm],
      by rw [State.halt_film, hvfilm, hfilm], hgate, by rw [halt_finishedCount, hvcount], ?_,
      by rw [State.halt_tables, hvtables]⟩
    rw [State.halt_seq, ← hv, State.spoilTold_seq, State.counted_seq]
  case filmOut =>
    rw [hthen, afterSpoiled_of_retake hretake hafter, enterPreparing_of_no_film (by rw [hvmagazine]; omega)]
    obtain ⟨hr, hcause, -⟩ := halt_of_running (u := v.setCtx c.toPreparing) (by rw [← hrun, ← hvrun]; rfl) .filmOut
    exact ⟨hr, hcause, by rw [← hvtables]; exact State.halt_tables _ _, congrArg FrameExposure.ctx (State.halt_frame _ _)⟩
  case retakes =>
    rw [hthen, afterSpoiled_of_retake hretake hafter]
    have hswapped : v.swapTables.tables = s.swapTables.tables := by
      rw [State.swapTables_tables, State.swapTables_tables, hvtables]
    obtain ⟨-, hprepares⟩ := attemptPrepared_enterPreparing v c
    obtain ⟨htables, hfilmAfter, -, -, hready⟩ := hprepares (by rw [hvmagazine]; omega)
    rw [hswapped] at htables
    obtain ⟨hr, -, -, -, -, hframeAfter, -⟩ := hready (by rw [htables]; exact hcurve) (by rw [htables]; exact hdrive)
      (by rw [hvpower, hsettled]) (by rw [hvtables]; exact hstaged)
    refine ⟨hr.trans hvrun, by rw [hfilmAfter, hvfilm, hfilm], htables, ?_⟩
    rw [hframeAfter, ← hv]
    simp
  case finishes =>
    have hsame := sameForFinish_recorded s.counted c
    have hfinishes := cardFinishes_frameFinished (c := c) (s := { s with bus := s.bus ++ spoilWrites s c })
      (w := (s.counted.recordSpoil c).raise .spoil)
      ⟨hsame.run.trans (by simp), hsame.rb.trans (by simp), hsame.seq.trans (by simp), hsame.deck.trans (by simp),
        hsame.address.trans (sameForFinish_counted s).address, hsame.bus.trans (by simp [spoilWrites])⟩
      htaken hindex .failed
    obtain ⟨hurun, hufilm, huframe, -⟩ := frameFinished_fields v c .failed
    rw [show ((s.counted.recordSpoil c).raise .spoil).refresh = v from hv] at hfinishes
    rw [hthen, afterSpoiled_of_finish hretake, finishFrame_eq]
    generalize hu : v.frameFinished c .failed = u at *
    rw [hvrun] at hurun
    refine ⟨u, ?_, by rw [huframe], by rw [hufilm, hvfilm, hfilm], ?_⟩
    · have hcounter : ((s.counted.recordSpoil c).raise .spoil).film.counter = s.film.counter + 1 := by
        simp only [State.raise_film, State.recordSpoil_film, hfilm]
      rw [hcounter] at hfinishes
      exact hfinishes
    · rw [← hurun] at hends ⊢
      exact frameCourse_failed_leads hends rfl

end Sys2Proof.Machine

/-! PROOF. The run closed (R27, R142, R168): what ENDING leaves of every block, and how STOP and ABORT come to it
outside RUNNING (O15). -/

namespace Sys2Proof.Machine

variable {s t u : State}

/-! ## What the parts of ENDING leave -/

theorem State.enterEnding_power (s : State) :
    s.enterEnding.power = { s.power with gateOpen := false, marked := markedAtClosing s } := by
  unfold State.enterEnding State.changeRunState
  rw [State.refresh_power, enterRunState_of_closing (r := .ending) rfl, markedAtGate_false]
  rfl

@[simp] theorem State.enterEnding_run (s : State) :
    s.enterEnding.run = { s.run with state := .ending, pausePending := false } := by
  simp [State.enterEnding, State.changeRunState]

@[simp] theorem State.enterEnding_taken (s : State) : s.enterEnding.deck.taken = s.deck.taken := by
  simp [State.enterEnding, State.changeRunState, DeckReader.stopSeek]

theorem State.enterEnding_seek (s : State) :
    s.enterEnding.deck.seek = .idle ∧ s.enterEnding.deck.headerRead = none ∧ s.enterEnding.deck.pollTimer = none := by
  simp [State.enterEnding, State.changeRunState, DeckReader.stopSeek]

theorem State.clearPending_power (s : State) :
    s.clearPending.power = { s.power with darkHaltPending := false } := by
  simp [State.clearPending, Power.clearDarkHalt]

@[simp] theorem State.clearPending_film (s : State) : s.clearPending.film = { s.film with leader := none } := by
  simp [State.clearPending]

@[simp] theorem State.clearPending_run (s : State) :
    s.clearPending.run = { s.run with
      stopPending := false, abortRecord := false, pausePending := false, powerLimitPending := false, lockWait := none } := by
  simp [State.clearPending]

/-- The return to IDLE with the gate already CLOSED leaves the Regulator as it was. -/
theorem State.toIdle_power (h : s.power.gateOpen = false) : s.toIdle.power = s.power := by
  have hidle : s.toIdle.power = (s.enterRunState .idle).power := by simp [State.toIdle]
  rw [hidle, enterRunState_of_closing (r := .idle) rfl, markedAtGate_false, markedAtClosing, if_neg (by simp [h])]
  show ({ s.power with gateOpen := false } : Power) = s.power
  rw [← h]

@[simp] theorem State.toIdle_run (s : State) : s.toIdle.run = { s.run with state := .idle } := by simp [State.toIdle]

theorem State.toIdle_deck (s : State) :
    s.toIdle.deck.taken = s.deck.taken ∧ s.toIdle.deck.seek = s.deck.seek ∧ s.toIdle.deck.headerRead = s.deck.headerRead ∧
    s.toIdle.deck.pollTimer = s.deck.pollTimer ∧ s.toIdle.deck.snapshotEnabled = false ∧
    s.toIdle.deck.finishedCount = s.deck.finishedCount := by
  simp [State.toIdle, State.refresh_eq]

theorem State.toIdle_seq (s : State) :
    s.toIdle.seq = { s.seq with current := .emptied, lookahead := .emptied } := by
  simp [State.toIdle, State.emptyRecords]

theorem State.toIdle_regs (s : State) : s.toIdle.regs = (s.raise .runEnd).regs := by
  simp [State.toIdle, State.raise]

/-- The Table Store with a load or a dump in progress abandoned (R71, R75). -/
theorem State.abandonLoad_tables (s : State) :
    s.abandonLoad.tables = { s.tables with
      load := none, dump := none
      staged := match s.tables.load with
        | none => s.tables.staged
        | some l => s.tables.staged.put l.target { state := .invalid, words := [] }
      reads := match s.tables.load with
        | none => s.tables.reads
        | some _ => s.tables.reads.map fun e => { e with live := false } } := by
  unfold State.abandonLoad TableStore.abandon
  cases hload : s.tables.load with
  | none => simp [hload]
  | some l => simp

theorem State.endCurrent_dp (s : State) : s.endCurrent.dp = s.closeCtx.dp := by
  unfold State.endCurrent
  split
  · simp [State.closeCtx_dp]
  · rfl

theorem State.endResults_dp (s : State) : s.endResults.dp = s.closeCtx.dp := by
  unfold State.endResults
  split
  · rfl
  · simp [State.endCurrent_dp]

/-! ## What the run closed leaves of each block -/

/-- The state in which the deck is to be returned: every card has its result, and the run is ENDING. -/
def State.ended (s : State) : State := s.enterEnding.abandonLoad.endSettle.endResults

theorem State.endRun_eq (s : State) : s.endRun = s.ended.returnDeck.flushParked.clearPending.toIdle := rfl

theorem State.ended_power (s : State) :
    s.ended.power = (settleEnded s.enterEnding).power := by
  have hpower : s.ended.power = (settleEnded s.enterEnding.abandonLoad).power := by
    rw [← State.endSettle_eq]; simp [State.ended]
  rw [hpower, settleEnded, settleEnded, State.abandonLoad_power]
  split
  · rfl
  · simp

theorem settleEnded_power_rest (u : State) :
    (settleEnded u).power.gateOpen = u.power.gateOpen ∧ (settleEnded u).power.pwr = u.power.pwr ∧
    (settleEnded u).power.marked = u.power.marked ∧ (settleEnded u).power.conversion = u.power.conversion := by
  unfold settleEnded
  split <;> exact ⟨rfl, rfl, rfl, rfl⟩

theorem State.endRun_power (s : State) :
    s.endRun.power = { (settleEnded s.enterEnding).power with darkHaltPending := false } := by
  have hclear : s.ended.returnDeck.flushParked.clearPending.power =
      { (settleEnded s.enterEnding).power with darkHaltPending := false } := by
    rw [State.clearPending_power, State.flushParked_eq]
    simp [State.ended_power]
  have hgate : (settleEnded s.enterEnding).power.gateOpen = false := by
    rw [(settleEnded_power_rest _).1, State.enterEnding_power]
  rw [State.endRun_eq, State.toIdle_power (by rw [hclear]; exact hgate), hclear]

theorem State.endRun_run (s : State) :
    s.endRun.run = { s.run with
      state := .idle, stopPending := false, abortRecord := false, pausePending := false, powerLimitPending := false
      lockWait := none } := by
  simp [State.endRun]

theorem State.endRun_film (s : State) : s.endRun.film = { s.film with leader := none } := by
  simp [State.endRun]

theorem State.endRun_tables (s : State) : s.endRun.tables = s.abandonLoad.tables := by
  simp [State.endRun, State.abandonLoad_tables]

theorem State.endRun_dp (s : State) : s.endRun.dp = s.closeCtx.dp := by
  rw [State.endRun, State.toIdle_dp, State.clearPending_dp]
  simp [State.endResults_dp, State.closeCtx_dp]

theorem State.endRun_ring (s : State) :
    s.endRun.ring.slots = [] ∧ s.endRun.ring.switchOn = true ∧ s.endRun.ring.cursor.state = .parked := by
  rw [State.endRun_eq, State.toIdle_ring, State.clearPending_ring, State.flushParked_eq]
  exact ⟨rfl, rfl, rfl⟩

theorem State.endRun_deck (s : State) :
    s.endRun.deck.taken = none ∧ s.endRun.deck.seek = .idle ∧ s.endRun.deck.headerRead = none ∧
    s.endRun.deck.pollTimer = none ∧ s.endRun.deck.snapshotEnabled = false := by
  obtain ⟨hseek, hheader, hpoll⟩ := State.enterEnding_seek s
  simp [State.endRun, State.toIdle_deck, hseek, hheader, hpoll]

theorem State.endRun_regs (s : State) :
    s.endRun.regs.causes.getLsbD 6 = true ∧ s.endRun.regs.enables = s.regs.enables ∧
    (s.deck.taken ≠ none → s.endRun.regs.causes.getLsbD 0 = true) := by
  have hregs : s.ended.returnDeck.flushParked.clearPending.regs = s.ended.returnDeck.regs := by simp
  rw [State.endRun_eq, State.toIdle_regs]
  refine ⟨?_, ?_, fun htaken => getLsbD_raise _ _ ?_⟩
  · rw [State.raise_causes, BitVec.getLsbD_or, Bool.or_eq_true]
    exact .inr (by decide)
  · show s.ended.returnDeck.flushParked.clearPending.regs.enables = _
    rw [hregs, State.returnDeck_enables]
    simp [State.ended]
  · rw [hregs]
    exact State.returnDeck_raises _ (by simpa [State.ended] using htaken)

theorem State.endRun_records (s : State) :
    s.endRun.seq.current = .emptied ∧ s.endRun.seq.lookahead = .emptied ∧ s.endRun.frame.ctx = none := by
  rw [State.endRun_eq, State.toIdle_seq]
  exact ⟨rfl, rfl, by simp [State.ended]⟩

/-! ## STOP and ABORT outside RUNNING (R166, R167) -/

/-- Settles O15. -/
theorem stopAndAbortEndTheRun : Obligations.StopAndAbortEndTheRun := by
  refine ⟨?commands, ?leaves⟩
  case commands =>
    rintro s c (⟨rfl, hrun⟩ | ⟨rfl, hrun⟩) u rfl
    · have hpriming : s.run.state ≠ .priming := by rcases hrun with h | h | h <;> simp [h]
      rw [if_neg hpriming, exec_stop (.inr hrun)]
      rcases hrun with h | h | h <;> simp only [State.acceptStop, State.answer_run, h] <;> rfl
    · have hidle : s.run.state ≠ .idle := by rcases hrun with h | h | h | h <;> simp [h]
      rw [exec_abort hidle, ← State.endSettle_eq]
      rcases hrun with h | h | h | h <;> simp only [State.acceptAbort, State.answer_run, h] <;> rfl
  case leaves =>
    rintro s t rfl
    obtain ⟨hrunEnd, henables, hreturned⟩ := State.endRun_regs s
    obtain ⟨htaken, hseek, hheader, hpoll, hsnapshot⟩ := State.endRun_deck s
    obtain ⟨hcurrent, hlookahead, hctx⟩ := State.endRun_records s
    obtain ⟨hslots, hswitch, hcursor⟩ := State.endRun_ring s
    obtain ⟨hgate, hpwr, hmarked, hconversion⟩ := settleEnded_power_rest s.enterEnding
    rw [State.enterEnding_power] at hgate hpwr hmarked hconversion
    refine ⟨State.endRun_run s, ?_, ?_, ?_, ?_, ?_, ?_, ?_, hrunEnd, henables, hreturned, htaken, hseek, hheader, hpoll,
      hsnapshot, hcurrent, hlookahead, hctx, hslots, hswitch, hcursor,
      (State.endRun_tables s).trans (State.abandonLoad_tables s), State.endRun_scan s, fun hnone => ?_, fun hsome => ?_,
      State.endRun_film s, State.endRun_rb s⟩
    · rw [State.endRun_power]; exact hgate
    · rw [State.endRun_power]
    · rw [State.endRun_power]; exact hpwr
    · rw [State.endRun_power, settleEnded, State.enterEnding_power]
      split <;> simp_all [State.enterEnding_power]
    · intro hsettling
      rw [State.endRun_power, settleEnded, if_pos (by rw [State.enterEnding_power]; exact hsettling)]
      exact ⟨rfl, rfl⟩
    · rw [State.endRun_power]; exact hmarked
    · rw [State.endRun_power]; exact hconversion
    · rw [State.endRun_dp, State.closeCtx_dp, hnone]
    · obtain ⟨c, hc⟩ := Option.ne_none_iff_exists'.mp hsome
      rw [State.endRun_dp, State.closeCtx_dp, hc]

end Sys2Proof.Machine

/-! PROOF. The dwell end of a LEADER card's cycle (R120, R121, R125, R126): O59. -/

namespace Sys2Proof.Machine

variable {s t u : State} {l : LeaderCard} {y : Cycle}

/-- The LEADER card with one cycle more. -/
def LeaderCard.counted (l : LeaderCard) : LeaderCard := { l with completed := l.completed + 1 }

/-- The leader's cycle counted at its dwell end, before the refresh of the event (R125). -/
def State.leaderCounted (s : State) (l : LeaderCard) : State := s.setFilm { s.film with leader := some l.counted }

theorem handCycle_leader {passed : Bool} (hframe : y.forFrame = false) (hleader : u.film.leader = some l) :
    u.handCycle (some y) passed = (u.leaderCounted l).refresh.afterLeader l.counted passed := by
  unfold State.handCycle
  simp only [hframe, hleader]
  rfl

theorem afterLeader_failed : u.afterLeader l false = u.halt .registration := by simp [State.afterLeader]

theorem afterLeader_finishes (h : l.count ≤ l.completed) : u.afterLeader l true = u.finishLeader l := by
  simp [State.afterLeader, h]

theorem afterLeader_goesOn (h : l.completed < l.count) :
    u.afterLeader l true = if u.run.stopPending then u.endRun else u.leaderCycle := by
  simp [State.afterLeader, Nat.not_le.mpr h]

theorem SameForFinish.leaderCounted {w : State} (h : SameForFinish s w) : SameForFinish s (w.leaderCounted l) :=
  ⟨h.run, h.rb, h.seq, h.deck, h.address, h.bus⟩

theorem SameForFinish.refl (s : State) : SameForFinish s s := ⟨rfl, rfl, rfl, rfl, rfl, rfl⟩

/-- A LEADER card finishes DONE at a dwell end told in w, and how the run goes on (R125). -/
theorem finishLeader_finishes {w : State} {d : Deck} (hsame : SameForFinish s w) (htaken : s.deck.taken = some d)
    (hindex : s.deck.finishedCount ≤ s.seq.current.index) :
    ∃ u, cardFinishes s u d { outcome := .done, reason := .none, field := 0, kind := .leader l.completed }
        w.film.counter true ∧ finishLeads u (w.refresh.finishLeader l) ∧
      u.film = { w.film with leader := none } ∧ u.frame = w.frame ∧ u.power = w.power ∧ u.scan = w.scan ∧
      u.tables = w.tables ∧ u.ring = w.ring :=
  ⟨_, cardFinishes_dwell hsame htaken hindex (by simp) (by simp) (by simp) (by simp) (by simp),
    takeCourse_leads fun _ _ _ _ => rfl, by simp, by simp, by simp, by simp, by simp, by simp⟩

theorem counted_leader (s : State) : s.counted.film.leader = s.film.leader := by
  rw [State.counted_film]
  cases perfPasses s <;> unfold Film.checked Film.countPosition Film.countKind <;> dsimp only <;> (repeat' split) <;> rfl

/-- A next cycle of a LEADER card that may begin (R125). -/
theorem leaderCycle_not_ready (hleader : u.film.leader = some l) (h : leaderReady u l = false) : u.leaderCycle = u := by
  simp [State.leaderCycle, hleader, h]
/-- A leader cycle's passed dwell end, up to the card's next step. -/
theorem dwellEnd_leader_passed (hperf : s.film.perfCount = s.rb.film.perfs) (hy : s.film.cycle = some y)
    (hframe : y.forFrame = false) (hleader : s.film.leader = some l) :
    s.dwellEnd = (s.counted.reportStill.leaderCounted l).refresh.afterLeader l.counted true := by
  rw [dwellEnd_passed hperf hy, handCycle_leader hframe (by rw [State.reportStill_film, counted_leader, hleader])]

/-- Dark halt pending: the return to STILL halts the run (R106, R120 step 5). -/
theorem reportStill_of_pending (h : u.power.darkHaltPending = true) : u.reportStill = u.halt .laserDark := by
  rw [State.reportStill, h]
  rfl

theorem reportStill_stopPending (hrun : u.run.state = .running) : u.reportStill.run.stopPending = u.run.stopPending := by
  unfold State.reportStill
  split
  · obtain ⟨hr, -⟩ := State.halt_taken u .laserDark (by rw [hrun]; rfl)
    rw [hr]
    rfl
  · rfl

@[simp] theorem reportStill_finishedCount (u : State) :
    u.reportStill.deck.finishedCount = u.deck.finishedCount := by
  unfold State.reportStill
  split
  · simp
  · rfl

/-- A leader cycle passed below the count, with a STOP pending or not. -/
theorem dwellEnd_leader_goesOn (hperf : s.film.perfCount = s.rb.film.perfs) (hy : s.film.cycle = some y)
    (hframe : y.forFrame = false) (hleader : s.film.leader = some l) (hrun : s.run.state = .running)
    (hmore : l.completed + 1 < l.count) {v : State} (hv : v = (s.counted.reportStill.leaderCounted l).refresh) :
    s.dwellEnd = if s.run.stopPending then v.endRun else v.leaderCycle := by
  rw [dwellEnd_leader_passed hperf hy hframe hleader, afterLeader_goesOn hmore, ← hv]
  have hstop : v.run.stopPending = s.run.stopPending := by
    rw [hv, State.refresh_run]
    show s.counted.reportStill.run.stopPending = _
    rw [reportStill_stopPending (by simpa using hrun), State.counted_run]
  rw [hstop]

/-- The next cycle of a leader card, dark halt pending or not (R125). -/
theorem leaderCycle_follows (hperf : s.film.perfCount = s.rb.film.perfs) (hy : s.film.cycle = some y)
    (hrun : s.run.state = .running) (hmore : l.completed + 1 < l.count) (hstop : s.run.stopPending = false)
    {v : State} (hv : v = (s.counted.reportStill.leaderCounted l).refresh) :
    v.leaderCycle.film.leader = some l.counted ∧ v.leaderCycle.seq = s.seq ∧
    v.leaderCycle.deck.finishedCount = s.deck.finishedCount ∧ v.leaderCycle.frame = s.frame ∧
    (s.power.darkHaltPending = true → v.leaderCycle.run.state = .halted ∧ v.leaderCycle.run.haltCause = .laserDark ∧
      v.leaderCycle.power.dark = .all 0 ∧ v.leaderCycle.power.darkHaltPending = false ∧
      v.leaderCycle.film.state = .still ∧ v.leaderCycle.film.cycle = none) ∧
    (s.power.darkHaltPending = false → s.film.magazine ≤ 1 →
      v.leaderCycle.run.state = .halted ∧ v.leaderCycle.run.haltCause = .filmOut ∧ v.leaderCycle.film.state = .still) ∧
    (s.power.darkHaltPending = false → 1 < s.film.magazine →
      v.leaderCycle.run = s.run ∧ v.leaderCycle.film.state = .catchup ∧
      v.leaderCycle.film.owed = s.film.owed + s.rb.film.ms ∧ v.leaderCycle.film.scanRequested = s.rb.film.ms ∧
      v.leaderCycle.film.scanIssued = 0 ∧ v.leaderCycle.film.pullIssued = 0 ∧ v.leaderCycle.film.perfCount = 0 ∧
      v.leaderCycle.film.cycle = some
        { forFrame := false, kind := .leader, position := s.film.counter + 1
          edgeOn := s.rb.film.edgeEnable == 1 && !l.noEdge }) := by
  have hcounted := counted_film_passed hperf hy
  have hfilm : v.film = { s.counted.film with leader := some l.counted } := by
    rw [hv]; simp [State.leaderCounted]
  have hleader : v.film.leader = some l.counted := by rw [hfilm]
  have hseq : v.seq = s.seq := by rw [hv]; simp [State.leaderCounted]
  have hframe : v.frame = s.frame := by rw [hv]; simp [State.leaderCounted]
  have hcount : v.deck.finishedCount = s.deck.finishedCount := by
    rw [hv]; simp [State.leaderCounted, State.refresh_eq]
  have hrb : v.rb = s.rb := by rw [hv]; simp [State.leaderCounted]
  cases hdark : s.power.darkHaltPending with
  | true =>
    obtain ⟨hr, -, -, -, hzero, hpending, -⟩ :=
      State.halt_taken s.counted .laserDark (by rw [State.counted_run, hrun]; rfl)
    rw [← reportStill_of_pending (by simpa using hdark)] at hr hzero hpending
    have hvrun : v.run = s.counted.reportStill.run := by rw [hv]; simp [State.leaderCounted]
    have hvpower : v.power = s.counted.reportStill.power := by rw [hv]; simp [State.leaderCounted]
    rw [leaderCycle_not_ready hleader (by simp [leaderReady, hvrun, hr])]
    refine ⟨hleader, hseq, hcount, hframe, fun _ => ⟨?_, ?_, ?_, ?_, ?_, ?_⟩, nofun, nofun⟩
    · rw [hvrun, hr]
    · rw [hvrun, hr]; rfl
    · rw [hvpower, hzero]; rfl
    · rw [hvpower, hpending]
    · rw [hfilm, hcounted]
    · rw [hfilm, hcounted]
  | false =>
    rw [reportStill_of_not_pending (by simpa using hdark)] at hv
    have hvrun : v.run = s.run := by rw [hv]; simp [State.leaderCounted]
    have hready : leaderReady v l.counted = true :=
      leaderReady_of (by rw [hfilm, hcounted]) hmore (by rw [hvrun, hrun]) (by rw [hvrun, hstop])
        (by rw [hv]; simpa [State.leaderCounted] using hdark)
    obtain ⟨hempty, hbegins⟩ := leaderCycle_of_ready hleader hready
    have hmagazine : v.film.magazine = s.film.magazine - 1 := by rw [hfilm, hcounted]
    refine ⟨?_, by simp [hseq], ?_, by simp [hframe], nofun, fun _ hfew => ?_, fun _ hmany => ?_⟩
    · rcases Nat.eq_zero_or_pos v.film.magazine with h | h
      · rw [hempty h, State.halt_film, hleader]
      · rw [hbegins h]; exact hleader
    · rcases Nat.eq_zero_or_pos v.film.magazine with h | h
      · rw [hempty h, halt_finishedCount, hcount]
      · rw [hbegins h]; exact hcount
    · rw [hempty (by omega)]
      obtain ⟨hr, hcause, -⟩ := halt_of_running (u := v) (by rw [hvrun, hrun]) .filmOut
      exact ⟨hr, hcause, by rw [State.halt_film, hfilm, hcounted]⟩
    · rw [hbegins (by omega)]
      obtain ⟨timer, hbegun⟩ := beginLeader_eq v.film v.rb l.counted.noEdge
      rw [State.setFilm_film, hbegun, hrb, hfilm, hcounted]
      exact ⟨hvrun, rfl, rfl, rfl, rfl, rfl, rfl, rfl⟩

/-- Settles O59. -/
theorem leaderCycleEnds : Obligations.LeaderCycleEnds := by
  intro s l y hdwell hy hframe hleader hrun
  refine ⟨s.dwellEnd, exec_dwellEnd hdwell, fun hperf => ?failed, fun hperf hmore => ⟨fun hstop => ?stops, fun hstop => ?next⟩,
    fun d hperf hlast htaken hindex result hresult => ⟨fun hdark => ?done, fun hdark => ?darkDone⟩⟩
  case failed =>
    rw [dwellEnd_failed hperf hy, handCycle_leader hframe (by rw [counted_leader, hleader]), afterLeader_failed]
    obtain ⟨hr, hcause, -⟩ := halt_of_running (u := (s.counted.leaderCounted l).refresh) (cause := .registration)
      (by simpa [State.leaderCounted] using hrun)
    refine ⟨hr, hcause, ?_, ?_, ?_, ?_⟩
    · rw [State.halt_film, State.refresh_film]
      exact counted_film_failed hperf
    · rw [State.halt_film, State.refresh_film]
      rfl
    · simp [State.leaderCounted, State.refresh_eq]
    · simp [State.leaderCounted]
  case stops =>
    rw [dwellEnd_leader_goesOn hperf hy hframe hleader hrun hmore rfl, if_pos hstop]
    refine ⟨by rw [State.endRun_run], (State.endRun_deck _).1, ?_⟩
    rw [State.endRun_film, State.refresh_film]
    show s.counted.reportStill.film.state = .still
    rw [State.reportStill_film, counted_film_passed hperf hy]
  case next =>
    rw [dwellEnd_leader_goesOn hperf hy hframe hleader hrun hmore rfl, if_neg (by simp [hstop])]
    exact leaderCycle_follows hperf hy hrun hmore hstop rfl
  case done =>
    obtain rfl := hresult
    have hcounted := counted_film_passed hperf hy
    obtain ⟨u, hfinishes, hleads, hfilm, huframe, hupower, huscan, hutables, huring⟩ :=
      finishLeader_finishes (l := l.counted) (sameForFinish_counted s).leaderCounted htaken hindex
    rw [dwellEnd_leader_passed hperf hy hframe hleader, afterLeader_finishes hlast,
      reportStill_of_not_pending (by simpa using hdark)]
    have hcounter : (s.counted.leaderCounted l).film.counter = s.film.counter + 1 := by
      show s.counted.film.counter = _
      rw [hcounted]
    rw [hcounter] at hfinishes
    have hwfilm : u.film = { s.counted.film with leader := none } := hfilm
    rw [hcounted] at hwfilm
    refine ⟨u, hfinishes, hleads, ?_, fun hkind => ?_, ?_, ?_, ?_, ?_, ?_⟩
    · rw [hwfilm]
    · rw [hwfilm, hkind]; exact ⟨rfl, rfl, rfl⟩
    · rw [huframe]; simp [State.leaderCounted]
    · rw [hupower]; simp [State.leaderCounted]
    · rw [huscan]; simp [State.leaderCounted]
    · rw [hutables]; simp [State.leaderCounted]
    · rw [huring]; simp [State.leaderCounted]
  case darkDone =>
    obtain rfl := hresult
    have hcounted := counted_film_passed hperf hy
    have hhalted : s.counted.reportStill = s.counted.halt .laserDark := reportStill_of_pending (by simpa using hdark)
    have htakenHalted : (s.counted.halt .laserDark).deck.taken = some d := by
      obtain ⟨-, -, -, -, -, -, -, htakenKept⟩ :=
        State.halt_taken s.counted .laserDark (by rw [State.counted_run, hrun]; rfl)
      rw [htakenKept, State.counted_deck, htaken]
    obtain ⟨u, hfinishes, hleads, hfilm, huframe, hupower, -⟩ :=
      finishLeader_finishes (l := l.counted) (SameForFinish.refl (s.counted.halt .laserDark)).leaderCounted htakenHalted
        (by simpa using hindex)
    rw [dwellEnd_leader_passed hperf hy hframe hleader, afterLeader_finishes hlast, hhalted]
    have hwfilm : u.film = { s.counted.film with leader := none } :=
      hfilm.trans (by simp [State.leaderCounted])
    have hcounter : ((s.counted.halt .laserDark).leaderCounted l).film.counter = s.film.counter + 1 := by
      show (s.counted.halt .laserDark).film.counter = _
      rw [State.halt_film, hcounted]
    rw [hcounter] at hfinishes
    refine ⟨s.counted.film, s.counted.regs, s.counted.halt .laserDark, u, ?_, ?_, hfinishes, hleads, hwfilm, ?_, ?_⟩
    · rw [hcounted]
    · exact congrArg (State.halt · .laserDark) (by rw [State.counted_film]; exact State.counted_eq s)
    · rw [hupower]; rfl
    · rw [huframe]; simp [State.leaderCounted]

end Sys2Proof.Machine

/-! PROOF. Numbers in bytes (R172), and the end of a header read (R147 to R150): O48. -/

namespace Sys2Proof.Machine

variable {s t u : State}

/-! ## Numbers in bytes (R172) -/

@[simp] theorem numberAt_zero (bs : List Byte) (off : Nat) : numberAt bs off 0 = 0 := rfl

/-- A number is its lowest byte and 256 times the number above it. -/
theorem numberAt_succ (bs : List Byte) (off w : Nat) :
    numberAt bs off (w + 1) = (bs.getD off 0).toNat + 256 * numberAt bs (off + 1) w := by
  unfold numberAt
  rw [List.range_succ_eq_map, List.map_cons, List.sum_cons, List.map_map, ← List.sum_map_mul_left]
  congr 1
  · simp
  · refine congrArg List.sum (List.map_congr_left fun k _ => ?_)
    simp only [Function.comp, Nat.succ_eq_add_one, show off + (k + 1) = off + 1 + k by omega, Nat.pow_succ]
    ring

/-- A field's value is the number that its bytes hold. -/
theorem fieldAt_eq (bs : List Byte) (off w : Nat) : fieldAt bs off w = numberAt bs off w := by
  unfold fieldAt
  induction w generalizing off with
  | zero => simp [leNat]
  | succ w ih =>
    rw [numberAt_succ, ← ih (off + 1)]
    by_cases h : off < bs.length
    · rw [List.drop_eq_getElem_cons h, List.take_succ_cons, leNat, List.getD_eq_getElem _ _ h]
    · rw [List.drop_eq_nil_of_le (by omega), List.drop_eq_nil_of_le (by omega), List.getD_eq_default _ _ (by omega)]
      simp [leNat]

/-! ## The end of a header read (R148 to R150) -/

theorem parseHeader_eq (bs : List Byte) : parseHeader bs =
    { state := numberAt bs 0 4, serial := numberAt bs 4 2, count := numberAt bs 6 1 } := by
  simp only [parseHeader, fieldAt_eq]

theorem exec_pollTimerExpiry (h : s.deck.pollTimer ≠ none) : exec .pollTimerExpiry s = .next (seekBegun s) := by
  obtain ⟨n, hn⟩ := Option.ne_none_iff_exists'.mp h
  show execPollTimerExpiry s = _
  simp only [execPollTimerExpiry, hn]
  rw [State.seekDeck_eq]

theorem exec_headerReadEnd {p : PendingRead} (hread : s.deck.headerRead = some p) (r : ReadEnd) :
    exec (.headerReadEnd p.id r) s = .next
      (if s.run.state.seeks then s.actOnHeader (endData r 64)
       else s.setDeck { s.deck with seek := .idle, headerRead := none }) := by
  show execHeaderReadEnd p.id r s = _
  simp only [execHeaderReadEnd, hread, if_true]
  split <;> rfl

theorem seeks_iff {r : RunState} : r.seeks = true ↔ r = .priming ∨ r = .running ∨ r = .waiting := by
  cases r <;> decide

/-- The seek over, whose header read has ended (R148). -/
def State.seekOver (s : State) : State := s.setDeck { s.deck with seek := .idle, headerRead := none }

/-- What an end of a header read leaves as it was. -/
structure HeaderKeeps (s t : State) : Prop where
  frame : t.frame = s.frame
  film : t.film = s.film
  scan : t.scan = s.scan
  tables : t.tables = s.tables
  ring : t.ring = s.ring

theorem headerKeeps_halt (s : State) (c : HaltCause) : HeaderKeeps s (s.seekOver.halt c) :=
  ⟨by simp [State.seekOver], by simp [State.seekOver], by simp [State.seekOver], by simp [State.seekOver],
    by simp [State.seekOver]⟩

/-- A halt at a header read's end: the seek is idle, and the deck taken stands. -/
theorem seekOver_halt (hrun : s.run.state.seeks = true) (c : HaltCause) :
    (s.seekOver.halt c).run.state = .halted ∧ (s.seekOver.halt c).run.haltCause = c ∧
    (s.seekOver.halt c).deck.seek = .idle ∧ (s.seekOver.halt c).deck.taken = s.deck.taken := by
  have htakes : s.seekOver.run.state.takesHalt = true := by
    rcases seeks_iff.mp hrun with h | h | h <;> simp [State.seekOver, h, RunState.takesHalt]
  obtain ⟨hr, -, -, -, -, -, -, htaken⟩ := State.halt_taken s.seekOver c htakes
  refine ⟨by rw [hr], by rw [hr]; rfl, ?_, htaken⟩
  simp only [State.halt, htakes, if_true, State.refresh_seek, State.raise_deck, State.enterRunState_deck,
    State.setPower_deck, State.setRun_deck, State.stopSeekOfWaiting]
  split <;> rfl

/-- The deck not LOADED is waited for under the poll timer (R148, R150). -/
theorem waitForDeck_waits (s : State) :
    s.seekOver.waitForDeck.run.state = .waiting ∧ s.seekOver.waitForDeck.deck.seek = .pollWait ∧
    s.seekOver.waitForDeck.deck.pollTimer = some (s.rb.pollInterval * 100000) ∧
    HeaderKeeps s s.seekOver.waitForDeck := by
  unfold State.waitForDeck
  dsimp only
  split
  next hwaiting => exact ⟨hwaiting, rfl, rfl, ⟨rfl, rfl, rfl, rfl, rfl⟩⟩
  next =>
    refine ⟨by simp [State.changeRunState], by simp [State.changeRunState, State.seekOver], ?_, ⟨?_, ?_, ?_, ?_, ?_⟩⟩
    · simp [State.changeRunState, State.seekOver]; rfl
    all_goals simp [State.changeRunState, State.seekOver]
/-- The deck awaited is taken: 0 and IN_USE written into its header, and the Sequencer reset (R144, R148). -/
def State.deckTaken (s : State) (h : DeckHeader) : State :=
  (((s.busWrite (addrPlus (deckAddr s s.deck.next) 0x08) [0]).busWrite (deckAddr s s.deck.next) (toLE 4 headerInUse)).setDeck
    { s.deck with
      taken := some s.deck.next, next := s.deck.next.other, expectedSerial := (h.serial + 1) % 65536, serial := h.serial
      cardCount := h.count, finishedCount := 0, seek := .idle, headerRead := none, pollTimer := none }).setSeq .reset

/-- The run RUNNING with the deck taken, before its first advance (R148, R161). -/
def State.deckEntered (s : State) (h : DeckHeader) : State :=
  match s.run.state with
  | .running => s.deckTaken h
  | .priming => ((s.deckTaken h).setRun { (s.deckTaken h).run with stage := 8 }).changeRunState .running
  | _ => (s.deckTaken h).changeRunState .running

theorem takeDeck_eq (s : State) (h : DeckHeader) : s.takeDeck h = (s.deckEntered h).advance := rfl

theorem deckTaken_bus (s : State) (h : DeckHeader) :
    (s.deckTaken h).bus = s.bus ++ [.write (nextDeckAddress s + 8) [0], .write (nextDeckAddress s) [2, 0, 0, 0]] := by
  rw [← deckAddr_next]
  simp only [State.deckTaken, State.setSeq_bus, State.setDeck_bus, State.busWrite, State.setBus, List.append_assoc]
  rfl

/-- The state in which the deck's first card is looked for. -/
theorem deckEntered_fields (s : State) (h : DeckHeader) :
    (s.deckEntered h).run.state = .running ∧ (s.deckEntered h).seq = .reset ∧
    (s.deckEntered h).deck.taken = some s.deck.next ∧ (s.deckEntered h).deck.next = s.deck.next.other ∧
    (s.deckEntered h).deck.expectedSerial = (h.serial + 1) % 65536 ∧ (s.deckEntered h).deck.cardCount = h.count ∧
    (s.deckEntered h).deck.finishedCount = 0 ∧ HeaderKeeps s (s.deckEntered h) ∧
    ∃ ops, (s.deckEntered h).bus =
      s.bus ++ [.write (nextDeckAddress s + 8) [0], .write (nextDeckAddress s) [2, 0, 0, 0]] ++ ops := by
  have hentered (u : State) (hseq : u.seq = (s.deckTaken h).seq) (hdeck : u.deck = (s.deckTaken h).deck)
      (hbus : u.bus = (s.deckTaken h).bus) (hkeeps : HeaderKeeps s u) :
      (u.changeRunState .running).run.state = .running ∧ (u.changeRunState .running).seq = .reset ∧
      (u.changeRunState .running).deck.taken = some s.deck.next ∧
      (u.changeRunState .running).deck.next = s.deck.next.other ∧
      (u.changeRunState .running).deck.expectedSerial = (h.serial + 1) % 65536 ∧
      (u.changeRunState .running).deck.cardCount = h.count ∧ (u.changeRunState .running).deck.finishedCount = 0 ∧
      HeaderKeeps s (u.changeRunState .running) ∧
      ∃ ops, (u.changeRunState .running).bus =
        s.bus ++ [.write (nextDeckAddress s + 8) [0], .write (nextDeckAddress s) [2, 0, 0, 0]] ++ ops := by
    obtain ⟨hframe, hfilm, hscan, htables, hring⟩ := hkeeps
    have hdeckAfter : (u.changeRunState .running).deck =
        { (s.deckTaken h).deck with generation := (u.changeRunState .running).deck.generation } := by
      simp [State.changeRunState, State.refresh_eq, hdeck]
    rw [hdeckAfter]
    refine ⟨by simp [State.changeRunState], by simp [State.changeRunState, hseq]; rfl, rfl, rfl, rfl, rfl, rfl,
      ⟨by simp [State.changeRunState, hframe], by simp [State.changeRunState, hfilm],
        by simp [State.changeRunState, hscan], by simp [State.changeRunState, htables],
        by simp [State.changeRunState, hring]⟩, ?_⟩
    rw [State.changeRunState, State.refresh_bus, State.enterRunState_bus, hbus, deckTaken_bus]
    exact ⟨_, rfl⟩
  unfold State.deckEntered
  split
  next hrun =>
    exact ⟨hrun, rfl, rfl, rfl, rfl, rfl, rfl, ⟨rfl, rfl, rfl, rfl, rfl⟩, [], by rw [deckTaken_bus, List.append_nil]⟩
  next => exact hentered _ rfl rfl rfl ⟨rfl, rfl, rfl, rfl, rfl⟩
  next => exact hentered _ rfl rfl rfl ⟨rfl, rfl, rfl, rfl, rfl⟩

/-- The deck's first card is read when the deck is taken (R148, R153). -/
theorem takeDeck_begins (s : State) (h : DeckHeader) (hcount : 1 ≤ h.count) :
    (s.takeDeck h).run.state = .running ∧ (s.takeDeck h).deck = (s.deckEntered h).deck ∧
    (s.takeDeck h).seq.current.state = .reading ∧ (s.takeDeck h).seq.current.index = 0 ∧
    (s.takeDeck h).seq.nextIndex = 0 ∧ HeaderKeeps s (s.takeDeck h) ∧
    ∃ ops, (s.takeDeck h).bus =
      s.bus ++ [.write (nextDeckAddress s + 8) [0], .write (nextDeckAddress s) [2, 0, 0, 0]] ++ ops := by
  obtain ⟨hrun, hseq, htaken, -, -, hcards, -, hkeeps, ops, hops⟩ := deckEntered_fields s h
  have hadvance := advance_of_no_lookahead hrun htaken (by rw [hseq, hcards]; exact (Nat.ne_of_gt hcount).symm)
    (.inl (by rw [hseq]; rfl)) (by rw [hseq]; rfl)
  rw [takeDeck_eq, hadvance]
  obtain ⟨hframe, hfilm, hscan, htables, hring⟩ := hkeeps
  refine ⟨hrun, rfl, rfl, ?_, ?_, ⟨hframe, hfilm, hscan, htables, hring⟩, ?_⟩
  · show (s.deckEntered h).seq.nextIndex = 0
    rw [hseq]; rfl
  · show (s.deckEntered h).seq.nextIndex = 0
    rw [hseq]; rfl
  · show ∃ post, (s.deckEntered h).bus ++ _ = _
    rw [hops, List.append_assoc _ ops]
    exact ⟨_, rfl⟩

/-- Settles O48. -/
theorem headerReadsEnd : Obligations.HeaderReadsEnd := by
  refine ⟨parseHeader_eq, fun s => ⟨exec_pollTimerExpiry, fun p r hread =>
    ⟨fun hpriming hrunning hwaiting => ?_, fun hrun => ?_⟩⟩⟩
  · rw [exec_headerReadEnd hread, if_neg (by rw [seeks_iff]; simp [hpriming, hrunning, hwaiting])]
    rfl
  · have hseeks := seeks_iff.mpr hrun
    rw [exec_headerReadEnd hread, if_pos hseeks]
    refine ⟨_, rfl, fun hfails => ?fails, fun data hgood hlength => ?good, ?keeps⟩
    case fails =>
      have hdata : endData r 64 = none := by rcases hfails with rfl | rfl <;> rfl
      rw [hdata]
      exact seekOver_halt hseeks .deckRead
    case good =>
      have hdata : endData r 64 = some data := by rw [hgood]; simp [endData, answerOf, hlength]
      rw [hdata]
      refine ⟨fun hstate => ?_, fun hstate hwrong => ?_, fun hstate hserial hcount => ?_⟩
      · obtain ⟨hr, hseek, hpoll, -⟩ := waitForDeck_waits s
        simp only [State.actOnHeader, if_neg (show ¬(parseHeader data).state = headerLoaded from hstate)]
        exact ⟨hr, hseek, hpoll⟩
      · simp only [State.actOnHeader, if_pos (show (parseHeader data).state = headerLoaded from hstate)]
        rw [if_neg (by rcases hwrong with h | h <;> simp [h])]
        obtain ⟨hr, hcause, hseek, -⟩ := seekOver_halt hseeks .deckSequence
        exact ⟨hr, hcause, hseek⟩
      · simp only [State.actOnHeader, if_pos (show (parseHeader data).state = headerLoaded from hstate)]
        rw [if_pos (by simp [hserial, hcount])]
        obtain ⟨hr, hdeck, hreading, hindex, hnextIndex, -, hbus⟩ := takeDeck_begins s.seekOver (parseHeader data) hcount
        obtain ⟨-, -, htaken, hnext, hexpected, hcards, hfinished, -⟩ := deckEntered_fields s.seekOver (parseHeader data)
        rw [← hdeck] at htaken hnext hexpected hcards hfinished
        have hother : s.deck.next.other ≠ s.deck.next := by cases s.deck.next <;> decide
        exact ⟨hr, htaken, fun h => hother (hnext.symm.trans h), by rw [← hserial]; exact hexpected, hcards, hfinished,
          hreading, hindex, hnextIndex, hbus⟩
    case keeps =>
      suffices HeaderKeeps s (s.actOnHeader (endData r 64)) from
        ⟨this.frame, this.film, this.scan, this.tables, this.ring⟩
      unfold State.actOnHeader
      dsimp only
      split
      · exact headerKeeps_halt s _
      · split
        · split
          next hok =>
            have hcount : 1 ≤ (parseHeader _).count := of_decide_eq_true (Bool.and_eq_true _ _ ▸ hok).2
            obtain ⟨-, -, -, -, -, hkeeps, -⟩ := takeDeck_begins s.seekOver _ hcount
            exact ⟨hkeeps.frame, hkeeps.film, hkeeps.scan, hkeeps.tables, hkeeps.ring⟩
          · exact headerKeeps_halt s _
        · exact (waitForDeck_waits s).2.2.2

end Sys2Proof.Machine

/-! PROOF. Fields and the checks made on them in order: START's run block (O46) and the cards (O47). -/

namespace Sys2Proof.Machine

/-! ## The first check that fails -/

/-- Checks as the model makes them, each holding just when the check that the statement writes out does. -/
abbrev ChecksAgree {α : Type} (l : List (α × Bool)) (checks : List Prop) : Prop :=
  List.Forall₂ (fun c p => c.2 = true ↔ p) l checks

theorem firstToFail_zero {p : Prop} {checks : List Prop} : firstToFail (p :: checks) 0 ↔ ¬p := by
  constructor
  · rintro ⟨-, q, hq, hfails⟩
    obtain rfl := Option.some.inj hq
    exact hfails
  · exact fun hp => ⟨nofun, p, rfl, hp⟩

theorem firstToFail_succ {p : Prop} {checks : List Prop} {n : Nat} :
    firstToFail (p :: checks) (n + 1) ↔ p ∧ firstToFail checks n := by
  rw [firstToFail, List.take_succ_cons, List.forall_mem_cons, List.getElem?_cons_succ, and_assoc, firstToFail]

/-- The start fault named is NONE just when all checks hold. -/
theorem firstFailing_code_eq_zero_iff {l : List (StartFault × Bool)} {checks : List Prop} (h : ChecksAgree l checks)
    (hnamed : ∀ c ∈ l, c.1.code ≠ 0) : (firstFailing l).code = 0 ↔ ∀ p ∈ checks, p := by
  induction h with
  | nil => simp [firstFailing, StartFault.code]
  | cons hhead _ ih =>
    rw [List.forall_mem_cons] at hnamed ⊢
    unfold firstFailing
    split
    next hok => rw [ih hnamed.2]; exact ⟨fun h => ⟨hhead.mp hok, h⟩, fun h => h.2⟩
    next hbad => rw [← hhead]; simp [hnamed.1, hbad]

theorem firstFailing_mem (l : List (StartFault × Bool)) :
    firstFailing l = .none ∨ firstFailing l ∈ l.map (·.1) := by
  induction l with
  | nil => exact .inl rfl
  | cons c l ih =>
    unfold firstFailing
    split
    · exact ih.imp_right (List.mem_cons_of_mem _)
    · exact .inr (List.mem_cons_self ..)

/-- Checks numbered on from k: the start fault is the number of the first that fails. -/
theorem firstFailing_code_eq_iff {l : List (StartFault × Bool)} {checks : List Prop} (h : ChecksAgree l checks)
    {k n : Nat} (hk : 0 < k) (hnumbered : l.map (·.1.code) = List.range' k l.length) :
    (firstFailing l).code = n + k ↔ firstToFail checks n := by
  induction h generalizing k n with
  | nil => simp [firstFailing, StartFault.code, firstToFail]; omega
  | @cons c p l checks hhead htail ih =>
    simp only [List.map_cons, List.length_cons, List.range'_succ, List.cons.injEq] at hnumbered
    obtain ⟨hcode, hrest⟩ := hnumbered
    unfold firstFailing
    cases n with
    | zero =>
      rw [firstToFail_zero, ← hhead]
      split
      next hok =>
        have hlater : (firstFailing l).code ≠ k := by
          rcases firstFailing_mem l with hnone | hmem
          · rw [hnone]; exact hk.ne
          · have hcodes := List.mem_map_of_mem (f := StartFault.code) hmem
            rw [List.map_map, show StartFault.code ∘ (·.1) = fun c : StartFault × Bool => c.1.code from rfl, hrest,
              List.mem_range'_1] at hcodes
            omega
        simp [hok, hlater]
      next hbad => simp [hbad, hcode]
    | succ n =>
      rw [firstToFail_succ, ← hhead]
      split
      next hok =>
        rw [← ih (Nat.succ_pos k) hrest, show n + (k + 1) = n + 1 + k by omega]
        exact ⟨fun h => ⟨hok, h⟩, fun h => h.2⟩
      next hbad => simp [hbad, hcode]
/-! ## The run block and START's checks (R95, R129, R130, R159, R174) -/

theorem parseRunBlock_fields (bs : List Byte) : parseRunBlock bs =
    let at_ := numberAt bs
    { version := at_ 0x00 2, runNumber := at_ 0x02 2, firstSerial := at_ 0x04 2, spoilCapacity := at_ 0x06 2
      deckA := BitVec.ofNat 64 (at_ 0x08 8), deckB := BitVec.ofNat 64 (at_ 0x10 8)
      spoilList := BitVec.ofNat 64 (at_ 0x18 8), height := at_ 0x20 2
      polygon := { facets := at_ 0x22 1, goodRevs := at_ 0x23 1, period := at_ 0x24 4, tolerance := at_ 0x28 4
                   window := at_ 0x2C 4, watchdog := at_ 0x30 4, refdiv := at_ 0x34 2 }
      line := { divisor := at_ 0x36 1, base := at_ 0x38 2, mgap := at_ 0x3A 2, mlen := at_ 0x3C 2 }
      high := at_ 0x3E 1, low := at_ 0x3F 1
      power := { lref := { r := at_ 0x40 2, g := at_ 0x42 2, b := at_ 0x44 2 }
                 tgt := { r := at_ 0x46 2, g := at_ 0x48 2, b := at_ 0x4A 2 }
                 db := at_ 0x4C 1, step := at_ 0x4D 1, sstep := at_ 0x4E 1, lim := at_ 0x4F 1, n := at_ 0x50 1
                 amax := at_ 0x51 1, need := at_ 0x52 1, haltOnLimit := at_ 0x53 1 }
      film := { ms := at_ 0x54 2, mp := at_ 0x56 2, stepPeriod := at_ 0x58 2, dwell := at_ 0x5A 1, perfs := at_ 0x5B 1
                edgeEnable := at_ 0x5C 1, eb := at_ 0x5D 1, eo := at_ 0x5E 2, startCounter := at_ 0x60 4
                frames := at_ 0x64 4, lowThreshold := at_ 0x68 4 }
      readLimit := at_ 0x6C 1, pollInterval := at_ 0x6D 1, lockTimeout := at_ 0x6E 1 } := by
  simp only [parseRunBlock, triAt, addrAt, fieldAt_eq]

@[simp] theorem inRange_eq_true {n lo hi : Nat} : inRange n lo hi = true ↔ lo ≤ n ∧ n ≤ hi := by
  simp [inRange]

@[simp] theorem aligned_eq_true {a : Addr} {n : Nat} : aligned a n = true ↔ a.toNat % n = 0 := by
  simp [aligned]

theorem Channel.forall_iff {P : Channel → Prop} : (∀ ch, P ch) ↔ P .red ∧ P .green ∧ P .blue :=
  ⟨fun h => ⟨h _, h _, h _⟩, fun ⟨hr, hg, hb⟩ ch => by cases ch <;> assumption⟩

theorem fits_iff (rb : RunBlock) : rb.fits = true ↔
    (rb.line.base : Int) + 1023 + 4096 * divisorOf rb + rb.line.mgap + rb.line.mlen ≤
      (rb.polygon.period / rb.polygon.facets : Nat) - (rb.polygon.window : Int) := by
  have hdivisor : rb.divisorTicks = divisorOf rb := rfl
  simp only [RunBlock.fits, decide_eq_true_eq, hdivisor, Config.rasterPositions]
  omega

theorem checks_agree (rb : RunBlock) : ChecksAgree rb.checks (startChecks rb) := by
  simp only [ChecksAgree, RunBlock.checks, startChecks, List.forall₂_cons, List.Forall₂.nil, and_true]
  refine ⟨?version, ?run, ?deck, ?spoil, ?raster, ?polygon, ?line, ?ring, ?power, ?motion, ?edgeCode, ?film, ?timing, ?policy,
    fits_iff rb, ?edge, ?counter⟩
  case deck => simp [and_assoc]
  case power => simp only [Channel.forall_iff]; simp [Tri.get]; omega
  all_goals simp
  all_goals omega

/-- START's checks with the fault level's last (R159). -/
def allStartChecks (rb : RunBlock) (fault : Bool) : List Prop := startChecks rb ++ [fault = false]

theorem allChecks_agree (rb : RunBlock) (fault : Bool) :
    ChecksAgree (rb.checks ++ [(.transport, !fault)]) (allStartChecks rb fault) :=
  List.rel_append (checks_agree rb) (.cons (by simp) .nil)

theorem allChecks_numbered (rb : RunBlock) (fault : Bool) :
    (rb.checks ++ [(StartFault.transport, !fault)]).map (·.1.code) =
      List.range' 2 (rb.checks ++ [(StartFault.transport, !fault)]).length := rfl

theorem startFaultOf_code_eq_iff (rb : RunBlock) (fault : Bool) (n : Nat) :
    (startFaultOf rb fault).code = n + 2 ↔ firstToFail (allStartChecks rb fault) n :=
  firstFailing_code_eq_iff (allChecks_agree rb fault) (Nat.succ_pos 1) (allChecks_numbered rb fault)

/-- The number of a start fault is that of a check; a start fault that none gives is NONE. -/
theorem startFaultOf_code_ne_one (rb : RunBlock) (fault : Bool) : (startFaultOf rb fault).code ≠ 1 := by
  rcases firstFailing_mem (rb.checks ++ [(.transport, !fault)]) with hnone | hmem
  · rw [startFaultOf, hnone]; decide
  · have hcodes := List.mem_map_of_mem (f := StartFault.code) hmem
    rw [List.map_map, show StartFault.code ∘ (·.1) = fun c : StartFault × Bool => c.1.code from rfl, allChecks_numbered,
      List.mem_range'_1] at hcodes
    rw [startFaultOf]
    omega

/-- The checks before the fault level's fail first as they fail among themselves. -/
theorem firstToFail_allStartChecks {rb : RunBlock} {fault : Bool} {n : Nat} (hn : n < 17) :
    firstToFail (allStartChecks rb fault) n ↔ firstToFail (startChecks rb) n := by
  have hlength : (startChecks rb).length = 17 := rfl
  rw [firstToFail, firstToFail, allStartChecks, List.take_append_of_le_length (by omega),
    List.getElem?_append_left (by omega)]

theorem firstToFail_faultLevel (rb : RunBlock) (fault : Bool) :
    firstToFail (allStartChecks rb fault) 17 ↔ (∀ p ∈ startChecks rb, p) ∧ fault = true := by
  have htake : (allStartChecks rb fault).take 17 = startChecks rb := rfl
  have hlast : (allStartChecks rb fault)[17]? = some (fault = false) := rfl
  rw [firstToFail, htake, hlast]
  refine and_congr_right fun _ => ⟨?_, fun hfault => ⟨_, rfl, by simp [hfault]⟩⟩
  rintro ⟨q, hq, hfails⟩
  obtain rfl := Option.some.inj hq
  simpa using hfails

/-- Settles O46. -/
theorem startChecksInOrder : Obligations.StartChecksInOrder := by
  refine ⟨parseRunBlock_fields, fun rb fault => ⟨?zero, ?last, startFaultOf_code_ne_one rb fault, fun n hn => ?number⟩⟩
  case zero =>
    have hzero := firstFailing_code_eq_zero_iff (allChecks_agree rb fault) (by simp [RunBlock.checks, StartFault.code])
    rw [startFaultOf, hzero, allStartChecks, List.forall_mem_append, List.forall_mem_singleton]
  case last => rw [← firstToFail_faultLevel, ← startFaultOf_code_eq_iff]
  case number => rw [startFaultOf_code_eq_iff, firstToFail_allStartChecks hn]

/-! ## The checks of a card (R133, R134, R175, R177) -/

/-- Fields numbered on from k: the number of the first that fails. -/
theorem firstBadField_eq {l : List (Nat × Bool)} {checks : List Prop} (h : ChecksAgree l checks) {k : Nat}
    (hnumbered : l.map (·.1) = List.range' k l.length) :
    ((∀ p ∈ checks, p) → firstBadField l = none) ∧ ∀ n, firstToFail checks n → firstBadField l = some (n + k) := by
  induction h generalizing k with
  | nil => exact ⟨fun _ => rfl, fun n ⟨_, p, hp, _⟩ => nomatch hp⟩
  | @cons c p l checks hhead htail ih =>
    simp only [List.map_cons, List.length_cons, List.range'_succ, List.cons.injEq] at hnumbered
    obtain ⟨hnumber, hrest⟩ := hnumbered
    obtain ⟨hpass, hfail⟩ := ih hrest
    refine ⟨fun hall => ?_, fun n hn => ?_⟩
    · rw [List.forall_mem_cons] at hall
      rw [firstBadField, if_pos (hhead.mpr hall.1), hpass hall.2]
    · cases n with
      | zero =>
        rw [firstToFail_zero, ← hhead] at hn
        rw [firstBadField, if_neg hn, hnumber, Nat.zero_add]
      | succ n =>
        rw [firstToFail_succ, ← hhead] at hn
        rw [firstBadField, if_pos hn.1, hfail n hn.2]
        congr 1
        omega

/-- A body of a known kind is validated by its own checks. -/
theorem checkedBody_of_agree {h : Nat} {b : CardBody} {checks : List Prop} (hagree : ChecksAgree (bodyChecks h b) checks)
    (hnumbered : (bodyChecks h b).map (·.1) = List.range' 1 (bodyChecks h b).length) (hknown : ∀ k, b ≠ .unknown k) :
    checkedBody b checks (validateBody h b) := by
  obtain ⟨hpass, hfail⟩ := firstBadField_eq hagree hnumbered
  have hvalid : validateBody h b = match firstBadField (bodyChecks h b) with
      | none => .good b
      | some n => .invalid .fieldRange n b := by
    cases b with
    | unknown k => exact absurd rfl (hknown k)
    | _ => rfl
  exact ⟨fun hall => by rw [hvalid, hpass hall], fun n hn => by rw [hvalid, hfail n hn]⟩

theorem targetOf_isSome {n : Nat} : (targetOf n).isSome = true ↔ n ≤ 6 := by
  match n with
  | 0 | 1 | 2 | 3 | 4 | 5 | 6 => simp [targetOf]
  | n + 7 => simp [targetOf]

theorem addrAt_toNat_mod (bs : List Byte) (off : Nat) : (addrAt bs off).toNat % 64 = numberAt bs off 8 % 64 := by
  rw [addrAt, fieldAt_eq, BitVec.toNat_ofNat]
  omega
theorem cardOutcomeOf_good {h : Nat} {bs : List Byte} (hlength : bs.length = 80) :
    cardOutcomeOf h (.complete (.good bs)) = validateBody h (parseBody bs) := by
  simp [cardOutcomeOf, endData, answerOf, hlength]

/-- A body of an unknown kind. -/
theorem parseBody_unknown {bs : List Byte} (h : numberAt bs 0x00 1 = 0 ∨ 7 < numberAt bs 0x00 1) :
    parseBody bs = .unknown (numberAt bs 0x00 1) := by
  simp only [parseBody, fieldAt_eq]
  split
  case h_8 => rfl
  all_goals omega

theorem parseBody_frame {bs : List Byte} (h : numberAt bs 0x00 1 = 1) : parseBody bs = .frame
    { stock := numberAt bs 0x01 1, retakes := numberAt bs 0x02 1, holdAfter := (numberAt bs 0x03 1).testBit 0
      noEdge := (numberAt bs 0x03 1).testBit 1, tag := numberAt bs 0x04 4
      image := BitVec.ofNat 64 (numberAt bs 0x08 8), stride := numberAt bs 0x10 4, width := numberAt bs 0x14 2
      height := numberAt bs 0x16 2, x0 := numberAt bs 0x18 2, y0 := numberAt bs 0x1A 2 } := by
  simp only [parseBody, fieldAt_eq, h, bitAt, addrAt]

theorem parseBody_leader {bs : List Byte} (h : numberAt bs 0x00 1 = 2) :
    parseBody bs = .leader (numberAt bs 0x04 2) ((numberAt bs 0x03 1).testBit 1) := by
  simp only [parseBody, fieldAt_eq, h, bitAt]

theorem parseBody_table {bs : List Byte} (h : numberAt bs 0x00 1 = 3) :
    parseBody bs = .table (numberAt bs 0x01 1) (BitVec.ofNat 64 (numberAt bs 0x08 8)) (numberAt bs 0x04 4) := by
  simp only [parseBody, fieldAt_eq, h, addrAt]

theorem parseBody_dump {bs : List Byte} (h : numberAt bs 0x00 1 = 4) :
    parseBody bs = .dump (numberAt bs 0x01 1) (BitVec.ofNat 64 (numberAt bs 0x08 8)) := by
  simp only [parseBody, fieldAt_eq, h, addrAt]

/-- The address of a body's field is a multiple of 64 with its number. -/
theorem aligned_numberAt {bs : List Byte} {off : Nat} :
    aligned (BitVec.ofNat 64 (numberAt bs off 8)) 64 = true ↔ numberAt bs off 8 % 64 = 0 := by
  rw [aligned_eq_true, ← addrAt_toNat_mod, addrAt, fieldAt_eq]

theorem frameChecks_agree (h : Nat) (c : FrameCard) : ChecksAgree (bodyChecks h (.frame c)) (frameChecks h c) := by
  simp only [ChecksAgree, bodyChecks, frameChecks, List.forall₂_cons, List.Forall₂.nil, and_true]
  simp [and_assoc]

/-- Settles O47. -/
theorem cardsAreCheckedInOrder : Obligations.CardsAreCheckedInOrder := by
  refine ⟨fun h => ⟨rfl, rfl⟩, fun h kind bs o hlength hkind ho => ?bodies, rfl, fun n hn => ?targets⟩
  case targets =>
    rw [← Option.not_isSome_iff_eq_none, targetOf_isSome]
    omega
  case bodies =>
    rw [cardOutcomeOf_good hlength] at ho
    subst ho hkind
    refine ⟨fun hunknown => ?_, fun hframe c hc => ?_, fun hleader => ?_, fun htable => ?_, fun hdump => ?_,
      fun hcalibrate => ?_, fun hhold => ?_, fun hend => ?_⟩
    · rw [parseBody_unknown hunknown]
      rfl
    · rw [parseBody_frame hframe, ← hc]
      exact checkedBody_of_agree (frameChecks_agree h c) rfl nofun
    · rw [parseBody_leader hleader]
      exact checkedBody_of_agree (.cons inRange_eq_true .nil) rfl nofun
    · rw [parseBody_table htable]
      exact checkedBody_of_agree (.cons targetOf_isSome (.cons aligned_numberAt .nil)) rfl nofun
    · rw [parseBody_dump hdump]
      exact checkedBody_of_agree (.cons targetOf_isSome (.cons aligned_numberAt .nil)) rfl nofun
    · simp only [parseBody, fieldAt_eq, hcalibrate]; rfl
    · simp only [parseBody, fieldAt_eq, hhold]; rfl
    · simp only [parseBody, fieldAt_eq, hend]; rfl

end Sys2Proof.Machine

/-! PROOF. The Line Fetch Engine: a read asked for (R47, R48, R56), and its end (R49 to R53): O40. -/

namespace Sys2Proof.Machine

variable {s t u : State}

/-! ## A read asked for (R48) -/

theorem fetchReady_iff (s : State) : fetchReady s = true ↔
    s.ring.switchOn = true ∧ s.ring.reads.length < 2 ∧ s.ring.slots.length < s.rb.high ∧ s.ring.cursor.state = .active := by
  simp only [fetchReady, Bool.and_eq_true, decide_eq_true_eq, beq_iff_eq, and_assoc]
  rfl

/-- The state with the next read issued, its cursor not yet crossed (R48 steps 1 to 4). -/
def State.readIssued (s : State) : State :=
  { s with
    ring := { s.ring with
      slots := s.ring.slots ++ [newSlot s]
      reads := s.ring.reads ++
        [{ id := s.nextId, linked := true, parts := 0, errorSeen := false, timer := s.rb.readLimit * 1000 }]
      switchOn := decide (s.ring.slots.length + 1 < s.rb.high)
      cursor := s.ring.cursor.advanced }
    bus := s.bus ++
      [.read s.nextId (s.ring.cursor.image + BitVec.ofNat 64 (s.ring.cursor.next * s.ring.cursor.stride))
        (s.ring.cursor.width * 4)]
    nextId := s.nextId + 1 }

theorem fetchOne_of_ready (h : fetchReady s = true) : s.fetchOne = s.readIssued.tryCross := by
  obtain ⟨hswitch, -⟩ := (fetchReady_iff s).mp h
  have hring : issuedRing s = s.readIssued.ring := by
    rw [issuedRing, LineRing.applySwitch_eq]
    simp only [State.readIssued, List.length_append, List.length_singleton, hswitch, ite_self, LineRing.mk.injEq, true_and]
    refine ⟨?_, rfl, trivial⟩
    split
    next hfull => exact (decide_eq_false (by omega)).symm
    next hroom => exact (decide_eq_true (by omega)).symm
  rw [State.fetchOne, if_pos h, hring]
  rfl

theorem fetchOne_of_not_ready (h : fetchReady s = false) : s.fetchOne = s := by
  rw [State.fetchOne, if_neg (by simp [h])]

/-- A crossing changes the cursor alone. -/
theorem State.tryCross_eq (s : State) : s.tryCross = { s with ring.cursor := s.tryCross.ring.cursor } := by
  unfold State.tryCross
  split <;> rfl

theorem readIssued_owner (s : State) : s.readIssued.ring.cursor.owner = s.ring.cursor.owner := by
  show s.ring.cursor.advanced.owner = _
  unfold Cursor.advanced
  split <;> rfl

theorem mayCross_readIssued (s : State) (k : FrameCard) : mayCross s.readIssued k ↔ mayCross s k := by
  unfold mayCross
  rw [readIssued_owner]
  rfl

theorem crossedTo_readIssued (s : State) (k : FrameCard) : crossedTo s.readIssued k = crossedTo s k := by
  unfold crossedTo
  rw [readIssued_owner]
  rfl

/-- The cursor after a read: past its line, SPENT past the last one, or crossed at once (R48 step 4, R56). -/
theorem readIssued_cursor (hactive : s.ring.cursor.state = .active) :
    (s.ring.cursor.next + 1 < s.ring.cursor.height →
      s.readIssued.tryCross.ring.cursor = { s.ring.cursor with next := s.ring.cursor.next + 1 }) ∧
    (s.ring.cursor.height ≤ s.ring.cursor.next + 1 →
      (∀ k, mayCross s k → s.readIssued.tryCross.ring.cursor = crossedTo s k) ∧
      ((∀ k, ¬mayCross s k) → s.readIssued.tryCross.ring.cursor =
        { s.ring.cursor with next := s.ring.cursor.next + 1, state := .spent })) := by
  have hcursor : s.readIssued.ring.cursor = s.ring.cursor.advanced := rfl
  refine ⟨fun hmore => ?_, fun hlast => ?_⟩
  · rw [Cursor.advanced, if_pos hmore] at hcursor
    rw [tryCross_of_not (.inl (by rw [hcursor]; simp [hactive])), hcursor]
  · rw [Cursor.advanced, if_neg (by omega)] at hcursor
    refine ⟨fun k hcross => ?_, fun hnot => ?_⟩
    · rw [tryCross_of_mayCross (by rw [hcursor]) ((mayCross_readIssued s k).mpr hcross), crossedTo_readIssued]
    · rw [tryCross_of_not (.inr fun k hk => hnot k ((mayCross_readIssued s k).mp hk)), hcursor]

/-! ## The end of a read (R49 to R53) -/

/-- An examination of R48 adds to the ring and takes nothing from it. -/
theorem fetchOne_extends (s : State) :
    s.ring.slots <+: s.fetchOne.ring.slots ∧ s.ring.reads <+: s.fetchOne.ring.reads := by
  cases h : fetchReady s with
  | true =>
    rw [fetchOne_of_ready h, State.tryCross_eq]
    exact ⟨List.prefix_append _ _, List.prefix_append _ _⟩
  | false =>
    rw [fetchOne_of_not_ready h]
    exact ⟨List.prefix_rfl, List.prefix_rfl⟩

theorem fetch_extends (s : State) : s.ring.slots <+: s.fetch.ring.slots ∧ s.ring.reads <+: s.fetch.ring.reads :=
  ⟨(fetchOne_extends s).1.trans (fetchOne_extends s.fetchOne).1,
    (fetchOne_extends s).2.trans (fetchOne_extends s.fetchOne).2⟩

/-- What a completion or an expiry leaves in the slot that it fills. -/
def slotEnd (e : LineRead) : Instr → Slot → Slot
  | .lineReadComplete _ a => completedSlot e.errorSeen a
  | _ => expiredSlot e.errorSeen

theorem exec_lineReadOver {e : LineRead} {c : Instr} (hentry : s.ring.entry e.id = some e)
    (hc : (∃ a, c = .lineReadComplete e.id a) ∨ c = .lineReadTimerExpiry e.id) :
    exec c s = .next (s.endLineRead e (slotEnd e c)) := by
  rcases hc with ⟨a, rfl⟩ | rfl
  · show execLineReadComplete e.id a s = _
    rw [execLineReadComplete, hentry]
    rfl
  · show execLineReadTimerExpiry e.id s = _
    rw [execLineReadTimerExpiry, hentry]
    rfl

theorem completedSlot_of_failed {errorSeen : Bool} {a : Answer} {x : Slot}
    (h : a = .error ∨ errorSeen = true) :
    completedSlot errorSeen a x = x.ended .error (List.replicate x.words 0) := by
  rcases h with rfl | rfl
  · cases errorSeen <;> rfl
  · rfl

/-- The slot that a read fills keeps its line and becomes READY, with its words or 0s (R45, R50 to R52). -/
theorem slotEnd_spec {e : LineRead} {c : Instr} (hc : (∃ a, c = .lineReadComplete e.id a) ∨ c = .lineReadTimerExpiry e.id)
    (x : Slot) :
    (slotEnd e c x).state = .ready ∧ (slotEnd e c x).owner = x.owner ∧ (slotEnd e c x).line = x.line ∧
    (slotEnd e c x).words = x.words ∧
    (∀ data, c = .lineReadComplete e.id (.good data) → data.length = x.words * 4 → e.errorSeen = false →
      (slotEnd e c x).tag = .none ∧ (slotEnd e c x).data = words32 data) ∧
    (c = .lineReadComplete e.id .error ∨ e.errorSeen = true →
      (slotEnd e c x).tag = .error ∧ (slotEnd e c x).data = List.replicate x.words 0) ∧
    (c = .lineReadTimerExpiry e.id → e.errorSeen = false →
      (slotEnd e c x).tag = .timeout ∧ (slotEnd e c x).data = List.replicate x.words 0) := by
  have hended : ∃ tag data, slotEnd e c x = x.ended tag data := by
    rcases hc with ⟨a, rfl⟩ | rfl
    · show ∃ tag data, completedSlot e.errorSeen a x = _
      unfold completedSlot
      split <;> exact ⟨_, _, rfl⟩
    · exact ⟨_, _, rfl⟩
  obtain ⟨tag, data, hslot⟩ := hended
  refine ⟨by rw [hslot]; rfl, by rw [hslot]; rfl, by rw [hslot]; rfl, by rw [hslot]; rfl, ?_, fun hfailed => ?_, ?_⟩
  · rintro data rfl hlength hseen
    show (completedSlot e.errorSeen (.good data) x).tag = _ ∧ (completedSlot e.errorSeen (.good data) x).data = _
    simp [completedSlot, hseen, answerOf, hlength, Slot.ended]
  · rcases hc with ⟨a, rfl⟩ | rfl
    · show (completedSlot e.errorSeen a x).tag = _ ∧ (completedSlot e.errorSeen a x).data = _
      rw [completedSlot_of_failed (hfailed.imp_left fun h => by injection h)]
      exact ⟨rfl, rfl⟩
    · have hseen : e.errorSeen = true := hfailed.resolve_left nofun
      show (expiredSlot e.errorSeen x).tag = _ ∧ (expiredSlot e.errorSeen x).data = _
      rw [expiredSlot, hseen]
      exact ⟨rfl, rfl⟩
  · rintro rfl hseen
    show (expiredSlot e.errorSeen x).tag = _ ∧ (expiredSlot e.errorSeen x).data = _
    rw [expiredSlot, hseen]
    exact ⟨rfl, rfl⟩

/-- Settles O40. -/
theorem lineReadsBeginAndEnd : Obligations.LineReadsBeginAndEnd := by
  refine ⟨fun s => ⟨fun hswitch hreads hslots hactive => ?asks, fun hnot => ?stands, rfl⟩,
    fun s e hentry => ⟨fun err => rfl, fun c hc => ?ends⟩⟩
  case asks =>
    rw [fetchOne_of_ready ((fetchReady_iff s).mpr ⟨hswitch, hreads, hslots, hactive⟩)]
    have hcrossed := State.tryCross_eq s.readIssued
    obtain ⟨hmore, hlast⟩ := readIssued_cursor hactive
    refine ⟨?_, ?_, ?_, ?_, ?_, hmore, hlast, ?_⟩
    · rw [hcrossed]; rfl
    · rw [hcrossed]; rfl
    · rw [hcrossed]; rfl
    · rw [hcrossed]; rfl
    · rw [hcrossed]; rfl
    · generalize s.readIssued.tryCross = w at hcrossed
      rw [hcrossed]
      rfl
  case stands =>
    refine fetchOne_of_not_ready (Bool.eq_false_iff.mpr fun hready => ?_)
    obtain ⟨hswitch, hreads, hslots, hactive⟩ := (fetchReady_iff s).mp hready
    rcases hnot with h | h | h | h
    · exact absurd (hswitch.symm.trans h) (by decide)
    · omega
    · omega
    · exact h hactive
  case ends =>
    obtain ⟨hslots, hreads⟩ := fetch_extends (s.setRing { s.ring with
      reads := s.ring.reads.filter fun x => x.id != e.id
      slots := if e.linked then fillSlot e.id (slotEnd e c) s.ring.slots else s.ring.slots })
    rw [State.setRing_ring] at hslots
    refine ⟨_, exec_lineReadOver hentry hc, hreads, fun hvoided => ?_,
      fun hlinked => ⟨slotEnd e c, ?_, slotEnd_spec hc⟩, by simp [State.endLineRead], by simp [State.endLineRead],
      by simp [State.endLineRead], by simp [State.endLineRead], by simp [State.endLineRead], by simp [State.endLineRead],
      by simp [State.endLineRead], by simp [State.endLineRead], by simp [State.endLineRead], by simp [State.endLineRead]⟩
    · rw [hvoided] at hslots
      rw [State.endLineRead, hvoided]
      exact hslots
    · rw [hlinked] at hslots
      rw [State.endLineRead, hlinked]
      exact hslots

end Sys2Proof.Machine

/-! PROOF. The end of the run block read: a start fault, or every block at its START values (R144, R145, R159, R160): O45. -/

namespace Sys2Proof.Machine

variable {s t u : State}

/-! ## A start fault (R159) -/

theorem State.toIdle_bus_of_disabled (h : s.deck.snapshotEnabled = false) : s.toIdle.bus = s.bus := by
  simp [State.toIdle, refreshWrites, h]

theorem State.startFails_fields (s : State) (f : StartFault) (k : Nat) (hsnapshot : s.deck.snapshotEnabled = false) :
    (s.startFails f k).run = { s.run with state := .idle, stage := k, startFault := f } ∧
    (s.startFails f k).regs.causes.getLsbD 6 = true ∧ (s.startFails f k).rb = s.rb ∧
    (s.startFails f k).scan = s.scan ∧ (s.startFails f k).tables = s.tables ∧ (s.startFails f k).film = s.film ∧
    (s.startFails f k).frame = s.frame ∧ (s.startFails f k).ring = s.ring ∧ (s.startFails f k).bus = s.bus ∧
    (s.startFails f k).power.pwr = s.power.pwr ∧ (s.startFails f k).power.state = s.power.state ∧
    (s.startFails f k).deck.runBlockRead = s.deck.runBlockRead := by
  refine ⟨by simp [State.startFails], ?_, by simp [State.startFails], by simp [State.startFails], by simp [State.startFails],
    by simp [State.startFails], by simp [State.startFails], by simp [State.startFails], ?_,
    by simp [State.startFails, State.toIdle, State.enterRunState], by simp [State.startFails, State.toIdle],
    by simp [State.startFails, State.toIdle, State.refresh_eq]⟩
  · rw [State.startFails, State.toIdle_regs, State.raise_causes, BitVec.getLsbD_or, Bool.or_eq_true]
    exact .inr (by decide)
  · exact State.toIdle_bus_of_disabled (s := s.setRun _) hsnapshot

/-! ## Every check passed (R160) -/

theorem State.primeScan_dp (s : State) : s.primeScan.dp = s.cutLine.dp := by
  unfold State.primeScan
  dsimp only
  split <;> simp

/-- Stage 3 closes the gate: the lock is given up (R96, R98). -/
theorem State.primeScan_gateOpen (s : State) : s.primeScan.power.gateOpen = false := by
  have hlaw (c : ScanTiming) (r : RunState) : gateLaw c.giveUpLock.lock r = false := by
    unfold gateLaw
    rw [beq_eq_false_iff_ne.mpr (ScanTiming.giveUpLock_not_locked c), Bool.false_and]
  unfold State.primeScan
  dsimp only
  split <;> simp [hlaw]

/-- The state from which START sets the blocks up: the new copy in place, the snapshot enabled and refreshed. -/
def State.startAccepted (s : State) (rb : RunBlock) : State :=
  ((s.setRb rb).setDeck { s.deck with snapshotEnabled := true }).refresh

theorem startPasses_eq (s : State) (rb : RunBlock) : s.startPasses rb = (s.startAccepted rb).setUp.primingStage5 := rfl

/-- The blocks at their START values, the scan and the Datapath aside (R2, R58, R99, R113, R130, R132, R144). -/
theorem startPasses_blocks (s : State) (rb : RunBlock) :
    (s.startPasses rb).rb = rb ∧
    (s.startPasses rb).run = { s.run with stage := 5, lockWait := some (rb.lockTimeout * 10000000) } ∧
    (s.startPasses rb).frame = .reset ∧
    (s.startPasses rb).ring = { slots := [], switchOn := true, reads := s.ring.reads.map fun e => { e with linked := false }
                                cursor := { s.ring.cursor with state := .parked, crossedFrom := none } } ∧
    (s.startPasses rb).seq = .reset ∧
    (s.startPasses rb).deck = { (s.deck.primed rb) with
      snapshotEnabled := true, generation := (s.deck.generation + 1) % 2 ^ 32 } ∧
    (s.startPasses rb).film = s.film.primed rb ∧
    (s.startPasses rb).power = .reset ∧
    (s.startPasses rb).regs = s.regs ∧ (s.startPasses rb).tables = s.tables ∧ (s.startPasses rb).nextId = s.nextId ∧
    (s.startPasses rb).bus = s.bus ++ refreshWrites { s with deck.snapshotEnabled := true } 1 (snapshotBody s) := by
  simp only [startPasses_eq, State.startAccepted, State.setUp, State.flushParked_eq]
  refine ⟨by simp, ?_, by simp, ?_, by simp, ?_, by simp, ?_, by simp, by simp, by simp, ?_⟩
  · simp [State.primingStage5, RunBlock.lockTicks, Config.ticksPer100ms]
  · simp [LineRing.flushed, Cursor.park, LineRead.voided]
  · simp [State.refresh_eq, DeckReader.primed]
  · simp [Power.primed, State.primeScan_gateOpen]; rfl
  · simp; rfl

/-- The scan at its START values, its line cut (R86, R96, R97). -/
theorem startPasses_scan (s : State) (rb : RunBlock) :
    ∃ u : State, u.scan = s.scan.startReference rb.polygon.refdiv ∧ u.dp = s.dp ∧
      (s.startPasses rb).scan = u.cutLine.scan.clearedAtStart.giveUpLock ∧ (s.startPasses rb).dp = u.cutLine.dp := by
  simp only [startPasses_eq, State.startAccepted, State.setUp, State.flushParked_eq]
  exact ⟨_, by simp, by simp, State.primeScan_scan _, State.primeScan_dp _⟩

theorem startPasses_lines (s : State) (rb : RunBlock) :
    (s.startPasses rb).scan = { s.scan with
      running := true, refHigh := true, refTimer := some rb.polygon.refdiv, averages := List.replicate 16 0
      rev := none, goodCount := 0, indexPending := false
      lock := if s.scan.lock = .stopped then .stopped else .spinning
      facet := if s.scan.lock = .locked ∨ s.scan.lock = .locking then 0 else s.scan.facet
      window := .none, mark := (s.startPasses rb).scan.mark, windowTimer := (s.startPasses rb).scan.windowTimer } ∧
    (s.scan.window ≠ .none → (s.startPasses rb).scan.mark = false ∧ (s.startPasses rb).scan.windowTimer = none) ∧
    (s.scan.window = .none → (s.startPasses rb).scan.mark = s.scan.mark ∧
      (s.startPasses rb).scan.windowTimer = s.scan.windowTimer ∧ (s.startPasses rb).dp = s.dp) ∧
    (s.scan.window = .pixel ∨ s.scan.window = .monitor →
      (s.startPasses rb).dp.mode = .idle ∧ (s.startPasses rb).dp.drive = .all 0) := by
  obtain ⟨u, hstarted, hdp, hscan, hdpAfter⟩ := startPasses_scan s rb
  have hwindow : u.scan.window = s.scan.window := by rw [hstarted]; rfl
  rw [hdpAfter, hscan]
  by_cases hnone : s.scan.window = .none
  · rw [cutLine_of_none (hwindow.trans hnone), hstarted, hdp]
    refine ⟨?_, fun h => absurd hnone h, fun _ => ?_, fun h => by rw [hnone] at h; rcases h with h | h <;> cases h⟩
    · cases hlock : s.scan.lock <;>
        simp [ScanTiming.giveUpLock, ScanTiming.clearedAtStart, ScanTiming.startReference, hlock, hnone]
    · cases hlock : s.scan.lock <;>
        simp [ScanTiming.giveUpLock, ScanTiming.clearedAtStart, ScanTiming.startReference, hlock]
  · rw [cutLine_of_line (by rw [hwindow]; exact hnone), hstarted]
    refine ⟨?_, fun _ => ?_, fun h => absurd h hnone, fun h => cut_of_open h _⟩
    · cases hlock : s.scan.lock <;>
        simp [ScanTiming.giveUpLock, ScanTiming.clearedAtStart, ScanTiming.startReference, ScanTiming.noWindow, hlock]
    · cases hlock : s.scan.lock <;>
        simp [ScanTiming.giveUpLock, ScanTiming.clearedAtStart, ScanTiming.startReference, ScanTiming.noWindow, hlock]

/-! ## The end of the read (R145) -/

theorem exec_runBlockReadEnd {p : RunBlockRead} (hread : s.deck.runBlockRead = some p) (r : ReadEnd) :
    exec (.runBlockReadEnd p.id r) s = .next
      (if atStage1 s then
        (s.setDeck { s.deck with runBlockRead := none }).validateStart (endData r 256) p.stageBefore
       else s.setDeck { s.deck with runBlockRead := none }) := by
  show execRunBlockReadEnd p.id r s = _
  simp only [execRunBlockReadEnd, hread, if_true]

theorem validateStart_of_fault {bs : List Byte} {k : Nat} {f : StartFault}
    (h : f = startFaultOf (parseRunBlock bs) s.film.faultLevel) (hf : f ≠ .none) :
    s.validateStart (some bs) k = s.startFails f k := by
  unfold State.validateStart
  dsimp only
  rw [← h]
  split
  next hnone => exact absurd rfl hf
  next => rfl

theorem validateStart_of_pass {bs : List Byte} {k : Nat}
    (h : startFaultOf (parseRunBlock bs) s.film.faultLevel = .none) :
    s.validateStart (some bs) k = s.startPasses (parseRunBlock bs) := by
  simp [State.validateStart, h]

/-- Settles O45. -/
theorem runBlockReadEnds : Obligations.RunBlockReadEnds := by
  refine fun s p r hread => ⟨fun hnot => ?discarded, fun hpriming hstage hsnapshot fault hfailed hchecked => ?taken⟩
  case discarded =>
    rw [exec_runBlockReadEnd hread, if_neg (by rcases hnot with h | h <;> simp [atStage1, h])]
    rfl
  case taken =>
    rw [exec_runBlockReadEnd hread, if_pos (by simp [atStage1, hpriming, hstage])]
    generalize hv : s.setDeck { s.deck with runBlockRead := none } = v
    have hfault (hf : fault ≠ .none) : v.validateStart (endData r 256) p.stageBefore = v.startFails fault p.stageBefore := by
      have hfails (h : r = .expired ∨ r = .complete .error) :
          v.validateStart (endData r 256) p.stageBefore = v.startFails fault p.stageBefore := by
        rw [hfailed h]
        rcases h with rfl | rfl <;> rfl
      cases r with
      | expired => exact hfails (.inl rfl)
      | complete a =>
        cases a with
        | error => exact hfails (.inr rfl)
        | good data =>
          obtain ⟨hlength, hfault⟩ := hchecked data rfl
          rw [show endData (.complete (.good data)) 256 = some data by simp [endData, answerOf, hlength]]
          exact validateStart_of_fault (by rw [← hv]; exact hfault) hf
    have hpass (data : List Byte) (hr : r = .complete (.good data)) (hf : fault = .none) :
        v.validateStart (endData r 256) p.stageBefore = v.startPasses (parseRunBlock data) := by
      obtain ⟨hlength, hfault⟩ := hchecked data hr
      rw [hr, show endData (.complete (.good data)) 256 = some data by simp [endData, answerOf, hlength]]
      exact validateStart_of_pass (by rw [← hv]; exact hfault.symm.trans hf)
    refine ⟨_, rfl, ?_, fun hf => ?_, fun hf data hr rb hrb => ?_⟩
    · by_cases hf : fault = .none
      · have hgood : ∃ data, r = .complete (.good data) := by
          match r, hfailed with
          | .expired, hfailed => exact absurd (hf.symm.trans (hfailed (.inl rfl))) (by decide)
          | .complete .error, hfailed => exact absurd (hf.symm.trans (hfailed (.inr rfl))) (by decide)
          | .complete (.good data), _ => exact ⟨data, rfl⟩
        obtain ⟨data, hr⟩ := hgood
        obtain ⟨-, -, -, -, -, hdeck, -⟩ := startPasses_blocks v (parseRunBlock data)
        rw [hpass data hr hf, hdeck, ← hv]
        rfl
      · obtain ⟨-, -, -, -, -, -, -, -, -, -, -, hdeck⟩ := v.startFails_fields fault p.stageBefore (by rw [← hv]; exact hsnapshot)
        rw [hfault hf, hdeck, ← hv]
        rfl
    · obtain ⟨hrun, hraised, hrbKept, hscan, htables, hfilm, hframe, hring, hbus, hpwr, hstate, -⟩ :=
        v.startFails_fields fault p.stageBefore (by rw [← hv]; exact hsnapshot)
      rw [hfault hf]
      rw [← hv] at *
      exact ⟨hrun, hraised, hrbKept, hscan, htables, hfilm, hframe, hring, hbus, hpwr, hstate⟩
    · rw [hpass data hr hf, ← hrb]
      obtain ⟨hrbNew, hrun, hframe, hring, hseq, hdeck, hfilm, hpower, hregs, htables, hnextId, hbus⟩ :=
        startPasses_blocks v rb
      obtain ⟨hscan, hcut, hstands, hdark⟩ := startPasses_lines v rb
      rw [← hv] at *
      exact ⟨hrbNew, hrun, hframe, hring, hseq, hdeck, hfilm, hscan, hcut, hstands, hdark, hpower, hregs, htables, hnextId,
        hbus⟩

end Sys2Proof.Machine

/-! PROOF. The areas that the controller writes into host memory, as fields laid end to end (R155, R156, R172 to R177):
O22. -/

namespace Sys2Proof.Machine

variable {s t u : State}

/-! ## Bytes of a number (R172) -/

@[simp] theorem toLE_length (w n : Nat) : (toLE w n).length = w := by
  induction w generalizing n with
  | zero => rfl
  | succ w ih => simp [toLE, ih]

theorem numberAt_append (pre bs : List Byte) (off w : Nat) :
    numberAt (pre ++ bs) (pre.length + off) w = numberAt bs off w := by
  unfold numberAt
  refine congrArg List.sum (List.map_congr_left fun k _ => ?_)
  rw [show pre.length + off + k = pre.length + (off + k) by omega, List.getD_append_right _ _ _ _ (by omega)]
  simp

theorem mod_pow_succ (n w : Nat) : n % 256 ^ (w + 1) = n % 256 + 256 * (n / 256 % 256 ^ w) := by
  rw [pow_succ, Nat.mul_comm, Nat.mod_mul]

/-- The field that stands at the front of bytes. -/
theorem numberAt_toLE_front (w n : Nat) (post : List Byte) : numberAt (toLE w n ++ post) 0 w = n % 256 ^ w := by
  induction w generalizing n with
  | zero => simp [Nat.mod_one]
  | succ w ih =>
    have hrest := numberAt_append [BitVec.ofNat 8 n] (toLE w (n / 256) ++ post) 0 w
    rw [numberAt_succ]
    simp only [toLE, List.cons_append, List.getD_cons_zero, List.length_singleton, List.nil_append, Nat.zero_add,
      Nat.add_zero] at hrest ⊢
    rw [hrest, ih, BitVec.toNat_ofNat, mod_pow_succ]

theorem numberAt_toLE (w n : Nat) : numberAt (toLE w n) 0 w = n % 256 ^ w := by
  simpa using numberAt_toLE_front w n []

theorem toLE_mod (w n : Nat) : toLE w (n % 256 ^ w) = toLE w n := by
  induction w generalizing n with
  | zero => rfl
  | succ w ih =>
    rw [toLE, toLE, mod_pow_succ, Nat.add_mul_div_left _ _ (by decide),
      Nat.div_eq_of_lt (Nat.mod_lt _ (by decide)), Nat.zero_add, ih]
    congr 1
    apply BitVec.eq_of_toNat_eq
    simp only [BitVec.toNat_ofNat]
    omega

/-- A signed field that holds a natural number is that number's bytes. -/
@[simp] theorem toLESigned_natCast (w n : Nat) : toLESigned w (n : Int) = toLE w n := by
  rw [toLESigned, ← Int.natCast_emod, Int.toNat_natCast, toLE_mod]

theorem numberAt_toLESigned_front (w : Nat) (v : Int) (post : List Byte) :
    (numberAt (toLESigned w v ++ post) 0 w : Int) = v % (256 ^ w : Nat) := by
  have hpos : (0 : Int) < (256 ^ w : Nat) := by positivity
  have hnonneg := Int.emod_nonneg v hpos.ne'
  have hlt := Int.emod_lt_of_pos v hpos
  rw [toLESigned, numberAt_toLE_front, Nat.mod_eq_of_lt (by omega)]
  omega

/-! ## Fields laid end to end -/

/-- Fields, each given by its width and value, laid end to end. -/
def fieldBytes (fields : List (Nat × Int)) : List Byte := fields.flatMap fun f => toLESigned f.1 f.2

/-- The fields with the offsets at which they then stand. -/
def placed : Nat → List (Nat × Int) → List (Nat × Nat × Int)
  | _, [] => []
  | off, (w, v) :: rest => (off, w, v) :: placed (off + w) rest

theorem fieldBytes_cons (w : Nat) (v : Int) (fields : List (Nat × Int)) :
    fieldBytes ((w, v) :: fields) = toLESigned w v ++ fieldBytes fields := rfl

@[simp] theorem fieldBytes_singleton (w : Nat) (v : Int) : fieldBytes [(w, v)] = toLESigned w v := by simp [fieldBytes]

@[simp] theorem toLESigned_length (w : Nat) (v : Int) : (toLESigned w v).length = w := toLE_length _ _

theorem fieldBytes_length (fields : List (Nat × Int)) : (fieldBytes fields).length = (fields.map (·.1)).sum := by
  simp [fieldBytes, List.length_flatMap]

/-- Fields laid end to end, after other bytes and before others, stand at their places. -/
theorem layout_placed (fields : List (Nat × Int)) (pre post : List Byte) :
    layout (pre ++ (fieldBytes fields ++ post)) (placed pre.length fields) := by
  induction fields generalizing pre with
  | nil => exact nofun
  | cons f fields ih =>
    obtain ⟨w, v⟩ := f
    rw [placed, layout, List.forall_mem_cons, fieldBytes_cons, List.append_assoc]
    refine ⟨?_, ?_⟩
    · have h := numberAt_append pre (toLESigned w v ++ (fieldBytes fields ++ post)) 0 w
      rw [Nat.add_zero] at h
      rw [h]
      exact numberAt_toLESigned_front w v _
    · have h := ih (pre ++ toLESigned w v)
      rw [List.length_append, toLESigned_length, List.append_assoc] at h
      exact h

/-- The fields of an area, where the area's table lists some of them. -/
theorem layout_of_fields {bs : List Byte} {fields : List (Nat × Int)} {listed : List (Nat × Nat × Int)}
    {post : List Byte} (hbs : bs = fieldBytes fields ++ post) (hlisted : listed ⊆ placed 0 fields) : layout bs listed := by
  subst hbs
  exact fun f hf => layout_placed fields [] post f (hlisted hf)

theorem zeroBytes_append {pre post : List Byte} {n lo hi : Nat} (hlo : pre.length ≤ lo) (hhi : hi ≤ pre.length + n) :
    zeroBytes (pre ++ (zeros n ++ post)) lo hi := by
  intro k hk hkhi
  rw [List.getD_append_right _ _ _ _ (by omega), List.getD_append _ _ _ _ (by simp [zeros]; omega), zeros,
    List.getD_eq_getElem _ _ (by simp; omega), List.getElem_replicate]
/-! ## The snapshot's body (R155, R174) -/

theorem toLE_one (n : Nat) : toLE 1 n = [byteOf n] := rfl

theorem optional32_eq (v : Option Nat) : optional32 v = toLESigned 4 (v.getD 0xFFFFFFFF : Nat) := by
  cases v with
  | none => rfl
  | some n => rw [toLESigned_natCast]; rfl

theorem recordField_eq (r : CardRecord) (v : Nat) :
    recordField r v = toLESigned 2 (if r.state = .empty then 0xFFFF else v) := by
  unfold recordField
  cases r.state with
  | empty => rw [if_pos rfl]; rfl
  | reading => rw [if_neg (by decide), toLESigned_natCast]
  | present => rw [if_neg (by decide), toLESigned_natCast]

theorem limitedByte_eq (t : Tri Bool) :
    [limitedByte t] = toLESigned 1 ((if t.r then 1 else 0) + (if t.g then 2 else 0) + (if t.b then 4 else 0)) := by
  unfold limitedByte flagNat
  cases t.r <;> cases t.g <;> cases t.b <;> rfl

/-- The snapshot's fields before the averages. -/
def snapshotFields (s : State) : List (Nat × Int) :=
  [(1, s.run.state.code), (1, s.run.haltCause.code), (1, attemptCode s.frame.ctx), (1, s.scan.lock.code),
   (1, s.power.state.code),
   (1, (if s.power.limited.r then 1 else 0) + (if s.power.limited.g then 2 else 0) +
     (if s.power.limited.b then 4 else 0)),
   (1, s.ring.slots.length), (1, 0),
   (2, if s.seq.current.state = .empty then 0xFFFF else s.seq.current.serial),
   (2, if s.seq.current.state = .empty then 0xFFFF else s.seq.current.index),
   (4, s.film.counter), (4, s.film.magazine), (4, s.film.good), (4, s.film.spoiled), (4, s.film.leaders),
   (4, s.frame.entriesWritten), (4, s.frame.entriesDropped), (2, s.power.pwr.r), (2, s.power.pwr.g),
   (2, s.power.pwr.b), (2, 0)]

theorem snapshotBody_eq (s : State) :
    snapshotBody s = fieldBytes (snapshotFields s) ++ (s.scan.averages.flatMap (toLE 4) ++ zeros 136) := by
  have hzero : toLESigned 1 0 = [0] := rfl
  have hzeros : toLESigned 2 0 = zeros 2 := rfl
  simp only [snapshotFields, fieldBytes, List.flatMap_cons, List.flatMap_nil, toLE_one, ← limitedByte_eq,
    ← recordField_eq, toLESigned_natCast, hzero, hzeros, snapshotBody, List.append_assoc, List.cons_append, List.nil_append,
    List.append_nil]

theorem averages_length (l : List Nat) : (l.flatMap (toLE 4)).length = 4 * l.length := by
  induction l with
  | nil => rfl
  | cons a l ih => rw [List.flatMap_cons, List.length_append, ih, toLE_length, List.length_cons]; omega

theorem snapshotFields_length (s : State) : (fieldBytes (snapshotFields s)).length = 48 := by
  simp [fieldBytes_length, snapshotFields]

theorem snapshotBody_layout {s : State} {listed : List (Nat × Nat × Int)} (h : listed ⊆ placed 0 (snapshotFields s)) :
    layout (snapshotBody s) listed := layout_of_fields (snapshotBody_eq s) h

theorem averages_split {l : List Nat} {i : Nat} (hi : i < l.length) :
    l.flatMap (toLE 4) =
      (l.take i).flatMap (toLE 4) ++ (toLE 4 (l.getD i 0) ++ (l.drop (i + 1)).flatMap (toLE 4)) := by
  rw [List.getD_eq_getElem _ _ hi, ← List.flatMap_cons, ← List.drop_eq_getElem_cons hi, ← List.flatMap_append,
    List.take_append_drop]

/-- Average i stands at byte 48 + 4i. -/
theorem snapshotBody_average {i : Nat} (hi : i < s.scan.averages.length) :
    layout (snapshotBody s) [(48 + 4 * i, 4, (s.scan.averages.getD i 0 : Int))] := by
  have hbody : snapshotBody s = (fieldBytes (snapshotFields s) ++ (s.scan.averages.take i).flatMap (toLE 4)) ++
      (fieldBytes [(4, (s.scan.averages.getD i 0 : Int))] ++
        ((s.scan.averages.drop (i + 1)).flatMap (toLE 4) ++ zeros 136)) := by
    rw [snapshotBody_eq, averages_split hi, fieldBytes_singleton, toLESigned_natCast]
    simp only [List.append_assoc]
  have hplace := layout_placed [(4, (s.scan.averages.getD i 0 : Int))]
    (fieldBytes (snapshotFields s) ++ (s.scan.averages.take i).flatMap (toLE 4))
    ((s.scan.averages.drop (i + 1)).flatMap (toLE 4) ++ zeros 136)
  rw [← hbody, List.length_append, snapshotFields_length, averages_length, List.length_take, Nat.min_eq_left hi.le] at hplace
  exact hplace

/-! ## Result areas (R141, R175) -/

theorem resultBytes_length (r : CardResult) (counter : Nat) : (r.bytes counter).length = 48 := by
  have hkind : r.kind.bytes.length = 40 := by
    cases r.kind with
    | frame spoil attempts limited occ first good clamps =>
      simp [KindFields.bytes, optional32_eq, clampBytes, zeros]
    | _ => simp [KindFields.bytes, optional32_eq, zeros]
  simp [CardResult.bytes, hkind]

/-- The head of a result area. -/
def resultHead (r : CardResult) (counter : Nat) : List (Nat × Int) :=
  [(1, r.outcome.code), (1, r.reason.code), (1, r.field), (1, 0), (4, counter)]

theorem resultBytes_eq (r : CardResult) (counter : Nat) :
    r.bytes counter = fieldBytes (resultHead r counter) ++ r.kind.bytes := by
  have hzero : toLESigned 1 0 = [0] := rfl
  simp only [resultHead, fieldBytes, List.flatMap_cons, List.flatMap_nil, toLE_one, toLESigned_natCast, hzero,
    CardResult.bytes, List.cons_append, List.nil_append, List.append_nil]

/-- A result area whose kind fields are laid end to end. -/
theorem resultBytes_fields {r : CardResult} {counter : Nat} {kind : List (Nat × Int)} {post : List Byte}
    (hkind : r.kind.bytes = fieldBytes kind ++ post) :
    r.bytes counter = fieldBytes (resultHead r counter ++ kind) ++ post := by
  rw [resultBytes_eq, hkind, ← List.append_assoc]
  simp [fieldBytes]
/-- Bytes of the head and before an offset, then zeros. -/
theorem resultBytes_zeros {r : CardResult} {counter : Nat} {kind : List (Nat × Int)} {n lo hi : Nat} {post : List Byte}
    (hkind : r.kind.bytes = fieldBytes kind ++ (zeros n ++ post)) (hlo : 8 + (kind.map (·.1)).sum ≤ lo)
    (hhi : hi ≤ 8 + (kind.map (·.1)).sum + n) : zeroBytes (r.bytes counter) lo hi := by
  have hlength : (fieldBytes (resultHead r counter ++ kind)).length = 8 + (kind.map (·.1)).sum := by
    rw [fieldBytes_length, List.map_append, List.sum_append]
    rfl
  rw [resultBytes_fields hkind]
  exact zeroBytes_append (by omega) (by omega)

theorem resultBytes_layout {r : CardResult} {counter : Nat} {kind : List (Nat × Int)} {listed : List (Nat × Nat × Int)}
    {post : List Byte} (hkind : r.kind.bytes = fieldBytes kind ++ post)
    (hlisted : listed ⊆ placed 0 (resultHead r counter ++ kind)) : layout (r.bytes counter) listed :=
  layout_of_fields (resultBytes_fields hkind) hlisted

/-! ### The kind fields of a result, end to end -/

theorem KindFields.frame_bytes (spoil : SpoilCause) (attempts : Nat) (limited : Bool) (occ : Nat) (first good : Option Nat)
    (k : Tri Clamp) :
    (KindFields.frame spoil attempts limited occ first good k).bytes = fieldBytes
      [(1, spoil.code), (1, attempts), (1, if limited then 1 else 0), (1, occ), (4, first.getD 0xFFFFFFFF),
        (4, good.getD 0xFFFFFFFF), (4, k.r.low), (4, k.r.high), (4, k.g.low), (4, k.g.high), (4, k.b.low),
        (4, k.b.high)] ++ (zeros 4 ++ []) := by
  have hlimited : toLESigned 1 (if limited then 1 else 0) = [byteOf (flagNat limited)] := by cases limited <;> rfl
  simp only [KindFields.bytes, optional32_eq, clampBytes, fieldBytes, List.flatMap_cons, List.flatMap_nil, hlimited,
    toLESigned_natCast, toLE_one, List.append_assoc, List.cons_append, List.nil_append, List.append_nil]

theorem KindFields.leader_bytes (n : Nat) : (KindFields.leader n).bytes = fieldBytes [(2, n)] ++ (zeros 38 ++ []) := by
  simp [KindFields.bytes]

theorem KindFields.table_bytes (detail : Detail) (sum : Nat) (position : Option Nat) :
    (KindFields.table detail sum position).bytes = fieldBytes
      [(1, detail.code), (1, 0), (1, 0), (1, 0), (4, sum), (4, position.getD 0xFFFFFFFF)] ++ (zeros 28 ++ []) := by
  have hzero : toLESigned 1 0 = [0] := rfl
  simp only [KindFields.bytes, optional32_eq, fieldBytes, List.flatMap_cons, List.flatMap_nil, hzero,
    toLESigned_natCast, toLE_one, List.append_assoc, List.cons_append, List.nil_append, List.append_nil]

theorem KindFields.dump_bytes (sum words : Nat) :
    (KindFields.dump sum words).bytes = fieldBytes [(4, 0), (4, sum), (4, words)] ++ (zeros 28 ++ []) := by
  have hzeros : toLESigned 4 0 = zeros 4 := rfl
  simp [KindFields.bytes, fieldBytes, hzeros]

theorem KindFields.calibrate_bytes (pwr : Tri Int) (used : Tri Nat) :
    (KindFields.calibrate pwr used).bytes = fieldBytes
      [(2, pwr.r), (2, pwr.g), (2, pwr.b), (1, used.r), (1, used.g), (1, used.b)] ++ (zeros 31 ++ []) := by
  simp [KindFields.bytes, fieldBytes, toLE_one]

/-! ## Spoil entries (R23, R176) -/

theorem spoilEntryBytes_eq (c : FrameCtx) (run : Nat) :
    spoilEntryBytes c run = fieldBytes
      [(4, c.position.getD 0xFFFFFFFF), (1, c.lastSpoil.code), (1, c.attemptsExposed), (2, c.spoilLine), (4, c.card.tag),
        (2, c.serial), (2, c.index), (2, run)] ++ (zeros 14 ++ []) := by
  simp only [spoilEntryBytes, optional32_eq, fieldBytes, List.flatMap_cons, List.flatMap_nil,
    toLESigned_natCast, toLE_one, List.append_assoc, List.cons_append, List.nil_append, List.append_nil]
/-! ## The areas as their tables give them -/

theorem resultBytes_areas (r : CardResult) (counter : Nat) :
    (r.bytes counter).length = 48 ∧ zeroBytes (r.bytes counter) 3 4 ∧
    layout (r.bytes counter)
      [(0, 1, r.outcome.code), (1, 1, r.reason.code), (2, 1, r.field), (4, 4, counter)] ∧
    (r.kind = .none → zeroBytes (r.bytes counter) 8 48) ∧
    (∀ spoil attempts limited occupancy first good k, r.kind = .frame spoil attempts limited occupancy first good k →
      layout (r.bytes counter)
        [(8, 1, spoil.code), (9, 1, attempts), (10, 1, if limited then 1 else 0), (11, 1, occupancy),
         (12, 4, first.getD 0xFFFFFFFF), (16, 4, good.getD 0xFFFFFFFF), (20, 4, k.r.low), (24, 4, k.r.high),
         (28, 4, k.g.low), (32, 4, k.g.high), (36, 4, k.b.low), (40, 4, k.b.high)] ∧
      zeroBytes (r.bytes counter) 44 48) ∧
    (∀ n, r.kind = .leader n → layout (r.bytes counter) [(8, 2, n)] ∧ zeroBytes (r.bytes counter) 10 48) ∧
    (∀ detail sum position, r.kind = .table detail sum position →
      layout (r.bytes counter) [(8, 1, detail.code), (12, 4, sum), (16, 4, position.getD 0xFFFFFFFF)] ∧
      zeroBytes (r.bytes counter) 9 12 ∧ zeroBytes (r.bytes counter) 20 48) ∧
    (∀ sum words, r.kind = .dump sum words → layout (r.bytes counter) [(12, 4, sum), (16, 4, words)] ∧
      zeroBytes (r.bytes counter) 8 12 ∧ zeroBytes (r.bytes counter) 20 48) ∧
    (∀ pwr used, r.kind = .calibrate pwr used → layout (r.bytes counter)
        [(8, 2, pwr.r), (10, 2, pwr.g), (12, 2, pwr.b), (14, 1, used.r), (15, 1, used.g), (16, 1, used.b)] ∧
      zeroBytes (r.bytes counter) 17 48) := by
  refine ⟨resultBytes_length r counter, ?_, ?_, fun hkind => ?_, fun spoil attempts limited occupancy first good k hkind => ?_,
    fun n hkind => ?_, fun detail sum position hkind => ?_, fun sum words hkind => ?_, fun pwr used hkind => ?_⟩
  · exact zeroBytes_append (pre := [byteOf r.outcome.code, byteOf r.reason.code, byteOf r.field]) (n := 1)
      (post := toLE 4 counter ++ r.kind.bytes) (Nat.le_refl 3) (Nat.le_refl 4)
  · exact layout_of_fields (resultBytes_eq r counter) (by simp [resultHead, placed])
  · exact resultBytes_zeros (kind := []) (n := 40) (post := []) (by rw [hkind]; rfl) (Nat.le_refl _) (Nat.le_refl _)
  · have hbytes := hkind ▸ KindFields.frame_bytes spoil attempts limited occupancy first good k
    exact ⟨resultBytes_layout hbytes (by simp [resultHead, placed]), resultBytes_zeros hbytes (by simp) (by simp)⟩
  · have hbytes := hkind ▸ KindFields.leader_bytes n
    exact ⟨resultBytes_layout hbytes (by simp [resultHead, placed]), resultBytes_zeros hbytes (by simp) (by simp)⟩
  · have hbytes := hkind ▸ KindFields.table_bytes detail sum position
    refine ⟨resultBytes_layout hbytes (by simp [resultHead, placed]), ?_, resultBytes_zeros hbytes (by simp) (by simp)⟩
    exact resultBytes_zeros (kind := [(1, detail.code)]) (n := 3)
      (post := toLE 4 sum ++ optional32 position ++ zeros 28) (by rw [hkind]; simp [KindFields.bytes, toLE_one, zeros])
      (by simp) (by simp)
  · have hbytes := hkind ▸ KindFields.dump_bytes sum words
    refine ⟨resultBytes_layout hbytes (by simp [resultHead, placed]), ?_, resultBytes_zeros hbytes (by simp) (by simp)⟩
    exact resultBytes_zeros (kind := []) (n := 4) (post := toLE 4 sum ++ toLE 4 words ++ zeros 28)
      (by rw [hkind]; simp [KindFields.bytes, fieldBytes]) (by simp) (by simp)
  · have hbytes := hkind ▸ KindFields.calibrate_bytes pwr used
    exact ⟨resultBytes_layout hbytes (by simp [resultHead, placed]), resultBytes_zeros hbytes (by simp) (by simp)⟩

theorem spoilEntry_areas (c : FrameCtx) (run : Nat) :
    (spoilEntryBytes c run).length = 32 ∧ zeroBytes (spoilEntryBytes c run) 18 32 ∧
    layout (spoilEntryBytes c run)
      [(0, 4, c.position.getD 0xFFFFFFFF), (4, 1, c.lastSpoil.code), (5, 1, c.attemptsExposed), (6, 2, c.spoilLine),
       (8, 4, c.card.tag), (12, 2, c.serial), (14, 2, c.index), (16, 2, run)] := by
  refine ⟨?_, ?_, layout_of_fields (spoilEntryBytes_eq c run) (by simp [placed])⟩
  · rw [spoilEntryBytes_eq, List.length_append, fieldBytes_length]
    simp [zeros]
  · rw [spoilEntryBytes_eq]
    exact zeroBytes_append (by simp [fieldBytes_length]) (by simp [fieldBytes_length])

theorem snapshot_areas (s : State) :
    layout (snapshotBody s)
      [(0, 1, s.run.state.code), (1, 1, s.run.haltCause.code), (3, 1, s.scan.lock.code), (4, 1, s.power.state.code),
       (5, 1, (if s.power.limited.r then 1 else 0) + (if s.power.limited.g then 2 else 0) +
         (if s.power.limited.b then 4 else 0)),
       (6, 1, s.ring.slots.length), (7, 1, 0),
       (8, 2, if s.seq.current.state = .empty then 0xFFFF else s.seq.current.serial),
       (10, 2, if s.seq.current.state = .empty then 0xFFFF else s.seq.current.index),
       (12, 4, s.film.counter), (16, 4, s.film.magazine), (20, 4, s.film.good), (24, 4, s.film.spoiled),
       (28, 4, s.film.leaders), (32, 4, s.frame.entriesWritten), (36, 4, s.frame.entriesDropped),
       (40, 2, s.power.pwr.r), (42, 2, s.power.pwr.g), (44, 2, s.power.pwr.b), (46, 2, 0)] ∧
    (s.frame.ctx = none → layout (snapshotBody s) [(2, 1, 0)]) ∧
    (∀ c, s.frame.ctx = some c → layout (snapshotBody s)
      [(2, 1, if c.state = .preparing then 1 else if c.state = .exposing then 2 else 3)]) ∧
    (s.scan.averages.length = 16 → (snapshotBody s).length = 248 ∧ zeroBytes (snapshotBody s) 112 248 ∧
      ∀ i < 16, layout (snapshotBody s) [(48 + 4 * i, 4, s.scan.averages.getD i 0)]) := by
  have hattempt : layout (snapshotBody s) [(2, 1, (attemptCode s.frame.ctx : Int))] :=
    snapshotBody_layout (by simp [snapshotFields, placed])
  refine ⟨snapshotBody_layout (by simp [snapshotFields, placed]), fun hctx => ?_, fun c hctx => ?_, fun haverages => ?_⟩
  · rw [hctx] at hattempt
    exact hattempt
  · rw [hctx, attemptCode] at hattempt
    cases hstate : c.state <;> rw [hstate] at hattempt <;> exact hattempt
  · refine ⟨?_, ?_, fun i hi => snapshotBody_average (by omega)⟩
    · rw [snapshotBody_eq, List.length_append, List.length_append, snapshotFields_length, averages_length, haverages]
      simp [zeros]
    · rw [snapshotBody_eq, ← List.append_assoc]
      have hlength : (fieldBytes (snapshotFields s) ++ s.scan.averages.flatMap (toLE 4)).length = 112 := by
        rw [List.length_append, snapshotFields_length, averages_length, haverages]
      have hzeros := zeroBytes_append (post := []) (n := 136) hlength.le (hi := 248) (by rw [hlength])
      rwa [List.append_nil] at hzeros

/-- Settles O22. -/
theorem writtenAreas : Obligations.WrittenAreas := by
  refine ⟨fun s => ⟨fun hoff => ?_, fun hon => ?_, snapshot_areas s⟩, fun n w => ⟨numberAt_toLE w n, toLE_length w n⟩,
    resultBytes_areas, spoilEntry_areas, fun _ => rfl, fun _ _ => rfl, fun _ _ _ => rfl, fun _ _ => rfl, rfl, rfl, rfl,
    fun _ => rfl, rfl, rfl, rfl, rfl, rfl, rfl, rfl, rfl, rfl, rfl⟩
  · rw [State.refresh, hoff]
    rfl
  · rw [State.refresh_eq, refreshWrites, if_pos hon, if_pos hon]

end Sys2Proof.Machine

/-! PROOF. What ENDING writes for the deck taken: the results of its unfinished cards, the deck's return, and the refreshes
between (R27, R126, R141, R142, R152, R153, R156, R168): O16. -/

namespace Sys2Proof.Machine

variable {s t u : State} {d : Deck} {k n : Nat}

/-! ## A result written at ENDING -/

theorem writeResult_eq {r : CardResult} (htaken : t.deck.taken = some d) (hcount : t.deck.finishedCount ≤ n) :
    t.writeResult n r = { t with
      deck := { t.deck with finishedCount := t.deck.finishedCount + 1 }
      bus := t.bus ++ resultWrites (deckAddr t d) n (t.deck.finishedCount + 1) r t.film.counter } := by
  have haddr : addrPlus (deckAddr t d) (slotOffset n + 0x50) =
      deckAddr t d + BitVec.ofNat 64 (64 + 128 * n) + 80 := by
    rw [addrPlus, slotOffset, BitVec.ofNat_add, ← BitVec.add_assoc]
    rfl
  unfold State.writeResult
  simp only [htaken]
  rw [if_neg (by omega), haddr]
  simp only [State.busWrite, State.setBus, State.setDeck, resultWrites, List.append_assoc, List.cons_append,
    List.nil_append]
  rfl

/-! ## The state between the results -/

/-- A state in ENDING, of a run that was closed at s with the deck d taken: k refreshes are made, the first n cards have
their results, and the settle, the load and the context are closed. -/
structure EndingAt (s : State) (d : Deck) (k n : Nat) (t : State) : Prop where
  taken : t.deck.taken = some d
  finished : t.deck.finishedCount = n
  enabled : t.deck.snapshotEnabled = s.deck.snapshotEnabled
  generation : s.deck.snapshotEnabled = true → t.deck.generation % 2 ^ 32 = (s.deck.generation + k) % 2 ^ 32
  address : runAddress t = runAddress s
  rb : t.rb = s.rb
  cardCount : t.deck.cardCount = s.deck.cardCount
  nextIndex : t.seq.nextIndex = s.seq.nextIndex
  film : t.film = s.film
  kinds : ∀ i, neverWorked t i = neverWorked s i
  body : snapshotBody t = snapshotBody (closingView s)

theorem EndingAt.refreshWrites_eq (h : EndingAt s d k n t) (body : List Byte) :
    refreshWrites t 1 body = refreshWrites s (k + 1) body := by
  cases hon : s.deck.snapshotEnabled with
  | false => simp [refreshWrites, h.enabled, hon]
  | true =>
    have hgeneration := h.generation hon
    have hnext : (t.deck.generation + 1) % 2 ^ 32 = (s.deck.generation + (k + 1)) % 2 ^ 32 := by omega
    rw [refreshWrites, refreshWrites, h.enabled, h.address, hnext]

/-- A card's result written into t is followed by its refresh; v is t with the result. -/
theorem EndingAt.refreshed {v : State} {r : CardResult} (h : EndingAt s d k n t)
    (hdeck : v.deck = { t.deck with finishedCount := t.deck.finishedCount + 1 })
    (hbus : v.bus = t.bus ++ resultWrites (deckAddr t d) n (t.deck.finishedCount + 1) r t.film.counter)
    (hregs : v.regs = t.regs) (hrb : v.rb = t.rb) (hnext : v.seq.nextIndex = t.seq.nextIndex) (hfilm : v.film = t.film)
    (hkinds : ∀ i, neverWorked v i = neverWorked t i) (hbody : snapshotBody v = snapshotBody t) :
    EndingAt s d (k + 1) (n + 1) v.refresh ∧
    v.refresh.bus = t.bus ++
      (resultWrites (deckAddr s d) n (n + 1) r s.film.counter ++ refreshWrites s (k + 1) (snapshotBody (closingView s))) := by
  have haddr : deckAddr t d = deckAddr s d := by unfold deckAddr; rw [h.rb]
  have haddress : runAddress v = runAddress t := by rw [runAddress, hregs]; rfl
  have hrefresh : refreshWrites v 1 (snapshotBody v) = refreshWrites s (k + 1) (snapshotBody (closingView s)) := by
    rw [hbody, h.body, ← h.refreshWrites_eq]
    exact refreshWrites_congr haddress (by rw [hdeck]) (by rw [hdeck]) _
  refine ⟨⟨?_, ?_, ?_, fun hon => ?_, ?_, ?_, ?_, ?_, ?_, fun i => ?_, ?_⟩, ?_⟩
  · rw [State.refresh_taken, hdeck, ← h.taken]
  · rw [State.refresh_eq, hdeck, ← h.finished]
  · rw [State.refresh_snapshotEnabled, hdeck, ← h.enabled]
  · have hgeneration := h.generation hon
    rw [State.refresh_eq, hdeck]
    simp only [h.enabled, hon, if_true]
    omega
  · rw [← h.address, ← haddress, State.refresh_eq]
    rfl
  · rw [State.refresh_rb, hrb, h.rb]
  · rw [State.refresh_eq, hdeck, ← h.cardCount]
  · rw [State.refresh_seq, hnext, h.nextIndex]
  · rw [State.refresh_film, hfilm, h.film]
  · rw [← h.kinds i, ← hkinds i, State.refresh_eq]
    rfl
  · rw [snapshotBody_refresh, hbody, h.body]
  · rw [State.refresh_bus, hrefresh, hbus, haddr, h.finished, h.film, List.append_assoc]

/-- A later card's result written with its refresh. -/
theorem EndingAt.result {r : CardResult} (h : EndingAt s d k n t) :
    EndingAt s d (k + 1) (n + 1) (t.writeResult n r).refresh ∧
    (t.writeResult n r).refresh.bus = t.bus ++
      (resultWrites (deckAddr s d) n (n + 1) r s.film.counter ++ refreshWrites s (k + 1) (snapshotBody (closingView s))) := by
  rw [writeResult_eq (r := r) h.taken h.finished.le]
  exact h.refreshed rfl rfl rfl rfl rfl rfl (fun _ => rfl) rfl

/-- The current card's result handed on with its refresh. -/
theorem EndingAt.handed {r : CardResult} (h : EndingAt s d k n t) (hcurrent : t.seq.current.index = n) :
    EndingAt s d (k + 1) (n + 1) (t.handResult r).refresh ∧
    (t.handResult r).refresh.bus = t.bus ++
      (resultWrites (deckAddr s d) n (n + 1) r s.film.counter ++ refreshWrites s (k + 1) (snapshotBody (closingView s))) := by
  subst hcurrent
  rw [handResult_eq h.taken h.finished.le]
  exact h.refreshed rfl rfl rfl rfl rfl rfl (fun _ => rfl) rfl

/-- The writes for the cards from an index on that get SKIPPED, with k refreshes made before them (R142). -/
def skippedWrites (s : State) (d : Deck) (k n cards : Nat) : List BusOp :=
  (List.range cards).flatMap fun j =>
    resultWrites (deckAddr s d) (n + j) (n + j + 1)
      { outcome := .skipped, reason := .none, field := 0, kind := neverWorked s (n + j) } s.film.counter ++
    refreshWrites s (k + 1 + j) (snapshotBody (closingView s))

theorem skippedWrites_succ (s : State) (d : Deck) (k n cards : Nat) :
    skippedWrites s d k n (cards + 1) =
      (resultWrites (deckAddr s d) n (n + 1)
        { outcome := .skipped, reason := .none, field := 0, kind := neverWorked s n } s.film.counter ++
      refreshWrites s (k + 1) (snapshotBody (closingView s))) ++ skippedWrites s d (k + 1) (n + 1) cards := by
  unfold skippedWrites
  rw [List.range_succ_eq_map, List.flatMap_cons, List.flatMap_map]
  refine congrArg₂ (· ++ ·) rfl (List.flatMap_congr fun j _ => ?_)
  simp only [Nat.succ_eq_add_one]
  rw [show n + (j + 1) = n + 1 + j by omega, show k + 1 + (j + 1) = k + 1 + 1 + j by omega]

theorem EndingAt.skipCards (cards : Nat) : ∀ {k n : Nat} {t : State}, EndingAt s d k n t →
    EndingAt s d (k + cards) (n + cards) (State.skipCards cards n t) ∧
    (State.skipCards cards n t).bus = t.bus ++ skippedWrites s d k n cards := by
  induction cards with
  | zero => exact fun h => ⟨h, (List.append_nil _).symm⟩
  | succ cards ih =>
    intro k n t h
    obtain ⟨hnext, hbus⟩ := h.result (r := skipped (neverWorked t n))
    obtain ⟨hlast, hrest⟩ := ih hnext
    rw [show k + (cards + 1) = k + 1 + cards by omega, show n + (cards + 1) = n + 1 + cards by omega]
    refine ⟨hlast, hrest.trans ?_⟩
    rw [hbus, skippedWrites_succ, List.append_assoc, h.kinds n]
    rfl

/-! ## The entry of ENDING, and the deck's return -/

/-- What the snapshot's body shows. -/
theorem snapshotBody_congr {v : State} (hstate : v.run.state = s.run.state) (hcause : v.run.haltCause = s.run.haltCause)
    (hctx : v.frame.ctx = s.frame.ctx) (hentries : v.frame.entries = s.frame.entries)
    (hlock : v.scan = s.scan) (hpower : v.power.state = s.power.state) (hlimited : v.power.limited = s.power.limited)
    (hpwr : v.power.pwr = s.power.pwr) (hslots : v.ring.slots = s.ring.slots) (hseq : v.seq.current = s.seq.current)
    (hfilm : v.film = s.film) : snapshotBody v = snapshotBody s := by
  obtain ⟨hwritten, hdropped⟩ := Prod.mk.inj hentries
  simp only [snapshotBody, hstate, hcause, hctx, hwritten, hdropped, hlock, hpower, hlimited, hpwr, hslots, hseq, hfilm]

/-- ENDING entered, before its refresh (R168 step 1). -/
def State.endingEntered (s : State) : State :=
  ((s.setDeck s.deck.stopSeek).setRun { s.run with pausePending := false }).enterRunState .ending

theorem endingEntered_eq (s : State) :
    s.endingEntered = { s with
      deck := s.deck.stopSeek, run := { s.run with state := .ending, pausePending := false }
      power := { s.power with gateOpen := false, marked := markedAtClosing s } } := by
  rw [State.endingEntered, enterRunState_of_closing (r := .ending) rfl, markedAtGate_false]
  rfl

theorem enterEnding_bus (s : State) :
    s.enterEnding.bus = s.bus ++ refreshWrites s 1 (snapshotBody { s with run.state := .ending }) := by
  have hbegun : s.enterEnding = s.endingEntered.refresh := rfl
  rw [hbegun, State.refresh_bus, endingEntered_eq]
  rfl

theorem enterEnding_deck (s : State) :
    s.enterEnding.deck = { s.deck.stopSeek with
      generation := if s.deck.snapshotEnabled then (s.deck.generation + 1) % 2 ^ 32 else s.deck.generation } := by
  have hbegun : s.enterEnding = s.endingEntered.refresh := rfl
  rw [hbegun, State.refresh_eq, endingEntered_eq]
  rfl

/-- ENDING with the load abandoned and the settle ended, before the results. -/
def State.endingBegun (s : State) : State := s.enterEnding.abandonLoad.endSettle

theorem State.ended_eq (s : State) : s.ended = s.endingBegun.endResults := rfl

theorem closeCtx_slots (s : State) : s.closeCtx.ring.slots = if s.frame.ctx = none then s.ring.slots else [] := by
  unfold State.closeCtx
  split
  next hnone => rw [if_pos hnone]
  next c hsome =>
    rw [if_neg (by rw [hsome]; nofun), State.flushParked_eq]
    rfl

theorem closeCtx_entries (s : State) : s.closeCtx.frame = { s.frame with ctx := none } := by
  unfold State.closeCtx
  split
  next hnone => rw [← hnone]
  next => rw [State.flushParked_eq]; rfl

theorem closeCtx_bus (s : State) : s.closeCtx.bus = s.bus := by
  unfold State.closeCtx
  split
  · rfl
  · rw [State.flushParked_eq]; rfl

/-- What the Power Regulator shows of ENDING with the settle ended is what it shows of the run closed. -/
theorem endingBegun_shown (s : State) :
    s.endingBegun.power.state = (settleEnded s).power.state ∧ s.endingBegun.power.limited = (settleEnded s).power.limited ∧
    s.endingBegun.power.pwr = (settleEnded s).power.pwr := by
  have hpower : s.enterEnding.abandonLoad.power =
      { s.power with gateOpen := false, marked := markedAtClosing s } := by
    rw [State.abandonLoad_power, State.enterEnding_power]
  rw [State.endingBegun, State.endSettle_eq, settleEnded, settleEnded, hpower]
  by_cases hsettling : s.power.state = .settling
  · rw [if_pos hsettling, if_pos hsettling]
    exact ⟨rfl, rfl, rfl⟩
  · rw [if_neg hsettling, if_neg hsettling, hpower]
    exact ⟨rfl, rfl, rfl⟩

theorem settleEnded_rest (s : State) :
    (settleEnded s).scan = s.scan ∧ (settleEnded s).seq = s.seq ∧ (settleEnded s).film = s.film := by
  unfold settleEnded
  split <;> exact ⟨rfl, rfl, rfl⟩

theorem snapshotBody_closed (s : State) : snapshotBody s.endingBegun.closeCtx = snapshotBody (closingView s) := by
  obtain ⟨hstate, hlimited, hpwr⟩ := endingBegun_shown s
  obtain ⟨hscan, hseq, hfilm⟩ := settleEnded_rest s
  have hframe : s.endingBegun.frame = s.frame := by simp [State.endingBegun]
  have hring : s.endingBegun.ring = s.ring := by simp [State.endingBegun]
  refine snapshotBody_congr ?_ ?_ ?_ ?_ ?_ ?_ ?_ ?_ ?_ ?_ ?_
  · simp [State.endingBegun, closingView]
  · simp [State.endingBegun, closingView]
  · rw [closeCtx_entries]; rfl
  · rw [closeCtx_entries, hframe]; rfl
  · simp [State.endingBegun, closingView, hscan]
  · rw [State.closeCtx_power]; exact hstate
  · rw [State.closeCtx_power]; exact hlimited
  · rw [State.closeCtx_power]; exact hpwr
  · rw [closeCtx_slots, hframe, hring]; rfl
  · simp [State.endingBegun, closingView, hseq]
  · simp [State.endingBegun, closingView, hfilm]

theorem endingBegun_deck (s : State) : s.endingBegun.deck = { s.deck.stopSeek with
    generation := if s.deck.snapshotEnabled then (s.deck.generation + 1) % 2 ^ 32 else s.deck.generation } := by
  rw [← enterEnding_deck]
  simp [State.endingBegun]

/-- The run is ENDING with everything closed, and no result is written yet. -/
theorem endingAt_closed (htaken : s.deck.taken = some d) :
    EndingAt s d 1 s.deck.finishedCount s.endingBegun.closeCtx := by
  have hdeck : s.endingBegun.closeCtx.deck = _ := (State.closeCtx_deck _).trans (endingBegun_deck s)
  have hseq : s.endingBegun.closeCtx.seq = s.seq := by simp [State.endingBegun]
  have hregs : s.endingBegun.closeCtx.regs = s.regs := by simp [State.endingBegun]
  refine ⟨?_, ?_, ?_, fun hon => ?_, ?_, ?_, ?_, ?_, ?_, fun i => ?_, snapshotBody_closed s⟩
  · rw [hdeck]; exact htaken
  · rw [hdeck]; rfl
  · rw [hdeck]; rfl
  · rw [hdeck, hon]
    exact Nat.mod_mod _ _
  · rw [runAddress, hregs]; rfl
  · simp [State.endingBegun]
  · rw [hdeck]; rfl
  · rw [hseq]
  · simp [State.endingBegun]
  · simp only [neverWorked, hseq]

theorem closed_bus (s : State) :
    s.endingBegun.closeCtx.bus = s.bus ++ refreshWrites s 1 (snapshotBody { s with run.state := .ending }) := by
  rw [closeCtx_bus, ← enterEnding_bus]
  simp [State.endingBegun]

/-! ## The current card's result (R142) -/

theorem closeCtx_handResult {r : CardResult} (htaken : u.deck.taken = some d)
    (hcount : u.deck.finishedCount ≤ u.seq.current.index) :
    (u.handResult r).closeCtx = u.closeCtx.handResult r := by
  have hhanded := handResult_eq (s := u.closeCtx) (d := d) (by simpa using htaken) (by simpa using hcount) r
  rw [handResult_eq htaken hcount, hhanded]
  unfold State.closeCtx
  cases hctx : u.frame.ctx with
  | none => simp only
  | some c =>
    simp only
    rw [State.flushParked_eq, State.flushParked_eq]
    rfl

theorem currentUnfinished_begun (s : State) : currentUnfinished s.endingBegun = currentUnfinished s := by
  simp [currentUnfinished, State.endingBegun]

theorem currentEndResult_begun (s : State) : currentEndResult s.endingBegun = currentEndResult s := by
  simp [currentEndResult, State.endingBegun]

/-- The results that ENDING writes, with no card current unfinished. -/
theorem ended_of_finished (htaken : s.deck.taken = some d) (hfinished : currentUnfinished s = false)
    (hcount : s.deck.finishedCount = s.seq.nextIndex) :
    EndingAt s d (1 + (s.deck.cardCount - s.seq.nextIndex)) (s.seq.nextIndex + (s.deck.cardCount - s.seq.nextIndex)) s.ended ∧
    s.ended.bus = s.bus ++ refreshWrites s 1 (snapshotBody { s with run.state := .ending }) ++
      skippedWrites s d 1 s.seq.nextIndex (s.deck.cardCount - s.seq.nextIndex) := by
  have hclosed := endingAt_closed htaken
  have hcurrent : s.endingBegun.endCurrent = s.endingBegun.closeCtx := by
    rw [State.endCurrent, currentUnfinished_begun, hfinished]
    rfl
  have hended : s.ended = State.skipCards (s.deck.cardCount - s.seq.nextIndex) s.seq.nextIndex s.endingBegun.closeCtx := by
    have htaken' : s.endingBegun.deck.taken = some d := by rw [endingBegun_deck]; exact htaken
    rw [State.ended_eq, State.endResults, htaken']
    simp only [hcurrent, hclosed.cardCount, hclosed.nextIndex]
  rw [hcount] at hclosed
  rw [hended, ← closed_bus]
  exact hclosed.skipCards _

/-- The results that ENDING writes, the card current unfinished among them. -/
theorem ended_of_unfinished (htaken : s.deck.taken = some d) (hunfinished : currentUnfinished s = true)
    (hcount : s.deck.finishedCount = s.seq.current.index) (hnext : s.seq.nextIndex = s.seq.current.index + 1) :
    EndingAt s d (2 + (s.deck.cardCount - s.seq.nextIndex)) (s.seq.nextIndex + (s.deck.cardCount - s.seq.nextIndex)) s.ended ∧
    s.ended.bus = s.bus ++ refreshWrites s 1 (snapshotBody { s with run.state := .ending }) ++
      (resultWrites (deckAddr s d) s.seq.current.index s.seq.nextIndex (currentEndResult s) s.film.counter ++
        refreshWrites s 2 (snapshotBody (closingView s))) ++
      skippedWrites s d 2 s.seq.nextIndex (s.deck.cardCount - s.seq.nextIndex) := by
  have htaken' : s.endingBegun.deck.taken = some d := by rw [endingBegun_deck]; exact htaken
  have hcount' : s.endingBegun.deck.finishedCount ≤ s.endingBegun.seq.current.index := by
    rw [endingBegun_deck]
    simpa [State.endingBegun, DeckReader.stopSeek] using hcount.le
  have hcurrent : s.endingBegun.endCurrent = (s.endingBegun.closeCtx.handResult (currentEndResult s)).refresh := by
    rw [State.endCurrent, currentUnfinished_begun, hunfinished, if_pos rfl, currentEndResult_begun,
      closeCtx_handResult htaken' hcount']
  have hclosed := endingAt_closed htaken
  rw [hcount] at hclosed
  obtain ⟨hhanded, hbus⟩ := hclosed.handed (r := currentEndResult s) (by simp [State.endingBegun])
  rw [← hcurrent] at hhanded hbus
  have hended : s.ended =
      State.skipCards (s.deck.cardCount - s.seq.nextIndex) s.seq.nextIndex s.endingBegun.endCurrent := by
    rw [State.ended_eq, State.endResults, htaken']
    simp only [hhanded.cardCount, hhanded.nextIndex]
  rw [hended, ← closed_bus, hnext, ← hbus]
  rw [hnext] at hended
  exact hhanded.skipCards _

/-! ## The deck returned and the run closed -/

/-- IDLE entered, before its refresh (R168). -/
def State.idleEntered (s : State) : State :=
  (s.ended.returnDeck.flushParked.clearPending.enterRunState .idle).emptyRecords.raise .runEnd

theorem State.endRun_eq_idleEntered (s : State) :
    s.endRun = s.idleEntered.refresh.setDeck { s.idleEntered.refresh.deck with snapshotEnabled := false } := by
  rw [State.endRun_eq]
  unfold State.toIdle State.idleEntered
  rfl

theorem State.idleEntered_deck (s : State) : s.idleEntered.deck = s.ended.returnDeck.deck := by
  simp [State.idleEntered]

theorem State.idleEntered_bus (s : State) : s.idleEntered.bus = s.ended.returnDeck.bus := by
  simp [State.idleEntered, State.flushParked_eq]

theorem State.idleEntered_runAddress (s : State) : runAddress s.idleEntered = runAddress s.ended.returnDeck := by
  have hregs : s.idleEntered.regs = (s.ended.returnDeck.raise .runEnd).regs := by
    simp [State.idleEntered, State.raise]
  rw [runAddress, hregs]
  rfl

/-- The run closed from ENDING's last result on: RETURNED, and the refresh of IDLE (R153, R168). -/
theorem endRun_of_endingAt (h : EndingAt s d k n s.ended) :
    s.endRun.deck.finishedCount = n ∧
    s.endRun.bus = s.ended.bus ++ [.write (deckAddr s d) [3, 0, 0, 0]] ++ refreshWrites s (k + 1) (snapshotBody s.endRun) := by
  have haddr : deckAddr s.ended d = deckAddr s d := by unfold deckAddr; rw [h.rb]
  have hdeck : s.idleEntered.deck = { s.ended.deck with taken := none } := by
    rw [s.idleEntered_deck, returnDeck_of_taken h.taken]
    rfl
  have haddress : runAddress s.idleEntered = runAddress s.ended := by
    rw [s.idleEntered_runAddress, returnDeck_of_taken h.taken]
    rfl
  have hbus : s.idleEntered.bus = s.ended.bus ++ [.write (deckAddr s d) [3, 0, 0, 0]] := by
    rw [s.idleEntered_bus, returnDeck_of_taken h.taken, haddr]
    rfl
  have hbody : snapshotBody s.endRun = snapshotBody s.idleEntered := snapshotBody_refresh s.idleEntered
  refine ⟨?_, ?_⟩
  · rw [s.endRun_eq_idleEntered, State.refresh_eq, hdeck]
    exact h.finished
  · have hrefresh : s.endRun.bus = s.idleEntered.refresh.bus := rfl
    rw [hrefresh, State.refresh_bus, hbus, hbody, ← h.refreshWrites_eq,
      refreshWrites_congr haddress (by rw [hdeck]) (by rw [hdeck])]

/-! ## The kinds of the cards skipped -/

theorem showsCard_iff {r : CardRecord} {i : Nat} {b : CardBody} :
    showsCard r i b ↔ (if r.index = i && !r.entered then r.body else none) = some b := by
  unfold showsCard CardRecord.body
  cases r.state with
  | empty => simp
  | reading => simp
  | present =>
    cases houtcome : r.outcome <;> simp [CardOutcome.body] <;> tauto

theorem neverWorked_eq (s : State) (i : Nat) :
    neverWorked s i =
      match (if s.seq.current.index = i && !s.seq.current.entered then s.seq.current.body else none),
        (if s.seq.lookahead.index = i && !s.seq.lookahead.entered then s.seq.lookahead.body else none) with
      | some b, _ => unworked b
      | none, some b => unworked b
      | none, none => .none := rfl

theorem skippedKind_neverWorked (s : State) (i : Nat) : skippedKind s i (neverWorked s i) := by
  simp only [skippedKind, showsCard_iff, neverWorked_eq]
  generalize (if s.seq.current.index = i && !s.seq.current.entered then s.seq.current.body else none) = current
  generalize (if s.seq.lookahead.index = i && !s.seq.lookahead.entered then s.seq.lookahead.body else none) = lookahead
  cases current with
  | some b => simp
  | none => cases lookahead <;> simp

/-! ## ENDING's results (R142, R168) -/

/-- The run closed after ENDING's last result, with k refreshes made before the later cards are SKIPPED (R142, R153). -/
theorem endRun_of_skipped {opened : List BusOp} (hmore : s.seq.nextIndex ≤ s.deck.cardCount)
    (hending : EndingAt s d (k + (s.deck.cardCount - s.seq.nextIndex))
      (s.seq.nextIndex + (s.deck.cardCount - s.seq.nextIndex)) s.ended)
    (hbus : s.ended.bus = opened ++ skippedWrites s d k s.seq.nextIndex (s.deck.cardCount - s.seq.nextIndex)) :
    s.endRun.deck.finishedCount = s.deck.cardCount ∧
    s.endRun.bus = opened ++ (skippedWrites s d k s.seq.nextIndex (s.deck.cardCount - s.seq.nextIndex) ++
      [.write (deckAddr s d) [3, 0, 0, 0]] ++
      refreshWrites s (k + 1 + (s.deck.cardCount - s.seq.nextIndex)) (snapshotBody s.endRun)) := by
  obtain ⟨hfinished, hrun⟩ := endRun_of_endingAt hending
  refine ⟨by omega, ?_⟩
  rw [hrun, hbus, Nat.add_right_comm k 1]
  simp only [List.append_assoc]

/-- Settles O16. -/
theorem endingGivesResults : Obligations.EndingGivesResults := by
  rintro s d opened skippedFrom htaken rfl hskipped
  obtain ⟨-, -, hreturned⟩ := State.endRun_regs s
  refine ⟨by rw [State.endRun_run], (State.endRun_deck s).1, hreturned (by rw [htaken]; nofun), fun hmore => ⟨?_, ?_⟩⟩
  · intro hfinished hcount
    obtain ⟨hending, hbus⟩ := ended_of_finished htaken hfinished hcount
    obtain ⟨hall, hwrites⟩ := endRun_of_skipped hmore hending hbus
    exact ⟨hall, neverWorked s, skippedKind_neverWorked s, by rw [hwrites, hskipped]; rfl⟩
  · intro o kind hpresent hentered hunfinished hcount hnext hcase
    have hcurrent : currentUnfinished s = true := by simp [currentUnfinished, hpresent, hentered, hunfinished]
    have hbody : s.seq.current.body = s.seq.current.outcome.body := by rw [CardRecord.body, hpresent]
    have hresult : currentEndResult s = { outcome := o, reason := .none, field := 0, kind := kind } := by
      rw [currentEndResult, hbody]
      rcases hcase with ⟨b, c, hcard, hctx, rfl, rfl⟩ | ⟨n, e, l, hcard, hleader, rfl, rfl⟩ | ⟨hcard, rfl, rfl⟩ |
        ⟨g, a, x, hcard, rfl, rfl⟩ | ⟨g, a, hcard, rfl, rfl⟩ | ⟨hcard, rfl, rfl⟩
      · simp only [hcard, CardOutcome.body, hctx, frameEndResult]
        split <;> rfl
      · simp only [hcard, CardOutcome.body, hleader]; rfl
      · simp only [hcard, CardOutcome.body, beq_iff_eq]
      · rw [hcard]; rfl
      · rw [hcard]; rfl
      · rw [hcard]; rfl
    obtain ⟨hending, hbus⟩ := ended_of_unfinished htaken hcurrent hcount hnext
    rw [hresult] at hbus
    obtain ⟨hall, hwrites⟩ := endRun_of_skipped hmore hending hbus
    exact ⟨hall, neverWorked s, fun i _ => skippedKind_neverWorked s i, by rw [hwrites, hskipped]; rfl⟩

end Sys2Proof.Machine
